-- ==== Sys2Proof/Word.lean ====
section
/-! DEFINITION. The word type of the ZS2432 and its plainest arithmetic (spec/00_scope.md R4, R5). -/

namespace Sys2Proof

/-- A register or MRAM word (R5). -/
abbrev Word := BitVec 32

/-- One byte of a link or bus frame. -/
abbrev Byte := BitVec 8

/-- A word from a natural number, modulo 2^32. -/
abbrev w32 (n : Nat) : Word := BitVec.ofNat 32 n

/-- A byte from a natural number, modulo 2^8. -/
abbrev b8 (n : Nat) : Byte := BitVec.ofNat 8 n

end Sys2Proof
end

