-- ==== Sys2Proof/Syntax.lean ====
section
/-! DEFINITION. The commands of the ZS2432: one constructor per row of spec/opcode_table.json, with the row's
operands. Frames stand as the bytes on the wire; the meanings parse them. -/

namespace Sys2Proof

/-- The paths a register access comes by (R8, R349, R550): the host interface, the service port, a Ridge
REG_READ or REG_WRITE, a chain READ or WRITE. -/
inductive Port where
  | host | svc | ridge | chain
  deriving DecidableEq, Repr

/-- The physical host bus of a transaction (R479, R482). -/
inductive HostBus where
  | spi | i2c
  deriving DecidableEq, Repr

/-- What the clock monitor saw (R82, R83, R85): the crystal, the PLL with a healthy crystal, the AON clock. -/
inductive ClockFailKind where
  | crystal | pll | aon
  deriving DecidableEq, Repr

/-- Wake causes from DOZE (R109), in the bit order of `SYS_PWR.WAKE_CAUSE`. -/
inductive WakeCause where
  | wakePin | comparator | hostAccess | srcEdge
  deriving DecidableEq, Repr

/-- Reset sources (R114, Table 4-1), code 0x0 to 0xB in order. -/
inductive RstSource where
  | por | pin | wdt | host | svc | ridge | fabric | parity | ecc2 | clkfail | image | mirror
  deriving DecidableEq, Repr

/-- The steps of the device, one constructor per row of the table of operations and events. An operand `co` names the sources whose
resets are raised in the same cycle, none by default (R124). -/
inductive Instr where
  /-- REGISTER_WRITE (R8): A host, service-port, Ridge or chain write to a register that has no row of its own acts as its access code states (RW, W1C, WO or ignored). -/
  | registerWrite (p : Port) (addr : Nat) (v : Word)
  /-- LIVE_WRITE (R11): A write to a LIVE register is held pending and reads back at once; the last pending value takes effect at the next scan boundary, or at once while the scan engine is stopped. -/
  | liveWrite (p : Port) (addr : Nat) (v : Word)
  /-- RC_FIELD_READ (R10): A host read of a register with RC fields returns the value and then clears the marked bits, unless an event sets them in the same cycle. -/
  | rcFieldRead (p : Port) (addr : Nat)
  /-- POWER_ON_RESET (R73): VIN rising through the POR release threshold after a re-arm starts an L0 reset at stage 1. -/
  | powerOnReset
  /-- POR_REARM (R73): VCORE falling below 0.6 V powers down the AON domain and arms the power-on reset. -/
  | porRearm
  /-- RC_READY (R96): Stage 1 completes when the internal 12 MHz RC is ready, and stage 2 begins. -/
  | rcReady
  /-- REGULATORS_READY (R96): Stage 2 completes when the VCORE and AVDD regulators report ready, and the fuse shadow load begins. -/
  | regulatorsReady
  /-- FUSE_LOAD_DONE (R529): A fuse shadow load attempt ends: matching CRCs make the shadow valid, a mismatch restarts the load, and the third consecutive failure enters SAFE_IDLE. -/
  | fuseLoadDone (senseOk : Bool)
  /-- XTAL_TIMEOUT (R83): The crystal is not valid 8 ms into stage 4, so the PLL switches to the RC and sets CLK_FALLBACK. -/
  | xtalTimeout
  /-- PLL_LOCK (R96): The PLL locks, which completes stage 4 or the relock after a clock failure and arms the clock monitor. -/
  | pllLock
  /-- IMAGE_SELECT_DONE (R172): Stage 5 ends after both slot headers are read, the candidates are checked, and a valid image is loaded or R17 applies. -/
  | imageSelectDone
  /-- RESET_RELEASE_STEP (R128): The release sequencer takes the next clock domain out of reset, one step of 333 ns after the previous one. -/
  | resetReleaseStep
  /-- HOST_IF_RELEASE (R129): The host interface leaves reset 12 µs after the CORE step and latches the BOOT interrupt. -/
  | hostIfRelease
  /-- RSTOUT_RELEASE (R60): RSTOUT_N is released 100 µs after the USB domain leaves reset, except in bench mode. -/
  | rstoutRelease
  /-- CP_READY (R72): The charge pump reports CP_OK, so GATE-mode pins may turn on and rails waiting on it proceed. -/
  | cpReady
  /-- STAGE6_DONE (R97): Stage 6 completes, with domains released, ADC calibrated and VDDIO_OK seen, so SYS_ROLE.STATE leaves STARTING and the role starts or is refused. -/
  | stage6Done
  /-- STAGE_TIMEOUT (R99): A start-up stage exceeds its timeout, so FAULT_N is asserted, every domain except AON is held in reset and the retry wait starts. -/
  | stageTimeout
  /-- RETRY_WAIT_EXPIRY (R100): The retry wait ends, 100 ms or the stack backoff, and start-up begins again at stage 1. -/
  | retryWaitExpiry
  /-- VDDIO_RISE (R70): VDDIO rises through 1.6 V, so VDDIO_OK becomes 1 and VDDIO-domain outputs and the host interface are enabled. -/
  | vddioRise
  /-- VDDIO_LOST (R71): VDDIO falls below 1.5 V after stage 6, so VDDIO_LOST is set and the VDDIO-low fabric source rises. -/
  | vddioLost
  /-- SRC_FAULT_EDGE (R77): The SRC channel's FL output asserts, so the log write stops, a source-loss marker is written, counters flush and the SRC reaction starts. -/
  | srcFaultEdge (co : Bool)
  /-- SRC_RECOVER (R341): SRC_FAULT returns to 0 and logging resumes with the next capture. -/
  | srcRecover
  /-- CLOCK_FAIL (R82): The clock monitor detects a crystal, PLL or AON clock failure, raises CLKFAIL and gates every PLL-derived clock. -/
  | clockFail (kind : ClockFailKind) (co : List RstSource := [])
  /-- TB_UP_LO_READ (R92): A read of TB_UP_LO returns the low half and latches the high half of the same instant. -/
  | tbUpLoRead (p : Port)
  /-- BENCH_ENTRY (R104): The AON domain powers up from VBUSDET with VIN below POR release, so the device starts in bench mode with only CORE and USB released. -/
  | benchEntry
  /-- BENCH_EXIT (R106): VIN rises through POR release during bench mode, which causes an L0 reset with source POR and a normal start. -/
  | benchExit (co : List RstSource := [])
  /-- VBUS_LOSS (R106): VBUS falls below 3.6 V, which detaches the service port and removes power from the device in bench mode. -/
  | vbusLoss
  /-- DOZE_REQUEST (R107): A write of 1 to SYS_PWR.DOZE enters DOZE if the conditions hold, and otherwise sets DOZE_REF. -/
  | dozeRequest (p : Port) (v : Word)
  /-- DOZE_WAKE (R109): The WAKE pin, a comparator latch, host access or an SRC edge wakes the device from DOZE, which restarts the PLL and records the wake cause. -/
  | dozeWake (cause : WakeCause)
  /-- MASTER_LISTEN_END (R27): The 3,000 µs listening window ends without a foreign tick, so the master starts driving the tick. -/
  | masterListenEnd
  /-- SECOND_MASTER_DETECTED (R27): A tick edge from another master is seen while listening or driving, so the device stops driving within one frame and refuses with SECOND_MASTER. -/
  | secondMasterDetected
  /-- PIN_RESET (R60): A low pulse longer than 2 µs on RESET_N raises reset source PIN. -/
  | pinReset (co : List RstSource)
  /-- RESET_PIN_RELEASE (R118): RESET_N rises, and reset release begins no earlier than 20 µs later. -/
  | resetPinRelease
  /-- RESET_ASSERT_MIN_EXPIRY (R118): The minimum 20 µs assertion of an L1 to L3 reset ends, and release begins once the source has ended. -/
  | resetAssertMinExpiry
  /-- PARITY_ERROR (R123): A parity error in critical state or in the fuse shadow raises source PARITY at L2, or at L0 for the shadow. -/
  | parityError (shadow : Bool) (co : List RstSource)
  /-- ECC2_ERROR (R115): A double-bit error in configuration SRAM, or in an MRAM word read for the device's own operation, raises source ECC2. -/
  | ecc2Error (sram : Bool) (co : List RstSource)
  /-- RST_CMD_WRITE (R140): A write to RST_CMD with the key and GO raises a HOST reset at the end of its transaction; a wrong key sets BADKEY. -/
  | rstCmdWrite (p : Port) (v : Word) (co : List RstSource := [])
  /-- BLOCK_RESET_REQUEST (R141): A keyed write to RST_BLK requests resets of wrapped blocks, which are always accepted, and of unwrapped blocks, which are accepted only if IDLE. -/
  | blockResetRequest (p : Port) (v : Word)
  /-- BLOCK_RESET_END (R142): A wrapped block leaves its 2 µs block reset, its BUSY bit clears and its generation tag has advanced. -/
  | blockResetEnd (blk : Nat)
  /-- ADOPT_SAMPLE (R153): After settling, ADOPT samples each rail's EN state and comparator outputs, twice and 10 µs apart. -/
  | adoptSample
  /-- SYSREACT_RESTART (R158): 2,000 µs after the ADOPT exit following a SYSTEM FABRIC reset, an SGL or MST device starts RISING. -/
  | sysreactRestart
  /-- BG_CHECK_PASS (R173): A background CRC pass over the loaded configuration completes, and a mismatch raises reset source IMAGE. -/
  | bgCheckPass (intact : Bool) (co : List RstSource := [])
  /-- IMG_VERIFY (R177): IMG_CTRL command VERIFY starts all image checks on the target slot, unless it is refused. -/
  | imgVerify (p : Port) (v : Word)
  /-- VERIFY_DONE (R177): A VERIFY completes, sets the reject code, VERIFIED and LIVE_OK, and latches the IMG interrupt. -/
  | verifyDone
  /-- IMG_ACTIVATE_LIVE (R178): IMG_CTRL command ACTIVATE_LIVE is accepted or refused, and an accepted one pends until the next scan boundary. -/
  | imgActivateLive (p : Port) (v : Word)
  /-- IMG_ACTIVATE_FULL (R181): IMG_CTRL command ACTIVATE_FULL is accepted or refused in HOLD, and an accepted one engages the reload guard and stops the fabric. -/
  | imgActivateFull (p : Port) (v : Word)
  /-- IMG_NO_ACTION (R174): IMG_CTRL with the correct key and CMD 0b00 clears IMG_STAT.ERR and does nothing else. -/
  | imgNoAction (p : Port) (v : Word)
  /-- RELOAD_CHECK_DONE (R182): The re-read of the new slot for a full reload completes, and a failure abandons the reload with the old image in HOLD. -/
  | reloadCheckDone
  /-- RELOAD_COPY_DONE (R182): The copy into configuration SRAM completes, comparators and the fabric switch to the new image, the guard is released and ADOPT follows. -/
  | reloadCopyDone (copyOk : Bool)
  /-- FAB_TIMER_EXPIRY (R185): A reed cell timer reaches its N-th tick and its DELAY_ON, DELAY_OFF or PULSE output changes. -/
  | fabTimerExpiry (cell : Nat)
  /-- REACT_EDGE (R191): A rising edge at a REACT sink is a fault event of the rail: the fast-off gate acts and the sequencer runs the rail's reaction. -/
  | reactEdge
  /-- GRPDN_EDGE (R189): A rising edge at a GRPDN sink starts a group stop of that group at its instant. -/
  | grpdnEdge (g : Nat)
  /-- FAB_SYS_RESET (R189): A rising edge at the SYS_RESET sink raises reset source FABRIC with SYSREACT = 0. -/
  | fabSysReset (co : List RstSource := [])
  /-- FAB_SEQ_START (R192): A rising edge at the SEQ_START sink issues a START with launch time TB_NOW plus START_LEAD. -/
  | fabSeqStart
  /-- FAB_SEQ_STOP (R192): A rising edge at the SEQ_STOP sink issues a STOP with launch time TB_NOW plus START_LEAD. -/
  | fabSeqStop
  /-- FAB_IRQ_EDGE (R497): A rising edge at a FAB_IRQ sink sets its bit in SYS_FABIRQ. -/
  | fabIrqEdge (n : Nat)
  /-- RIDGE_TX_EDGE (R389): A rising edge at a RIDGE_TX sink toggles the EVT bit of a slave, or queues an EVENT on the master. -/
  | ridgeTxEdge (n : Nat)
  /-- MARGIN_ABORT_EDGE (R322): A rising edge at the MARGIN_ABORT sink sends every active margin DAC into SLEW_BACK. -/
  | marginAbortEdge
  /-- SCAN_EDGE (R205): TB_NOW reaches a scan instant, so all 24 sample-and-holds enter hold and the conversions of the scan begin. -/
  | scanEdge (codes : List Int) (avdd : Int)
  /-- PUBLICATION (R207): A scan's filter outputs, temperatures and status are published together in one cycle, and SNAP_NEXT copies are taken. -/
  | publication
  /-- SCAN_STOP (R209): A write of 0 to RES_SCAN_CTRL.RUN lets the running scan publish and then stops taking scan edges. -/
  | scanStop (p : Port) (v : Word)
  /-- SCAN_RESTART (R209): A write of 1 to RUN while scanning is stopped restarts scanning at the next valid instant, with every filter restarted. -/
  | scanRestart (p : Port) (v : Word)
  /-- RESULT_READ (R217): A host read of RES_CHn returns one coherent word and clears FRESH. -/
  | resultRead (p : Port) (n : Nat)
  /-- SNAP (R219): A write of 1 to RES_SNAP_CTRL.SNAP copies all 24 result words at once and clears their FRESH bits. -/
  | snap (p : Port) (v : Word)
  /-- SNAP_NEXT (R219): A write of 1 to SNAP_NEXT arms a copy of the results at the next publication. -/
  | snapNext (p : Port) (v : Word)
  /-- SNAP_READ (R219): A host read of RES_SNAPn returns the copy and clears FRESH in that copy only. -/
  | snapRead (p : Port) (n : Nat)
  /-- WET_CHECK_START (R221): A write to CH_WET_CTRL with GO and a non-zero MASK starts a wet-board check of the masked channels, unless it is refused. -/
  | wetCheckStart (p : Port) (v : Word)
  /-- WET_CHECK_ABORT (R226): GO with MASK = 0, leaving IDLE, or a reset aborts the running wet check and releases the channel under check. -/
  | wetCheckAbort (p : Port) (v : Word)
  /-- WET_STEP_DONE (R222): A wet-check step ends after its settling and M results, and the last step computes R_EXT and the pass flags of the channel. -/
  | wetStepDone (codes : List Int)
  /-- COMPARATOR_CROSSING (R238): The input of an FL or FH comparator crosses its threshold, so its qualified state and latch change and its output reaches the fabric. -/
  | comparatorCrossing (n : Nat) (high : Bool) (width : Nat)
  /-- COMPARATOR_RELEASE (R231): A comparator input returns past its release level with hysteresis, and its output releases in EDGE mode. -/
  | comparatorRelease (n : Nat) (high : Bool)
  /-- DEGLITCH_QUALIFY (R237): A comparator output asserted for the DGL qualifying time asserts Q. -/
  | deglitchQualify (n : Nat) (high : Bool)
  /-- ARM_HOLD_EXPIRY (R235): The 5 µs output hold after a comparator powers up ends, and its output goes live. -/
  | armHoldExpiry (n : Nat) (high : Bool)
  /-- NEWT_STROBE (R236): At a SAMPLED comparator tick the comparator powers up and is strobed 1.8 µs later. -/
  | newtStrobe (n : Nat) (high : Bool) (code : Int)
  /-- LATCH_CLEAR (R241): A W1C write to a comparator latch or flag clears it only if its Q is released in that cycle. -/
  | latchClear (p : Port) (addr : Nat) (v : Word)
  /-- SELF_CHECK_START (R247): A write to CMP_CHK_CTRL with GO starts a self-check of the masked channels, unless it is refused; MASK = 0 aborts. -/
  | selfCheckStart (p : Port) (v : Word)
  /-- SELF_CHECK_PERIODIC (R247): The CHK_PER interval expires and a periodic self-check pass starts, or is skipped with PSKIP. -/
  | selfCheckPeriodic
  /-- SELF_CHECK_STEP (R245): A 2 µs self-check step is strobed and judged, and the blind interval of the comparator ends after restore. -/
  | selfCheckStep (strobe : Bool)
  /-- SEQ_START_CMD (R275): SEQ_CTRL command START is accepted with its launch time and minimum lead, or refused LATE. -/
  | seqStartCmd (p : Port) (v : Word)
  /-- SEQ_STOP_CMD (R275): SEQ_CTRL command STOP is accepted with its launch time, or refused. -/
  | seqStopCmd (p : Port) (v : Word)
  /-- SEQ_HOLD_CMD (R278): SEQ_CTRL command HOLD freezes the outputs in IDLE or UP, or is refused BUSY or STATE. -/
  | seqHoldCmd (p : Port) (v : Word)
  /-- SEQ_RELEASE_CMD (R280): SEQ_CTRL command RELEASE returns to HOLD_FROM and runs the deferred reactions. -/
  | seqReleaseCmd (p : Port) (v : Word)
  /-- GRP_START_CMD (R275): SEQ_CTRL command GRP_START of group GRP is accepted with its launch time, or refused. -/
  | grpStartCmd (p : Port) (v : Word)
  /-- GRP_STOP_CMD (R275): SEQ_CTRL command GRP_STOP of group GRP is accepted with its launch time, or refused. -/
  | grpStopCmd (p : Port) (v : Word)
  /-- START_LAUNCH (R277): At a START's launch instant, the device state decides whether RISING begins or only START_REQ is set. -/
  | startLaunch
  /-- STOP_LAUNCH (R277): At a STOP's launch instant FALLING begins with Ts = T, or START_REQ is cleared. -/
  | stopLaunch
  /-- GRP_START_LAUNCH (R283): At a GRP_START launch, the OFF and FAULTED rails of a DOWN group enter WAIT_ON. -/
  | grpStartLaunch
  /-- GRP_STOP_LAUNCH (R282): At a GRP_STOP launch, the rails of the group stop as for a STOP with that origin. -/
  | grpStopLaunch
  /-- RAIL_ON_INSTANT (R263): T0 + ON_DELAY is reached, so a WAIT_ON rail turns its EN on, enters RAMP and starts RAMP_TIMEOUT. -/
  | railOnInstant (n : Nat)
  /-- RAMP_IN_WINDOW (R263): A ramping rail stays inside its window for 10 µs, enters ON and clears its sense latches. -/
  | rampInWindow (n : Nat)
  /-- RAMP_TIMEOUT (R263): RAMP_TIMEOUT expires, so the rail is FAULTED with RAMP_FAIL set and its reaction runs. -/
  | rampTimeout (n : Nat) (co : Bool := false)
  /-- RAIL_OFF_INSTANT (R263): A WAIT_OFF rail reaches its off instant, turns its EN off and enters DISCHARGE. -/
  | railOffInstant (n : Nat)
  /-- DISCH_TIMEOUT (R263): DISCH_TIMEOUT expires, so the rail is OFF with DISCH_FAIL set. -/
  | dischTimeout (n : Nat)
  /-- RETRY_GAP_EXPIRY (R303): RETRY_GAP expires, so the rail ramps again, or becomes OFF for a budgeted or deselected source rail. -/
  | retryGapExpiry (n : Nat)
  /-- MIN_OFF_EXPIRY (R273): MIN_OFF expires in DOWN_HOLD, so the device enters IDLE or RISING, or a master issues a cascade START. -/
  | minOffExpiry
  /-- FORGIVE_EXPIRY (R304): A rail has been ON for FORGIVE × 100 ms, so RETRY_USED returns to 0. -/
  | forgiveExpiry (n : Nat)
  /-- SYS_FORGIVE_EXPIRY (R309): The device has been UP for SYS_FORGIVE seconds, so SYSCNT returns to 0. -/
  | sysForgiveExpiry
  /-- BBM_GAP_EXPIRY (R286): BBM_GAP expires, so the other source rail turns on and ramps, and the pair enters BATT or MAINS. -/
  | bbmGapExpiry
  /-- RETURN_DWELL_EXPIRY (R286): The dwell of good mains reaches RETURN_DWELL in BATT, so SOURCE_BATT turns off and GAP_TO_MAINS starts. -/
  | returnDwellExpiry
  /-- HOLD_BATT_WRITE (R286): A write to SEQ_SRC_CTRL.HOLD_BATT keeps the source pair on battery, or moves it there. -/
  | holdBattWrite (p : Port) (v : Word)
  /-- SYSTEM_FABRIC_RESET (R308): At the end of a SYSTEM FALLING, once the record has committed or been abandoned, reset source FABRIC is raised with SYSREACT chosen by SYS_MAX. -/
  | systemFabricReset (co : List RstSource := [])
  /-- MARGIN_NOMINAL (R320): Margin command NOMINAL sends the masked DACs into SLEW_BACK. -/
  | marginNominal (p : Port) (v : Word)
  /-- MARGIN_HIGH (R320): Margin command MARGIN_HIGH sets each accepted DAC to target HIGH_CODE in SLEW_OUT, or refuses it. -/
  | marginHigh (p : Port) (v : Word)
  /-- MARGIN_LOW (R320): Margin command MARGIN_LOW sets each accepted DAC to target LOW_CODE in SLEW_OUT, or refuses it. -/
  | marginLow (p : Port) (v : Word)
  /-- MARGIN_SLEW_STEP (R321): A DAC moves one code towards its target every 2^SLEW µs, reaching HELD or NOMINAL at the end. -/
  | marginSlewStep (m : Nat)
  /-- MARGIN_TIMEOUT (R322): MTIME expires after the last margin command, so the DAC enters SLEW_BACK with TIMEOUT set. -/
  | marginTimeout (m : Nat)
  /-- RECORD_COMMIT (R334): The last word of a first-fault record is written, which makes the slot valid and newest and sets REC_NEW. -/
  | recordCommit
  /-- HISTORY_COMMIT (R340): The commit word of a history entry is written, which makes the entry valid and sets HIST_NEW. -/
  | historyCommit
  /-- COUNTER_FLUSH (R345): At each 1,000 ms flush tick, every changed counter word is written to MRAM. -/
  | counterFlush
  /-- LOG_REBUILD_DONE (R336): At an L0 start the log index and counter shadow are rebuilt from MRAM, corrupted entries are invalidated and ECC2 is raised once. -/
  | logRebuildDone
  /-- LOG_CLEAR (R348): A keyed service-port write to LOG_CTRL with CLR_LOG requests a clear of both record slots and the history ring. -/
  | logClear (p : Port) (v : Word)
  /-- COUNTER_CLEAR (R348): A keyed service-port write to LOG_CTRL with CLR_CNT requests a clear of one rail's counters, or of all with ALL. -/
  | counterClear (p : Port) (v : Word)
  /-- LOG_CLEAR_APPLY (R348): Once the record or entry in progress has committed, the requested clear writes the commit words or counters. -/
  | logClearApply
  /-- LOG_ADDR_WRITE (R350): A write to LOG_ADDR sets the port's log window address, or sets RANGE if the address is out of range. -/
  | logAddrWrite (p : Port) (v : Word)
  /-- LOG_DATA_READ (R350): A read of LOG_DATA returns the MRAM word at LOG_ADDR and advances the address with wrap. -/
  | logDataRead (p : Port)
  /-- NVM_DATA_READ (R351): A read of NVM_DATA returns the MRAM word at NVM_ADDR, or 0 with ECC2 set, and advances the address. -/
  | nvmDataRead (p : Port)
  /-- NVM_DATA_WRITE (R351): A write of NVM_DATA is posted to MRAM, refused with WREF, or dropped with OVR while a write is pending. -/
  | nvmDataWrite (p : Port) (v : Word)
  /-- NVM_WRITE_DONE (R351): A posted NVM word is written into MRAM, WPEND clears and any VERIFIED of that slot clears. -/
  | nvmWriteDone (p : Port)
  /-- FRAME_TICK (R362): The master drives the tick at Tk, fixes the frame's bursts from its queue and sends the header and burst A. -/
  | frameTick
  /-- BURST_B_SEND (R361): The master repeats the frame's commands in burst B at Tk + 790 µs. -/
  | burstBSend
  /-- TICK_EDGE_RECEIVE (R368): A slave timestamps a tick crossing and waits up to 40 µs for a valid header. -/
  | tickEdgeReceive (e : Int)
  /-- HEADER_RECEIVE (R368): A valid header following a tick makes the tick accepted, corrects the timebase, updates lock and admission, and checks SESSION. -/
  | headerReceive (bytes : List Byte)
  /-- BURST_RECEIVE (R375): A slave takes an accepted burst, keeps each intact command addressed to it once, and discards late copies as missed. -/
  | burstReceive (bytes : List Byte)
  /-- REPLY_SEND (R376): In its reply slot a node sends its state, RX_SEQ, MISSMAP, EVT and REG_READ data. -/
  | replySend
  /-- REPLY_RECEIVE (R377): The master takes a valid reply, updates the node status and resolves the covered commands as CONFIRMED or MISSED with reissue. -/
  | replyReceive (n : Nat) (bytes : List Byte) (arrival : Int)
  /-- REPLY_MISSING (R385): A node's reply slot ends silent or bad, and the third in a row marks the node absent with its commands ABSENT. -/
  | replyMissing (n : Nat)
  /-- RIDGE_START (R378): At T, a Ridge START command acts on the node's sequencer as START. -/
  | ridgeStart
  /-- RIDGE_STOP (R378): At T, a Ridge STOP command acts on the node's sequencer as STOP. -/
  | ridgeStop
  /-- RIDGE_GRP_START (R378): At T, a Ridge GRP_START command raises the named group. -/
  | ridgeGrpStart
  /-- RIDGE_GRP_STOP (R378): At T, a Ridge GRP_STOP command stops the named group. -/
  | ridgeGrpStop
  /-- RIDGE_GRANT (R412): At T, a Ridge GRANT replaces the node's grant mask and drives its budgeted EN pins. -/
  | ridgeGrant
  /-- RIDGE_EVENT (R378): At T, a Ridge EVENT n pulses fabric source RIDGE_EVTn on every node. -/
  | ridgeEvent
  /-- RIDGE_MARGIN (R378): At T, a Ridge MARGIN command acts as an MRG_CTRL command on the node. -/
  | ridgeMargin
  /-- RIDGE_RESET (R378): At T, a Ridge RESET with the key raises reset source RIDGE on the addressed slave. -/
  | ridgeReset (co : List RstSource := [])
  /-- RIDGE_ADMIT (R383): A croaking device receives ADMIT with its UID, takes node N and enters JOINING. -/
  | ridgeAdmit (uid : BitVec 64) (n : Nat)
  /-- RIDGE_REJECT (R381): A croaking device receives REJECT with its UID and backs off for 10,000 frames. -/
  | ridgeReject (uid : BitVec 64)
  /-- RIDGE_DELAY (R370): A slave receives DELAY and slews its phase by the cable delay d. -/
  | ridgeDelay (d : Nat)
  /-- RIDGE_REG_READ (R379): A slave receives REG_READ and answers the register value in its next reply, without read side effects. -/
  | ridgeRegRead (addr : Nat)
  /-- RIDGE_REG_WRITE (R379): A slave receives REG_WRITE and applies it as a host write, within the SLV limits. -/
  | ridgeRegWrite (addr : Nat) (v : Word)
  /-- CROAK_SEND (R381): A CROAKING device sends a croak in the chosen open croak slot after its backoff. -/
  | croakSend
  /-- CROAK_ANSWER_TIMEOUT (R381): No ADMIT or REJECT arrives within 2 frames of a croak, which counts as a collision and draws a new backoff. -/
  | croakAnswerTimeout
  /-- CROAK_RECEIVE (R382): The master takes a valid croak, checks the allow-list, binds a node number and queues ADMIT or REJECT. -/
  | croakReceive (bytes : List Byte)
  /-- LOCK_TICK_TIMEOUT (R380): A LOCKING slave sees no accepted tick for 5 ms and returns to LISTEN. -/
  | lockTickTimeout
  /-- JOINING_TIMEOUT (R380): A JOINING node's ADMIT bit is not set within 12 frames, so it returns to CROAKING. -/
  | joiningTimeout
  /-- MASTER_LOSS (R387): A slave sees no accepted tick for 5,000 µs, enters LISTEN and carries out LOSS_ACT. -/
  | masterLoss
  /-- RIDGE_HCMD_WRITE (R392): A write to RIDGE_HCMD queues a host EVENT, MARGIN or RESET command, or reports an error in RIDGE_HCMD_STAT. -/
  | ridgeHcmdWrite (p : Port) (v : Word)
  /-- PROXY_READ (R393): RIDGE_PX_CTRL READ queues one REG_READ to a slave, or ends at once with an error. -/
  | proxyRead (p : Port) (v : Word)
  /-- PROXY_WRITE (R393): RIDGE_PX_CTRL WRITE queues one REG_WRITE to a slave and ends when that command is settled. -/
  | proxyWrite (p : Port) (v : Word)
  /-- PROXY_READ_TIMEOUT (R393): A proxy read's answer is missing 4 frames after placement, so the transfer ends with TIMEOUT. -/
  | proxyReadTimeout
  /-- NODE_FORGET (R392): A keyed RIDGE_NT_CTRL FORGET releases the binding of the selected node if it is not admitted. -/
  | nodeForget (p : Port) (v : Word)
  /-- ZX_EDGE (R397): A ZX transition stable for 20 µs is accepted as a half-cycle edge, or counted as noise, and ZX_TICK pulses. -/
  | zxEdge (rising : Bool)
  /-- ZX_LOST (R398): No edge is accepted for 12,500 µs, so ZX_OK falls and decisions pause. -/
  | zxLost
  /-- GRANT_LAUNCH (R412): At a grant's launch time the scheduling device sets its own budgeted EN pins from the mask. -/
  | grantLaunch
  /-- GRANT_END (R412): The grant in force ends with no later launch, so every budgeted EN goes off and the grant interval is judged dark or bright. -/
  | grantEnd
  /-- UNSENSED_CLEAR (R415): A W1C of SCHED_US clears a bit only while CHK_FAIL of its current channel is 0. -/
  | unsensedClear (p : Port) (v : Word)
  /-- DUTY_WRITE (R396): A write to SCHED_Le_DUTY stores the duty, clamped to 1,000, for the next decision. -/
  | dutyWrite (p : Port) (e : Nat) (v : Word)
  /-- PAIR_LISTEN_END (R424): The 300 µs pair LISTEN ends without a partner's heartbeat, so the unit runs ADOPT and enters SOLO. -/
  | pairListenEnd
  /-- PAIR_CLAIM_WAIT_EXPIRY (R424): Position B's 5 ms wait for A's heartbeat as SOLO expires, and B continues as if alone. -/
  | pairClaimWaitExpiry
  /-- CLAIM_SEND (R424): A unit in LISTEN sends a CLAIM frame every 40 µs. -/
  | claimSend
  /-- CLAIM_RECEIVE (R427): A unit takes a partner's CLAIM, compares positions and UIDs, and waits, enters NOFORM or ignores it. -/
  | claimReceive (bytes : List Byte)
  /-- HEARTBEAT_SEND (R430): A unit sends an HB frame when nothing else is due for 40 µs. -/
  | heartbeatSend
  /-- HEARTBEAT_RECEIVE (R426): A unit takes a partner's HB, and pair states change, a unit demotes or enters NOFORM, and ACK frees frames. -/
  | heartbeatReceive (bytes : List Byte)
  /-- DELTA_RECEIVE (R432): The SHADOW takes an in-order DELTA frame and applies its records to its copy. -/
  | deltaReceive (bytes : List Byte)
  /-- EPOCH_COMMIT (R435): At a TB_NOW multiple of 100 the PRIMARY computes the digest of the mirror set and places COMMIT in the stream. -/
  | epochCommit
  /-- COMMIT_RECEIVE (R435): The SHADOW takes COMMIT, compares the digests, answers with DIGEST and counts matches toward IN_STEP. -/
  | commitReceive (bytes : List Byte)
  /-- DIGEST_RECEIVE (R436): The PRIMARY takes a DIGEST, and a mismatch is a DISAGREE with the DIS_ACT action. -/
  | digestReceive (bytes : List Byte)
  /-- DIGEST_MISSED (R435): No DIGEST arrives within 500 µs of a COMMIT, so the epoch is counted MISSED. -/
  | digestMissed
  /-- SNAPREQ_RECEIVE (R444): The PRIMARY takes SNAPREQ and starts placing CHUNK frames of the mirror set. -/
  | snapreqReceive (bytes : List Byte)
  /-- CHUNK_RECEIVE (R444): The SHADOW takes an in-order CHUNK, and after the last one marks its copy complete. -/
  | chunkReceive (bytes : List Byte)
  /-- YIELD_RECEIVE (R443): The SHADOW takes YIELD(T) and prepares to take over at T. -/
  | yieldReceive (bytes : List Byte)
  /-- MIRROR_RESEND (R430): 60 µs pass without ACK advancing, so the PRIMARY resends from the first unacknowledged frame. -/
  | mirrorResend
  /-- GUARD_TOGGLE (R440): A SOLO or PRIMARY unit toggles GPIO6 every 10 µs. -/
  | guardToggle
  /-- PARTNER_LOST (R440): 300 µs pass without a heartbeat, so an IN_STEP SHADOW without guard edges takes over, a SHADOW with guard edges enters ORPHAN, and a PRIMARY becomes SOLO. -/
  | partnerLost
  /-- YIELD_REQUEST (R443): A keyed PAIR_CTRL write with YIELD on the PRIMARY places YIELD(T) in the stream, or is refused. -/
  | yieldRequest (p : Port) (v : Word)
  /-- RESYNC_REQUEST (R444): A keyed PAIR_CTRL write with RESYNC on the SHADOW restarts the regrow. -/
  | resyncRequest (p : Port) (v : Word)
  /-- YIELD_LAUNCH (R443): At T the PRIMARY takes its shadow pin states and enters REGROW, while the SHADOW enters SOLO. -/
  | yieldLaunch
  /-- YIELD_ABANDON (R443): YIELD is not acknowledged by T - 100 µs, so the yield is abandoned with CERR LATE. -/
  | yieldAbandon
  /-- BALANCE_PERIOD_START (R454): Every BAL_PER ms a stack unit captures enables and duties and schedules each enabled cell on. -/
  | balancePeriodStart
  /-- BALANCE_DUTY_END (R454): A cell's scheduled on-time in the period ends and its switch turns off. -/
  | balanceDutyEnd (c : Nat)
  /-- BALANCE_PAUSE_START (R455): 100 × BAL_GAP µs before a scan edge, every balance switch is held off. -/
  | balancePauseStart
  /-- BALANCE_PAUSE_END (R455): 2 µs after the scan edge, each balance switch returns to its schedule. -/
  | balancePauseEnd
  /-- ENUM_RECEIVE (R466): A unit takes ENUM(n) on D, takes address n, and sends END or sends TAKEN and ENUM(n + 1). -/
  | enumReceive (bytes : List Byte)
  /-- ENUM_TOP_TIMEOUT (R466): No TAKEN or END reaches U within 200 µs of ENUM(n + 1), so the unit is the top and sends END(n). -/
  | enumTopTimeout
  /-- TAKEN_RECEIVE (R462): A unit or the chain master takes TAKEN(n) from the unit above or below, and it is consumed and not repeated. -/
  | takenReceive (p1 : Bool) (bytes : List Byte)
  /-- ENUM_END_RECEIVE (R468): The chain master receives END, sets UNITS and ENUM_DONE, checks EXP_UNITS and enters READY. -/
  | enumEndReceive (p1 : Bool) (bytes : List Byte)
  /-- ENUM_TIMEOUT (R468): No END arrives within 20 ms of ENUM(1), so the port is FAILED with UNITS = 0. -/
  | enumTimeout (p1 : Bool)
  /-- FRAME_REPEAT (R462): An addressed unit repeats a frame from D to U or from U to D, starting after its TYPE byte. -/
  | frameRepeat (up : Bool) (bytes : List Byte)
  /-- CHAIN_READ (R463): A unit takes an addressed READ and replies with the words, or with the stored reply for a repeat. -/
  | chainRead (bytes : List Byte)
  /-- CHAIN_WRITE (R463): A unit takes an addressed WRITE, applies all words in one cycle and replies, or replies from the store for a repeat. -/
  | chainWrite (bytes : List Byte)
  /-- CHAIN_SNAP (R473): A unit takes a SNAP broadcast once and arms SNAP_NEXT. -/
  | chainSnap (bytes : List Byte)
  /-- CHAIN_BALOFF (R473): A unit takes a BALOFF broadcast once and clears all balancing. -/
  | chainBaloff (bytes : List Byte)
  /-- CHAIN_SLEEP (R470): A unit takes a SLEEP broadcast, repeats it and enters stack sleep. -/
  | chainSleep (bytes : List Byte)
  /-- COMM_TIMEOUT (R470): COMM_TO ms pass without a valid frame on D, so the unit clears balancing, drops its address and sleeps. -/
  | commTimeout
  /-- WAKE_TONE_DETECT (R471): A unit detects the wake tone on D, wakes if asleep and sends a tone on U. -/
  | wakeToneDetect
  /-- STACK_WAKE_PIN (R111): A low level on WAKE wakes a sleeping stack unit through stages 2, 4, 5 and 6, without a tone. -/
  | stackWakePin
  /-- CHAIN_REPLY_RECEIVE (R465): The chain master takes a reply to its transaction, ends the proxy transfer and copies the data and UFLAGS, or discards a stale or mismatched reply. -/
  | chainReplyReceive (p1 : Bool) (bytes : List Byte)
  /-- CHAIN_REPLY_TIMEOUT (R465): No valid reply starts within the wait window, so the command is resent or the transfer ends with TIMEOUT. -/
  | chainReplyTimeout (p1 : Bool)
  /-- STACK_PROXY_READ (R472): STACK_PX_CTRL READ starts a chain READ of CNT words from a unit, or ends at once with an error. -/
  | stackProxyRead (p : Port) (v : Word)
  /-- STACK_PROXY_WRITE (R472): STACK_PX_CTRL WRITE starts a chain WRITE of CNT words to a unit, or ends at once with an error. -/
  | stackProxyWrite (p : Port) (v : Word)
  /-- PORT_WAKE_ENUM (R473): Port command WAKE_ENUM sends the wake tone and enters WAKING. -/
  | portWakeEnum (p : Port) (v : Word)
  /-- PORT_ENUM (R473): Port command ENUM sends ENUM(1) and enters ENUMERATING. -/
  | portEnum (p : Port) (v : Word)
  /-- PORT_SLEEP (R473): Port command SLEEP sends the SLEEP broadcast twice and leaves the port IDLE with UNITS = 0. -/
  | portSleep (p : Port) (v : Word)
  /-- PORT_BALOFF (R473): Port command BALOFF sends the BALOFF broadcast twice. -/
  | portBaloff (p : Port) (v : Word)
  /-- PORT_SNAP (R473): Port command SNAP sends the SNAP broadcast twice. -/
  | portSnap (p : Port) (v : Word)
  /-- WAKE_WAIT_EXPIRY (R468): WAKE_WAIT × 10 ms after the tone ends, the port sends ENUM(1) and enters ENUMERATING. -/
  | wakeWaitExpiry (p1 : Bool)
  /-- HOST_READ_TRANSACTION (R483): A host SPI or I²C read transaction samples N words with their read side effects and reports errors in band. -/
  | hostReadTransaction (bus : HostBus) (bytes : List Byte) (got : Nat)
  /-- HOST_WRITE_TRANSACTION (R484): A host write transaction passes its words into the write queue, after a correct CRC when one is used, or is refused. -/
  | hostWriteTransaction (bus : HostBus) (bytes : List Byte)
  /-- WRITE_QUEUE_APPLY (R484): The write queue applies its next word once the NVM window is free. -/
  | writeQueueApply
  /-- WRITE_QUEUE_WAIT_TIMEOUT (R484): An NVM_DATA word waits 60 µs, so it and the rest of its transaction are discarded with OVR. -/
  | writeQueueWaitTimeout
  /-- I2C_STALL_TIMEOUT (R493): No SCL edge arrives for 25 ms in an addressed transaction, so the device releases SDA and ends with TRUNC. -/
  | i2cStallTimeout
  /-- WDT_KICK (R498): A write to SYS_WDT_KICK is accepted, or raises a WDT reset for BADKEY or EARLY. -/
  | wdtKick (p : Port) (v : Word)
  /-- WDT_DEADLINE (R498): The watchdog deadline passes without an accepted kick, so a WDT reset is raised with WCAUSE LATE. -/
  | wdtDeadline (co : List RstSource := [])
  /-- USB_ATTACH (R506): VBUSDET reaches 4.0 V with the USB domain out of reset, so the device attaches and the session starts at VIEW. -/
  | usbAttach
  /-- USB_SUSPEND (R506): After 3 ms of bus idle the port enters suspend, the session returns to VIEW, and in bench mode the PLL stops. -/
  | usbSuspend
  /-- USB_RESUME (R559): Bus activity ends USB suspend, and the port resumes within 1 ms. -/
  | usbResume
  /-- USB_BUS_RESET (R509): A USB bus reset returns the session to VIEW. -/
  | usbBusReset
  /-- SET_LINE_CODING (R505): SET_LINE_CODING is accepted and stored, with no effect on the data. -/
  | setLineCoding (bytes : List Byte)
  /-- GET_LINE_CODING (R505): GET_LINE_CODING returns the last line coding set, or the default. -/
  | getLineCoding
  /-- SEND_BREAK (R505): SEND_BREAK is accepted without effect. -/
  | sendBreak
  /-- SET_CONTROL_LINE_STATE (R505): SET_CONTROL_LINE_STATE sets DTR, and a falling DTR returns the session to VIEW. -/
  | setControlLineState (dtr : Bool)
  /-- UNSUPPORTED_CLASS_REQUEST (R505): Any other class request is answered with a STALL. -/
  | unsupportedClassRequest (req : Byte)
  /-- INFO (R514): Suindelm INFO returns the identity, role, security state and protocol limits. -/
  | info (busy : Bool) (seq : Byte) (payload : List Byte)
  /-- RREAD (R515): Suindelm RREAD reads N registers, or one register N times, without read side effects. -/
  | rread (busy : Bool) (seq : Byte) (payload : List Byte)
  /-- RWRITE (R511): Suindelm RWRITE writes N register words as a host write would, subject to level and policy. -/
  | rwrite (busy : Bool) (seq : Byte) (payload : List Byte)
  /-- MREAD (R515): Suindelm MREAD reads N MRAM words through the service NVM context, with the private region reading 0. -/
  | mread (busy : Bool) (seq : Byte) (payload : List Byte)
  /-- MWRITE (R515): Suindelm MWRITE writes N MRAM words into the user area or an image slot, stopping at the first refused word. -/
  | mwrite (busy : Bool) (seq : Byte) (payload : List Byte)
  /-- CHALLENGE (R520): Suindelm CHALLENGE returns a fresh nonce, the UID and the certificate length, unless locked out. -/
  | challenge (busy : Bool) (seq : Byte) (payload : List Byte)
  /-- AUTH (R522): Suindelm AUTH checks the nonce, OEM key, service certificate and signature, and raises the session level or counts a failure. -/
  | auth (busy : Bool) (seq : Byte) (payload : List Byte)
  /-- LOGOUT (R509): Suindelm LOGOUT returns the session to VIEW. -/
  | logout (busy : Bool) (seq : Byte) (payload : List Byte)
  /-- EXPORT (R525): Suindelm EXPORT sends the signed log, counter and marker export in up to six frames. -/
  | signedExport (busy : Bool) (seq : Byte) (payload : List Byte)
  /-- CERT (R514): Suindelm CERT returns up to 1,000 bytes of the device certificate or the issuer chain. -/
  | cert (busy : Bool) (seq : Byte) (payload : List Byte)
  /-- SVC_RESET (R516): Suindelm RESET with the key is answered, and reset source SVC is raised within 2 ms. -/
  | svcReset (busy : Bool) (seq : Byte) (payload : List Byte) (co : List RstSource := [])
  /-- FUSE_PROGRAM (R530): Suindelm FUSE pulses and verifies each requested bit of a fuse word, or is refused. -/
  | fuseProgram (busy : Bool) (seq : Byte) (payload : List Byte) (cut : Option Nat)
  /-- SESSION_IDLE_TIMEOUT (R509): IDLE_TO seconds pass without a valid frame, so the session returns to VIEW. -/
  | sessionIdleTimeout
  /-- NONCE_EXPIRY (R520): A challenge nonce expires 60 s after it was issued. -/
  | nonceExpiry
  /-- AUTH_LOCKOUT_EXPIRY (R523): The 60 s authentication lockout ends. -/
  | authLockoutExpiry
  /-- GPIO_INPUT_CHANGE (R187): A GPIO pin changes level, which changes SYS_GPIO_IN, fabric sources 0xA0 to 0xA7 and the level sinks fed by them, and gives guard edges on GPIO7. -/
  | gpioInputChange (n : Nat) (level : Bool)
  /-- WAKE_PIN_LEVEL (R187): The WAKE pin changes level while a role runs, which changes fabric source 0xA8 (WAKE pin low). -/
  | wakePinLevel (level : Bool)
  /-- START_OF_FRAME (R86): A USB start-of-frame packet arrives, trims CLK_USB while the PLL runs from the RC, and completes the trim and sets SOF_TRIM by the third packet. -/
  | startOfFrame
  /-- USB_STANDARD_REQUEST (R504): A USB standard request such as GET_DESCRIPTOR, SET_ADDRESS or SET_CONFIGURATION is answered from the descriptors, and configuration sets SEC_STAT.CONFIGURED. -/
  | usbStandardRequest (setup : List Byte)
  /-- SUINDELM_FRAME_DISCARD (R513): A Suindelm frame whose CRC fails, whose LEN exceeds 1,024 or whose length is wrong is discarded, and the discard count of SVC_CNT advances. -/
  | suindelmFrameDiscard (bytes : List Byte)
  /-- SUINDELM_UNKNOWN_TYPE (R514): A valid Suindelm frame with an unknown TYPE is answered with status BAD_TYPE. -/
  | suindelmUnknownType (busy : Bool) (type seq : Byte) (payload : List Byte)
  /-- MIRROR_FRAME_DISCARD (R428): A mirror frame with a failed CRC or with LEN above 64 is discarded, and PAIR_CNT.CRCERR advances. -/
  | mirrorFrameDiscard (bytes : List Byte)
  /-- CROAK_COLLISION (R382): A croak slot holds a transmission with a failed CRC, so the master sets RIDGE_EVT.COLL. -/
  | croakCollision
  /-- HEADER_CRC_FAIL (R392): A Ridge header with a failed CRC is discarded, its count in RIDGE_ERRCNT advances, and the preceding tick is not accepted. -/
  | headerCrcFail (bytes : List Byte)
  deriving DecidableEq, Repr

end Sys2Proof
end

