-- ==== Sys2Proof/Machine/Bits.lean ====
section
/-! DEFINITION. Bit fields, bytes and words, checksums (spec/00_scope.md R4; spec/05_configuration_image_and_thatch_fabric.md R164;
spec/14_stack_role.md R459). -/

namespace Sys2Proof.Machine

/-- Bits [lo + n - 1 : lo] of a word, as a number (R4). -/
def fld (w : Word) (lo n : Nat) : Nat := w.toNat / 2 ^ lo % 2 ^ n

/-- Bit i of a word. -/
def bit (w : Word) (i : Nat) : Bool := w.getLsbD i

/-- A truth value as 0 or 1. -/
def b2n (b : Bool) : Nat := if b then 1 else 0

/-- A word with bits [lo + n - 1 : lo] replaced by v modulo 2^n. -/
def setFld (w : Word) (lo n v : Nat) : Word :=
  w32 (w.toNat - fld w lo n * 2 ^ lo + v % 2 ^ n * 2 ^ lo)

/-- A word with bit i set to b. -/
def setBit (w : Word) (i : Nat) (b : Bool) : Word := setFld w i 1 (b2n b)

/-- A field read as a two's-complement number of n bits. -/
def sfld (w : Word) (lo n : Nat) : Int :=
  let v := fld w lo n
  if v < 2 ^ (n - 1) then v else (v : Int) - 2 ^ n

/-- An integer in two's complement of n bits, as a number below 2^n. -/
def enc (n : Nat) (i : Int) : Nat := (i % (2 ^ n : Int)).toNat

/-- The word whose bit i is `f i`, for i below n. -/
def wordOf (n : Nat) (f : Nat → Bool) : Word :=
  w32 ((List.range n).foldl (fun a i => a + b2n (f i) * 2 ^ i) 0)

/-- Add to a field, held at its largest value. -/
def bumpFld (w : Word) (lo n k : Nat) : Word := setFld w lo n (min (2 ^ n - 1) (fld w lo n + k))

/-- Position of the highest set bit plus one; 0 when none is set (R167, R522). -/
def highBit (w : Word) : Nat :=
  (List.range 32).foldl (fun a i => if w.getLsbD i then i + 1 else a) 0

/-- The n bytes of a number, least significant first. -/
def leBytes (n v : Nat) : List Byte := (List.range n).map fun i => b8 (v / 2 ^ (8 * i))

/-- The n bytes of a number, most significant first. -/
def beBytes (n v : Nat) : List Byte := (leBytes n v).reverse

/-- Preamble and start delimiter, with which every transmission on the Ridge and chain links begins (R360, R458). -/
def preamble : List Byte := [b8 0x55, b8 0x55, b8 0xD5]

/-- A transmission on a link. -/
def linkTx (l : List Byte) : List Byte := preamble ++ l

/-- What follows the preamble and the delimiter of a received string; none: it does not begin with them. -/
def linkRx (l : List Byte) : Option (List Byte) := if l.take 3 = preamble then some (l.drop 3) else none

/-- A number from bytes, least significant first. -/
def ofLe : List Byte → Nat
  | [] => 0
  | b :: t => b.toNat + 256 * ofLe t

/-- A number from bytes, most significant first. -/
def ofBe (l : List Byte) : Nat := l.foldl (fun a b => a * 256 + b.toNat) 0

/-- The bytes of words, each least significant byte first (R164). -/
def wordBytes (l : List Word) : List Byte := l.flatMap fun w => leBytes 4 w.toNat

/-- Words from bytes in groups of four, least significant first; a short rest is dropped. -/
def bytesWords : List Byte → List Word
  | a :: b :: c :: d :: t => w32 (ofLe [a, b, c, d]) :: bytesWords t
  | _ => []

/-- Bytes off to off + n - 1 of a string, as a number, least significant first. -/
def leAt (l : List Byte) (off n : Nat) : Nat := ofLe ((l.drop off).take n)

/-- One bit-serial step of a reflected CRC-32. -/
def crc32Step (c : Nat) : Nat := if c % 2 = 1 then (c / 2) ^^^ 0xEDB88320 else c / 2

/-- One byte of CRC-32. -/
def crc32Byte (c : Nat) (b : Byte) : Nat := (crc32Step)^[8] (c ^^^ b.toNat)

/-- CRC-32 of R164. -/
def crc32 (l : List Byte) : Word := w32 ((l.foldl crc32Byte 0xFFFFFFFF) ^^^ 0xFFFFFFFF)

/-- One bit-serial step of CRC-16-CCITT, most significant bit first. -/
def crc16Step (c : Nat) : Nat := if 0x8000 ≤ c then (c * 2 % 0x10000) ^^^ 0x1021 else c * 2

/-- One byte of CRC-16-CCITT. -/
def crc16Byte (c : Nat) (b : Byte) : Nat := (crc16Step)^[8] (c ^^^ (b.toNat * 256))

/-- CRC-16-CCITT of R459: polynomial 0x1021, initial value 0xFFFF. -/
def crc16 (l : List Byte) : Nat := l.foldl crc16Byte 0xFFFF

/-- One bit-serial step of the CRC-8 of chapter 15. -/
def crc8Step (c : Nat) : Nat := if 0x80 ≤ c then (c * 2 % 0x100) ^^^ 0x07 else c * 2

/-- CRC-8 with polynomial 0x07 and initial value 0 (15.3). -/
def crc8 (l : List Byte) : Nat := l.foldl (fun c b => (crc8Step)^[8] (c ^^^ b.toNat)) 0

/-! ### Canonical stores

A store lists (address, word) pairs in one form: addresses strictly rising, no word equal to what an unlisted address
reads as. -/

/-- A word of a store; an unlisted address reads `d a`. -/
def Store.read (d : Nat → Word) : List (Nat × Word) → Nat → Word
  | [], a => d a
  | (k, w) :: t, a => if k = a then w else Store.read d t a

/-- The store without address a. -/
def Store.erase : List (Nat × Word) → Nat → List (Nat × Word)
  | [], _ => []
  | (k, w) :: t, a => if k = a then t else (k, w) :: Store.erase t a

/-- The store with a word put at address a, in order. -/
def Store.insert : List (Nat × Word) → Nat → Word → List (Nat × Word)
  | [], a, v => [(a, v)]
  | (k, w) :: t, a, v =>
    if a < k then (a, v) :: (k, w) :: t
    else if a = k then (a, v) :: t
    else (k, w) :: Store.insert t a v

/-- Write a word: an unlisted value removes the entry, so equal contents are equal data. -/
def Store.write (d : Nat → Word) (m : List (Nat × Word)) (a : Nat) (v : Word) : List (Nat × Word) :=
  if v = d a then Store.erase m a else Store.insert m a v

/-- The canonical form, as a test over neighbours. -/
def Store.wf (d : Nat → Word) : List (Nat × Word) → Bool
  | [] => true
  | (k, w) :: t => decide (w ≠ d k) && t.all (fun e => decide (k < e.1)) && Store.wf d t

end Sys2Proof.Machine
end

