-- ==== Sys2Proof/Machine/Crypto.lean ====
section
/-! DEFINITION. SHA-256, ECDSA on curve P-256 and the DER reader of the service certificate
(spec/05_configuration_image_and_thatch_fabric.md R165; spec/16_service_port_and_identity.md R519 to R522). The algorithms are
the published ones the spec names (Table 0-9). -/

namespace Sys2Proof.Machine

/-! ### SHA-256 -/

/-- A binary search for the largest x with x to the power k at most n: i bits are still open below x. -/
def rootBits (k n : Nat) : Nat → Nat → Nat
  | 0, x => x
  | i + 1, x => rootBits k n i (if (x + 2 ^ i) ^ k ≤ n then x + 2 ^ i else x)

/-- The first 32 bits of the fraction of the k-th root of p, for p below 8 to the power k. -/
def rootFrac (k p : Nat) : Nat := rootBits k (p * 2 ^ (32 * k)) 35 0 % 2 ^ 32

/-- The first 64 primes. -/
def primes64 : List Nat :=
  (List.range 312).filter fun n => decide (2 ≤ n) && [2, 3, 5, 7, 11, 13, 17].all fun d => decide (n = d) || decide (n % d ≠ 0)

/-- Round constants of SHA-256, as the hash standard derives them: from the cube roots of the first 64 primes. -/
def shaKeys : List Nat := primes64.map (rootFrac 3)

/-- Initial hash value: from the square roots of the first eight primes. -/
def shaStart : List Nat := (primes64.take 8).map (rootFrac 2)

/-- Exclusive or of a 32-bit word rotated right by each of a list of distances. -/
def spin (x : Nat) (ds : List Nat) : Nat := ds.foldl (fun acc d => acc ^^^ (x / 2 ^ d + x % 2 ^ d * 2 ^ (32 - d))) 0

/-- One round on the eight working values, with the schedule word and the constant already added in `kw`. -/
def shaRound : List Nat → Nat → List Nat
  | [a, b, c, d, e, f, g, h], kw =>
    let pick := g ^^^ (e &&& (f ^^^ g))
    let vote := (a &&& b) ||| (c &&& (a ||| b))
    let t := h + spin e [6, 11, 25] + pick + kw
    [(t + spin a [2, 13, 22] + vote) % 2 ^ 32, a, b, c, (d + t) % 2 ^ 32, e, f, g]
  | l, _ => l

/-- The rounds of one block over a window of the sixteen schedule words that come next: each round uses the first and appends the one
sixteen places on. -/
def shaRounds : List Nat → List Nat → List Nat → List Nat
  | [], _, st => st
  | k :: ks, w, st =>
    let at_ (i : Nat) := w.getD i 0
    let later := at_ 0 + (spin (at_ 1) [7, 18] ^^^ at_ 1 / 2 ^ 3) + at_ 9 + (spin (at_ 14) [17, 19] ^^^ at_ 14 / 2 ^ 10)
    shaRounds ks (w.tail ++ [later % 2 ^ 32]) (shaRound st (at_ 0 + k))

/-- Big-endian words of a byte string. -/
def beWords : List Byte → List Nat
  | a :: b :: c :: d :: t => ofBe [a, b, c, d] :: beWords t
  | _ => []

/-- The hash value after n blocks of a word list. -/
def shaFold (ks : List Nat) : Nat → List Nat → List Nat → List Nat
  | 0, _, st => st
  | n + 1, ws, st =>
    shaFold ks n (ws.drop 16) (List.zipWith (fun x y => (x + y) % 2 ^ 32) st (shaRounds ks (ws.take 16) st))

/-- SHA-256 of a byte string, as 32 bytes: a 1 bit, zeros and the length in bits fill the last block. -/
def sha256 (m : List Byte) : List Byte :=
  let full := m ++ b8 0x80 :: List.replicate ((119 - m.length % 64) % 64) 0 ++ beBytes 8 (8 * m.length)
  (shaFold shaKeys (full.length / 64) (beWords full) shaStart).flatMap (beBytes 4)

/-! ### ECDSA on P-256 -/

/-- The field prime of P-256. -/
def p256 : Nat := 0xffffffff00000001000000000000000000000000ffffffffffffffffffffffff
/-- The order of the base point. -/
def n256 : Nat := 0xffffffff00000000ffffffffffffffffbce6faada7179e84f3b9cac2fc632551
/-- The curve constant b. -/
def b256 : Nat := 0x5ac635d8aa3a93e7b3ebbd55769886bc651d06b0cc53b0f63bce3c3e27d2604b
/-- The base point. -/
def g256 : Nat × Nat :=
  (0x6b17d1f2e12c4247f8bce6e563a440f277037d812deb33a0f4a13945d898c296,
   0x4fe342e2fe1a7f9b8ee7eb4a7c0f9e162bce33576b315ececbb6406837bf51f5)

/-- b to the power e modulo m, over the low n bits of e. -/
def powMod (m : Nat) : Nat → Nat → Nat → Nat
  | 0, _, _ => 1 % m
  | n + 1, b, e =>
    let r := powMod m n (b * b % m) (e / 2)
    if e % 2 = 1 then r * b % m else r

/-- Inverse modulo a prime below 2^256. -/
def invMod (m a : Nat) : Nat := powMod m 256 (a % m) (m - 2)

/-- A point in Jacobian coordinates; z = 0 is the point at infinity. -/
structure JPoint where
  (x y z : Nat)
  deriving DecidableEq, Repr

/-- Difference modulo the field prime. -/
def subP (a b : Nat) : Nat := (a + p256 - b % p256) % p256

/-- Doubling on y² = x³ − 3x + b. -/
def jDouble (q : JPoint) : JPoint :=
  if q.z = 0 then q
  else
    let y2 := q.y * q.y % p256
    let s := 4 * q.x * y2 % p256
    let z2 := q.z * q.z % p256
    let m := 3 * (subP q.x z2) * (q.x + z2) % p256
    let x := subP (m * m) (2 * s)
    let y := subP (m * subP s x) (8 * y2 * y2)
    ⟨x, y, 2 * q.y * q.z % p256⟩

/-- Addition. -/
def jAdd (q r : JPoint) : JPoint :=
  if q.z = 0 then r else if r.z = 0 then q
  else
    let z1 := q.z * q.z % p256
    let z2 := r.z * r.z % p256
    let u1 := q.x * z2 % p256
    let u2 := r.x * z1 % p256
    let s1 := q.y * z2 * r.z % p256
    let s2 := r.y * z1 * q.z % p256
    if u1 = u2 then (if s1 = s2 then jDouble q else ⟨1, 1, 0⟩)
    else
      let h := subP u2 u1
      let rr := subP s2 s1
      let h2 := h * h % p256
      let h3 := h * h2 % p256
      let v := u1 * h2 % p256
      let x := subP (subP (rr * rr) h3) (2 * v)
      let y := subP (rr * subP v x) (s1 * h3)
      ⟨x, y, h * q.z % p256 * r.z % p256⟩

/-- k times a point, over n bits of k. -/
def jMul : Nat → Nat → JPoint → JPoint
  | 0, _, _ => ⟨1, 1, 0⟩
  | n + 1, k, q =>
    let r := jMul n (k / 2) (jDouble q)
    if k % 2 = 1 then jAdd r q else r

/-- The affine x coordinate of a point that is not infinity. -/
def jX (q : JPoint) : Nat :=
  let zi := invMod p256 q.z
  q.x * (zi * zi % p256) % p256

/-- Whether (x, y) lies on the curve. -/
def onCurve (x y : Nat) : Bool :=
  decide (x < p256) && decide (y < p256) &&
    decide (y * y % p256 = (x * x * x + (p256 - 3) * x + b256) % p256)

/-- ECDSA verification with SHA-256 of message m under key (x, y) (R165). -/
def ecdsaVerify (x y r s : Nat) (m : List Byte) : Bool :=
  if onCurve x y && decide (0 < r) && decide (r < n256) && decide (0 < s) && decide (s < n256) then
    let e := ofBe (sha256 m)
    let w := invMod n256 s
    let q := jAdd (jMul 256 (e * w % n256) ⟨g256.1, g256.2, 1⟩) (jMul 256 (r * w % n256) ⟨x, y, 1⟩)
    if q.z = 0 then false else decide (jX q % n256 = r)
  else false

/-! ### DER -/

/-- One DER element: tag, content, and the bytes after it. -/
def derTake (l : List Byte) : Option (Nat × List Byte × List Byte) :=
  match l with
  | t :: n :: rest =>
    let hd : Option (Nat × List Byte) :=
      if n.toNat < 0x80 then some (n.toNat, rest)
      else if n.toNat = 0x81 then
        (match rest with
        | a :: r => if 0x80 ≤ a.toNat then some (a.toNat, r) else none
        | [] => none)
      else if n.toNat = 0x82 then
        (match rest with
        | a :: b :: r => if 0x100 ≤ ofBe [a, b] then some (ofBe [a, b], r) else none
        | _ => none)
      else none
    match hd with
    | some (k, r) => if k ≤ r.length then some (t.toNat, r.take k, r.drop k) else none
    | none => none
  | _ => none

/-- All elements of a content, at most n. -/
def derSeq : Nat → List Byte → Option (List (Nat × List Byte))
  | _, [] => some []
  | 0, _ => none
  | n + 1, l =>
    match derTake l with
    | some (t, c, r) => (derSeq n r).map fun es => (t, c) :: es
    | none => none

end Sys2Proof.Machine
end

