-- ==== Sys2Proof/Config.lean ====
section
/-! DEFINITION. What the spec leaves open: values that no rule of the spec fixes. Each is a constant without a body, so no
proof can use a particular value of it; log entries 3 to 6 say where each stands. -/

namespace Sys2Proof.Config

/-- A free word: the n-th value the spec leaves open in a run (log entry 3). -/
opaque freeWord : Nat → Word

/-- A free bit, as `freeWord`. -/
opaque freeBit : Nat → Bool

/-- The level the board holds on EN pin n at model time t while the device leaves the pin high-Z (R52). -/
opaque enBoard : Nat → Nat → Bool

/-- Byte i of the n-th random string of the on-chip generator: nonces (R520) and croak waits (R381). -/
opaque randomByte : Nat → Nat → Byte

/-- Byte i of the signature r, s by the device key over the given hash (R525): the private key is no part of the spec. -/
opaque devSign : Nat → List Byte → Nat → Byte

/-- The die temperature at model time t, signed, 0.1 °C (R400, `SCHED_DIE_T`). -/
opaque dieTemp : Nat → BitVec 16

end Sys2Proof.Config
end

