-- ==== Sys2Proof/Machine/State.lean ====
section
/-! DEFINITION. The state of the ZS2432: every register, buffer, engine state and pin the spec names, as plain data, and
the machine right after reset. INVENTORY.md lists the rule of spec/ that names each field.

Registers that software reads back as stored stand in ONE register file (`State.regs`, byte address to word); a register
whose fields show the state of an engine is composed by the read path from the fields below. -/

namespace Sys2Proof.Machine

/-! ### Roles, supplies, clocks, start-up (chapters 1 to 3) -/

/-- The role of `SYS_ROLE.ROLE` (R21). -/
inductive Role where
  | none | sgl | mst | slv | stk
  deriving DecidableEq, Repr

/-- `SYS_ROLE.STATE` (R21). -/
inductive RoleState where
  | starting | running | unconfigured | refused | bench | safeIdle
  deriving DecidableEq, Repr

/-- `SYS_ROLE.REASON` (R21). -/
inductive RoleReason where
  | none | clkFallback | secondMaster | noImage | roleBlocked
  deriving DecidableEq, Repr

/-- The active role (R21, R22). -/
structure RoleRec where
  role      : Role
  state     : RoleState
  /-- State before the L2 reset in progress; stage 6 returns to it (R22). -/
  saved     : RoleState
  reason    : RoleReason
  /-- The running image carries the pair attribute. -/
  pair      : Bool
  /-- Stack role taken from `STK_DEFAULT` (R17). -/
  stkDflt   : Bool
  /-- Assigned Ridge node or chain address, 0 with `addrValid` false. -/
  addr      : Nat
  addrValid : Bool
  deriving DecidableEq, Repr

/-- Start-up progress (R96 to R103). -/
structure Boot where
  /-- `SYS_BOOT.STAGE`: 0 none, 1 to 6 in progress, 7 complete. -/
  stage     : Nat
  /-- Model time at which the stage began. -/
  stageAt   : Nat
  retryCnt  : Nat
  failStage : Nat
  fuseTry   : Nat
  /-- `WAKE_START`: the last start was a wake (R103). -/
  wakeStart : Bool
  /-- The start in progress is a wake from stack sleep: stage 3 is skipped, and the AON count carries `TB_UP` (R91, R111). -/
  wakeRun   : Bool
  bench     : Bool
  stk       : Bool
  /-- k of R101; its register field stays at 7. -/
  backoffK  : Nat
  /-- End of the retry wait in progress (R100, R101), in model time. -/
  retryEnd  : Option Nat
  /-- The EPOCH update of this start is complete (R99). -/
  epochDone : Bool
  /-- FAULT_N is asserted by the start-up logic or the role state (R61). -/
  faultN    : Bool
  /-- The fuse shadow is valid (R136). -/
  shadowOk  : Bool
  /-- The master listens to the tick pair until this instant (R27). -/
  listenEnd : Option Nat
  deriving DecidableEq, Repr

/-- Clock state (R82 to R87). -/
structure Clk where
  monEvt   : Bool
  sofTrim  : Bool
  sofCount : Nat
  aonRcOk  : Bool
  fallback : Bool
  pllLock  : Bool
  xtalOk   : Bool
  pllFromRc : Bool
  /-- The clock monitor watches (R82). -/
  armed    : Bool
  /-- A CLKFAIL reset has gated the PLL-derived clocks (R131). -/
  gated    : Bool
  deriving DecidableEq, Repr

/-- Timebase, uptime and epoch (R88 to R95). -/
structure Tb where
  now       : BitVec 32
  up        : BitVec 64
  /-- Holding register of `TB_UP_HI` (R92). -/
  upHi      : BitVec 32
  epoch     : BitVec 32
  resyncCnt : Nat
  epochLost : Bool
  epochSat  : Bool
  resync    : Bool
  /-- The TB domain is out of reset and counts (R91). -/
  running   : Bool
  /-- Microseconds spent in stack sleep and its wake, which `CLK_AON` counts in steps of 30.5 µs (R91). -/
  sleepUs   : Nat
  /-- Correction of at most 2 µs still to be slewed in, positive forward, and the position within the microsecond of `now`, both in
  half-nanoseconds (R89, R368). -/
  slew      : Int
  frac      : Int
  deriving DecidableEq, Repr

/-- Supplies (R68 to R79). -/
structure Supply where
  /-- The AON domain is powered. -/
  aon       : Bool
  /-- VIN is at or above the POR release threshold. -/
  vin       : Bool
  vbus      : Bool
  vddioOk   : Bool
  vddioLost : Bool
  cpOk      : Bool
  /-- The charge pump runs (R72). -/
  cpRun     : Bool
  srcEvt    : Bool
  /-- A rising edge of `SRC_FAULT` whose step is still due (R77). -/
  srcEdge   : Bool
  deriving DecidableEq, Repr

/-- `SYS_PWR` and the low-power states (R107 to R112). -/
structure Pwr where
  wakeCause : BitVec 5
  /-- `PSTATE` 1: waking from DOZE. -/
  waking    : Bool
  wakeCmpEn : Bool
  wakePinEn : Bool
  dozeRef   : Bool
  doze      : Bool
  /-- Stack sleep (R111). -/
  sleep     : Bool
  deriving DecidableEq, Repr

/-- How an EN pin is driven (R48, R53, R55). -/
inductive EnDrive where
  /-- The passive pull-down of an unpowered device (R54). -/
  | pullDown
  /-- Open-drain LOW of the pre-shadow phase, SAFE_IDLE, or a LOW mapping. -/
  | low
  /-- HIGH mapping: push-pull high to VDDIO (R56). -/
  | high
  | highZ
  /-- Driven by the role: mode code of Table 2-5 and active state. -/
  | role (mode : BitVec 2) (active : Bool)
  deriving DecidableEq, Repr

/-- Levels on the digital pins the board drives, and the EN drives. -/
structure Pins where
  resetN    : Bool
  /-- End of the last low level on RESET_N, in model time; none: high since power-up. -/
  resetRise : Option Nat
  wakeN     : Bool
  test      : Bool
  ifselPin  : Bool
  adrPin    : BitVec 2
  gpio      : BitVec 8
  zx        : Bool
  /-- `SYS_STRAP` (R47): TEST, IFSEL, ADR1:ADR0. -/
  strapTest : Bool
  strapIf   : Bool
  strapAdr  : BitVec 2
  /-- Strap samples taken since the CORE step, IFSEL and ADR1:ADR0, latest first (R43). -/
  strapSamp : List (Bool × BitVec 2)
  en        : List EnDrive
  /-- The drives that HOLD-mapped pins kept through the last L1 to L3 reset; LOW since an L0 reset (R57). -/
  held      : List EnDrive
  /-- RSTOUT_N is asserted (R60). -/
  rstout    : Bool
  /-- Instant from which the 100 µs of R60 count. -/
  usbOutAt  : Option Nat
  deriving DecidableEq, Repr

/-! ### Reset controller (chapter 4) -/

/-- Reset levels (R117). -/
inductive Level where
  | l0 | l1 | l2 | l3
  deriving DecidableEq, Repr

/-- A reset in progress (R125). -/
structure ResetRun where
  level    : Level
  /-- Still asserted, not yet releasing. -/
  asserted : Bool
  /-- Instant of assertion, in model time. -/
  since    : Nat
  /-- The level has acted on the blocks; a CLKFAIL reset of L1 to L3 waits for the lock first (R131). -/
  applied  : Bool := true
  deriving DecidableEq, Repr

/-- Progress of ADOPT (R153). -/
structure AdoptRun where
  /-- Instant at which ADOPT began, in model time. -/
  since   : Nat
  /-- Samples taken: EN state, FL output, FH output of the 24 rails. -/
  samples : List (BitVec 24 × BitVec 24 × BitVec 24)
  deriving DecidableEq, Repr

/-- The reset controller. -/
structure RstRec where
  /-- `RST_CAUSE` (R139). -/
  cause    : BitVec 32
  run      : Option ResetRun
  /-- Domains released since the start of stage 6: CORE, FAB, ADC, TB, LINK, USB. -/
  domains  : Nat
  /-- Instant of the CORE step. -/
  coreAt   : Option Nat
  hifUp    : Bool
  /-- Configuration SRAM is valid (R149). -/
  sramOk   : Bool
  lateCnt  : Nat
  refused  : BitVec 3
  badKey   : Bool
  /-- Wrapped blocks in block reset: bit n of Table 4-9, with the instant of the request. -/
  busy     : List (Nat × Nat)
  genLogw  : BitVec 4
  genSvc   : BitVec 4
  genCh1   : BitVec 4
  genCh0   : BitVec 4
  genRidge : BitVec 4
  /-- T0 of the restart after a SYSTEM reaction (R158). -/
  sysRestart : Option (BitVec 32)
  /-- A restart after SYSTEM waits for the ADOPT exit or the host-interface release. -/
  sysArmed : Bool
  adopt    : Option AdoptRun
  deriving DecidableEq, Repr

/-! ### Configuration image and thatch fabric (chapter 5) -/

/-- One section of an image as the device remembers it (R163, R178). -/
structure SecInfo where
  tag : Nat
  live : Bool
  len : Nat
  crc : Word
  deriving DecidableEq, Repr

/-- A checked image, as it is loaded into configuration SRAM. -/
structure ImageInfo where
  role    : Role
  pair    : Bool
  version : Word
  svn     : Nat
  oemTag  : Word
  /-- Bytes 0 to 3 of the SHA-256 of the signed image (R165, R422). -/
  imgTag  : Word
  devKey  : Bool
  secs    : List SecInfo
  /-- Register values the records carry, by address. -/
  vals    : List (Nat × Word)
  deriving DecidableEq, Repr

/-- `IMG_STAT.OP` (R174). -/
inductive ImgOp where
  | none | verify | live | full
  deriving DecidableEq, Repr

/-- The IMG bank and the running image (R174). -/
structure Img where
  err      : BitVec 4
  vrej     : BitVec 4
  op       : ImgOp
  liveOk   : Bool
  verified : Bool
  vslot    : Bool
  fallback : Bool
  runSlot  : Bool
  rejA     : BitVec 4
  rejB     : BitVec 4
  verA     : Word
  verB     : Word
  runVer   : Word
  bgchk    : Nat
  /-- The running image in configuration SRAM; none: no image runs. -/
  running  : Option ImageInfo
  /-- Why no valid image was found at the last stage 5 (R17). -/
  noImage  : RoleReason
  /-- Step of a full reload (R182): 0 none, 1 guard and re-read, 3 copying. -/
  reload   : Nat
  deriving DecidableEq, Repr

/-- One reed cell (R184, R185). -/
structure Cell where
  q    : Bool
  ff   : Bool
  tcnt : Nat
  tout : Bool
  /-- LUT output of the previous cycle, for the edges of R185. -/
  l    : Bool
  deriving DecidableEq, Repr

/-- The thatch fabric. -/
structure Fab where
  run    : Bool
  /-- The reload guard is engaged (R182). -/
  guard  : Bool
  cells  : List Cell
  /-- Source values after the synchronisers; bits 192 to 255 are the cell outputs. -/
  src    : BitVec 256
  /-- Sink registers (R189). -/
  sink   : BitVec 80
  /-- Pulse-source events not yet sampled (R188). -/
  pulses : List Nat
  /-- Rising edges of edge-acting sinks whose effect is still due: one set per `CLK_FAB` cycle, oldest first. -/
  edges  : List (List Nat)
  /-- The next cycle is the first after a start (R585). -/
  first  : Bool
  /-- Free-running 1 ms divider (R186). -/
  div    : Nat
  deriving DecidableEq, Repr

/-! ### Ladder front end and measurement (chapter 6) -/

/-- Boxcar and IIR state of one channel (R210, R211). -/
structure Filter where
  /-- Sum S of the window, in 2.5 µV. -/
  sum    : Int
  m      : Nat
  /-- No full window since the last filter restart. -/
  firstW : Bool
  /-- IIR state; none until seeded. -/
  y      : Option Int
  /-- A clipped sample is in the window (R212). -/
  clip   : Bool
  deriving DecidableEq, Repr

/-- One measurement channel. -/
structure MeasCh where
  filt   : Filter
  /-- Samples with edges before this instant are discarded (R203), in model time. -/
  blank  : Nat
  deriving DecidableEq, Repr

/-- A scan in flight between its edge and its publication (R207). -/
structure ScanRun where
  /-- Ts. -/
  ts     : BitVec 32
  /-- Corrected codes of channels 0 to 23 and the AVDD voltage in 10 µV. -/
  codes  : List Int
  avdd   : Int
  /-- Bit n: the sample of channel n enters its filter: used, not blanked, not under check (R203, R225). -/
  take   : BitVec 24
  short  : Bool
  /-- Model time of the edge. -/
  at_    : Nat
  /-- The register file that governed the samples, where step 4 of a full reload has replaced it since (R205, R242). -/
  cfg    : Option (List (Nat × Word)) := none
  deriving DecidableEq, Repr

/-- A running wet-board check (R222). -/
structure WetRun where
  /-- Channels still to check, ascending; the head is under check. -/
  todo   : List Nat
  /-- Step 1 to 5; 0 waits for the check of a comparator of the channel, 6 settles after the last step. -/
  step   : Nat
  /-- Mean of step 3 (10 µV), of step 4, and the failure flags so far. -/
  v0     : Int
  vPos   : Int
  clipP  : Bool
  clipN  : Bool
  tieBad : Bool
  /-- FL and FH outputs held during the check (R225). -/
  holdFl : Bool
  holdFh : Bool
  /-- Instant at which the step's settling ends, in model time. -/
  settle : Nat
  deriving DecidableEq, Repr

/-- The measurement engine. -/
structure Meas where
  ch       : List MeasCh
  scan     : Option ScanRun
  /-- The engine takes scan edges (R209). -/
  active   : Bool
  /-- Every filter restarts at the next edge (R209, R213). -/
  restart  : Bool
  /-- No edge is taken before this instant, in model time (R205, R209). -/
  notUntil : Nat
  /-- Model time of the last scan edge. -/
  lastAt   : Nat
  lastTs   : BitVec 32
  /-- An edge has been taken since scanning (re)started. -/
  anyEdge  : Bool
  wet      : Option WetRun
  deriving DecidableEq, Repr

/-! ### Fast comparators and warnings (chapter 7) -/

/-- One comparator of a channel (R229, R237 to R241). -/
structure Comp where
  /-- The comparator output. -/
  out   : Bool
  /-- Qualified state Q. -/
  q     : Bool
  /-- Failed steps of the last check and the not-judged bit (R245). -/
  chk   : BitVec 3
  nj    : Bool
  /-- The output is held released until this instant after power-up (R235), in model time. -/
  holdTo : Option Nat
  /-- The level the input would give now: updated by crossings also while blind, held or frozen. -/
  live  : Bool
  /-- EDGE stretch of a pulse: the output stays asserted until the fabric has sampled it, or the microsecond has passed (R239). -/
  stretch : Bool
  /-- Model time of the last strobe (R236). -/
  strobed : Option Nat := none
  deriving DecidableEq, Repr

/-- The comparators and warnings of one channel. -/
structure CmpCh where
  fl      : Comp
  fh      : Comp
  wl      : Bool
  wh      : Bool
  wlFlag  : Bool
  whFlag  : Bool
  wlCnt   : Nat
  whCnt   : Nat
  /-- Warnings masked by a margin (R244). -/
  masked  : Bool
  deriving DecidableEq, Repr

/-- A self-check in progress (R245 to R247). -/
structure ChkRun where
  /-- Comparators still to check: 2n for FL of channel n, 2n + 1 for FH; the head is under check. -/
  todo     : List Nat
  /-- 0 SWAP, 1 TIE_LO, 2 TIE_HI, 3 restore. -/
  step     : Nat
  /-- N of Table 7-4. -/
  n        : Bool
  /-- Tc of the comparator under check, in model time. -/
  since    : Nat
  periodic : Bool
  deriving DecidableEq, Repr

/-- The comparator block. -/
structure Cmp where
  ch         : List CmpCh
  armed      : Bool
  chk        : Option ChkRun
  chkRefused : Bool
  chkAbort   : Bool
  pskip      : Bool
  thRej      : Bool
  limRej     : Bool
  passes     : Nat
  /-- 1 ms ticks since the last periodic pass fell due (R247). -/
  perCnt     : Nat
  deriving DecidableEq, Repr

/-! ### Rail sequencer (chapter 8) -/

/-- Rail states (R262). -/
inductive RailState where
  | off | waitOn | ramp | on | waitOff | discharge | retryWait | faulted
  deriving DecidableEq, Repr

/-- Device sequence states (R268). -/
inductive SeqState where
  | idle | rising | up | falling | downHold | hold | adopt
  deriving DecidableEq, Repr

/-- Source-pair states (R284). -/
inductive SrcState where
  | none | mains | gapToBatt | batt | gapToMains
  deriving DecidableEq, Repr

/-- One rail. -/
structure Rail where
  state     : RailState
  /-- The sequencer drives EN n to its on state (`EN_ON`). -/
  en        : Bool
  /-- On instant or off instant of WAIT_ON and WAIT_OFF, on the timebase. -/
  inst      : BitVec 32
  /-- Start of the running timeout or dwell, in model time: ramp, discharge, retry gap. -/
  since     : Nat
  /-- Captured timeout in µs (R261). -/
  tmo       : Nat
  /-- Model time since which the sense has been inside its window during RAMP. -/
  inWin     : Option Nat
  rampFail  : Bool
  dischFail : Bool
  waitFault : Bool
  /-- Model time at which the rail entered ON (R304). -/
  onAt      : Nat
  /-- Cause code (Table 10-4) of a reaction deferred by HOLD (R279) or due at the ADOPT exit (R153). -/
  deferred  : Option Nat
  /-- Rail state at the deferred event. -/
  deferSt   : RailState
  deriving DecidableEq, Repr

/-- A pending time-launched group command. -/
structure GrpCmd where
  stop : Bool
  g    : Nat
  t    : BitVec 32
  /-- From a GRPDN edge, not from a command. -/
  edge : Bool := false
  deriving DecidableEq, Repr

/-- The sequencer. -/
structure Seq where
  state    : SeqState
  holdFrom : SeqState
  cmdErr   : BitVec 4
  startReq : Bool
  /-- Launch time, and whether a fabric sink issued it (R309). -/
  pendStart : Option (BitVec 32 × Bool)
  pendStop : Option (BitVec 32)
  pendGrp  : List GrpCmd
  /-- Commands held through HOLD or ADOPT (R277); a START with its fabric flag. -/
  heldStart : Option Bool
  heldStop : Bool
  heldGrp  : List GrpCmd
  grpDown  : BitVec 8
  /-- Groups whose stop is in progress (R282). -/
  grpStop  : BitVec 8
  /-- FALLING started by a SYSTEM reaction (R308): ends in the FABRIC reset. -/
  sysFall  : Bool
  /-- Master (R273): nodes that have reported DOWN_HOLD since they last reported RISING or UP, the instant Td in model time, and T0 of
  the restart issued. -/
  downSeen : BitVec 32
  downTd   : Option Nat
  restartT : Option (BitVec 32)
  rails    : List Rail
  /-- Entry into DOWN_HOLD in model time and the captured MIN_OFF. -/
  downAt   : Nat
  minOff   : Nat
  /-- Entry into UP (R309), in model time. -/
  upAt     : Nat
  src      : SrcState
  /-- Start of the gap or dwell in model time, and the captured length. -/
  srcAt    : Nat
  /-- Off instant of the pair while a STOP runs (R289). -/
  srcOff   : Option (BitVec 32)
  srcTmo   : Nat
  dwell    : Bool
  /-- µs that a dwell held up by `HOLD_BATT` has counted so far (R286). -/
  dwellAcc : Nat := 0
  /-- First selection after T0 made (R286). -/
  srcFirst : Bool
  handovers : Nat
  deriving DecidableEq, Repr

/-! ### Reactions and margining (chapter 9) -/

/-- Reaction state of one rail (R303, R304). -/
structure ReactRail where
  used : Nat
  esc  : Bool
  last : BitVec 2
  deriving DecidableEq, Repr

/-- A cascade command the master owes to a reaction (R313). -/
inductive CascCmd where
  | stop | start | grpStop (g : Nat)
  deriving DecidableEq, Repr

/-- The reaction block. -/
structure React where
  rails   : List ReactRail
  /-- AON-domain words of `REACT_SYSSTAT` (R309). -/
  sysCnt  : Nat
  lockout : Bool
  sysEvt  : Bool
  /-- Model time of Tf of the first fault, while `REACT_FIRST` is valid (R312). -/
  firstAt : Nat := 0
  /-- SYSREACT value decided at the SYSTEM reaction (R309). -/
  restart : Bool
  /-- Instant at which a SYSTEM FALLING ended (R308), in model time. -/
  sysEnd  : Option Nat
  /-- Nodes whose SYSTEM reaction awaits a RESTART (R313). -/
  casc    : List Nat
  deriving DecidableEq, Repr

/-- Margin DAC states (R319). -/
inductive MrgState where
  | nominal | slewOut | held | slewBack
  deriving DecidableEq, Repr

/-- One margin DAC (R317 to R323). -/
structure Dac where
  state   : MrgState
  cur     : Int
  goal    : Int
  target  : Bool
  timeout : Bool
  wcntH   : Nat
  wcntL   : Nat
  /-- Model time of the last accepted MARGIN command, and of the last step. -/
  cmdAt   : Nat
  stepAt  : Nat
  deriving DecidableEq, Repr

/-- The margin block. -/
structure Mrg where
  dacs    : List Dac
  deriving DecidableEq, Repr

/-! ### MRAM, log and counters (chapter 10) -/

/-- What the log writer is writing (R334, R340). -/
inductive LogJobKind where
  | record | hist
  deriving DecidableEq, Repr

/-- A record or entry being written: the words in the order of writing not yet written. -/
structure LogJob where
  kind : LogJobKind
  /-- Sequence number of the record or entry. -/
  seq  : Nat
  /-- Byte address and value of the words still to write before the commit word. -/
  todo : List (Nat × Word)
  commit : Nat × Word
  deriving DecidableEq, Repr

/-- A capture waiting in a buffer: the body words (words 0 to 125 of a record, 0 to 6 of an entry). -/
structure Capture where
  kind  : LogJobKind
  words : List Word
  deriving DecidableEq, Repr

/-- The log index of one ring (R336): commit words of the valid entries by slot. -/
structure LogIndex where
  /-- Valid slots. -/
  valid  : List Nat
  newest : Option Nat
  next   : Nat
  deriving DecidableEq, Repr

/-- A window context (R349). -/
structure Window where
  logAddr : Nat
  nvmAddr : Nat
  /-- Posted write: byte address and word. -/
  posted  : Option (Nat × Word)
  postAt  : Nat
  logEcc2 : Bool
  range   : Bool
  nvmEcc2 : Bool
  wref    : Bool
  ovr     : Bool
  deriving DecidableEq, Repr

/-- MRAM, log writer and counters. -/
structure Nvm where
  /-- Words by byte address, canonical: ascending, none zero; an unlisted word reads 0. -/
  mram    : List (Nat × Word)
  /-- Words with an uncorrectable ECC error, ascending. -/
  bad     : List Nat
  job     : Option LogJob
  /-- Captured but not started: at most one record and eight entries. -/
  buf     : List Capture
  recIdx  : LogIndex
  histIdx : LogIndex
  /-- Log index, counter shadow rebuilt at this L0 start (R336). -/
  rebuilt : Bool
  dropCnt : Nat
  eccFix  : Bool
  abandon : Bool
  histNew : Bool
  recNew  : Bool
  /-- Per rail: TB_UP of the last history capture and the suppressed count (R339). -/
  lastHist : List (Option Nat × Nat)
  /-- Counter shadow: 96 counters in MRAM order (R344). -/
  cnt     : List Word
  /-- Counters changed since their last write (R345). -/
  dirty   : List Nat
  /-- 1 ms ticks since the last flush tick. -/
  flushMs : Nat
  satEvt  : Bool
  cntEcc  : Bool
  clrEvt  : Bool
  /-- Requested clears waiting for the writer (R348): the log, and counters by index. -/
  clrLog  : Bool
  clrCnt  : List Nat
  /-- TB_UP of the last marker write of this EPOCH (R342). -/
  markAt  : Option Nat
  winHost : Window
  winSvc  : Window
  winRidge : Window
  deriving DecidableEq, Repr

/-! ### Ridge link (chapter 11) -/

/-- `RIDGE_STAT.LSTATE` (R380). -/
inductive LinkState where
  | off | listen | locking | croaking | joining | admitted | mstListen | master | refused | paired
  deriving DecidableEq, Repr

/-- A Ridge command as queued or received (R364). -/
structure RidgeCmd where
  op   : Nat
  dst  : Nat
  cseq : Nat
  /-- Launch time or first argument. -/
  arg0 : BitVec 32
  arg1 : BitVec 32
  deriving DecidableEq, Repr

/-- A command waiting in the master queue (R374). -/
structure QueueCmd where
  cmd : RidgeCmd
  /-- The master chooses T at placement (R373). -/
  chooseT : Bool
  /-- Reissues so far and the CSEQ of the original (R377). -/
  tries : Nat
  /-- Issued by RIDGE_HCMD. -/
  hcmd : Bool
  /-- Issued by the proxy. -/
  proxy : Bool
  deriving DecidableEq, Repr

/-- An issued command still to be resolved for one node (R377). -/
structure Resol where
  item  : QueueCmd
  node  : Nat
  frame : Nat
  /-- Replies missing since the frame of issue. -/
  miss  : Nat
  deriving DecidableEq, Repr

/-- One node of the master's table (R382, R385). -/
structure Node where
  uid      : BitVec 64
  puid     : BitVec 64
  bound    : Bool
  joining  : Bool
  admitted : Bool
  absent   : Bool
  /-- Frame count (never wrapping) at which the node became absent. -/
  absentAt : Nat
  missed   : Nat
  tlock    : Bool
  grpDown  : BitVec 8
  ract     : BitVec 8
  stateB   : BitVec 8
  evt      : BitVec 16
  /-- A valid reply has been taken, so toggles compare (R388). -/
  seen     : Bool
  /-- Applied delay and residual samples in ns (R370). -/
  dly      : Nat
  samples  : List Int
  resid    : Int
  /-- Frame of the DELAY and whether it is CONFIRMED (R383). -/
  dlyAt    : Option Nat
  dlyOk    : Bool
  deriving DecidableEq, Repr

/-- Master side of the Ridge controller. -/
structure RMaster where
  nodes    : List Node
  queue    : List QueueCmd
  resol    : List Resol
  /-- The commands of the bursts of the frame in progress. -/
  burst    : List QueueCmd
  nextCseq : Nat
  /-- Frames since role start, never wrapping. -/
  frames   : Nat
  /-- `RTIME` of the last tick, if one has been driven. -/
  lastTick : Option (BitVec 32)
  croaked  : Bool
  /-- Node and frame of placement of the proxy's REG_READ, once placed. -/
  pxRead   : Option (Nat × Option Nat)
  /-- A reset has cut the frame in progress: the rest of it is lost (R135). -/
  cut      : Bool := false
  /-- Burst B of the frame in progress has left (R361). -/
  sentB    : Bool := true
  /-- REG_READs that a reset ended, node and frame of placement: their answers carry an old generation tag (R143). -/
  stale    : List (Nat × Nat) := []
  deriving DecidableEq, Repr

/-- Slave side of the Ridge controller. -/
structure RSlave where
  /-- Commands received and waiting for T. -/
  timed    : List RidgeCmd
  /-- CSEQ values received since admission. -/
  seen     : List Nat
  /-- CSEQ range of the current and previous frame: (base, count). -/
  range    : Option (Nat × Nat)
  prevRange : Option (Nat × Nat)
  rxSeq    : Nat
  missmap  : BitVec 16
  /-- First CSEQ to execute after admission (R375). -/
  fromSeq  : Nat
  evt      : BitVec 16
  ract     : BitVec 8
  data     : Word
  dvalid   : Bool
  /-- Ticks (R368, R369): good run, bad run, odd run with its last error, accepted since LISTEN. -/
  good     : Nat
  bad      : Nat
  odd      : List Int
  accepted : Nat
  /-- A tick edge waits for its header: model time and phase error in ns. -/
  edge     : Option (Nat × Int)
  dlyOk    : Bool
  /-- Model time of the last accepted tick. -/
  lastTick : Nat
  /-- Frames since ADMIT in JOINING. -/
  joinFr   : Nat
  /-- Croaking (R381): frames to wait, attempts, frames waited for an answer. -/
  backoff  : Nat
  tries    : Nat
  waitAns  : Option Nat
  pref     : Nat
  /-- Croak slots open in the last header, and the slot drawn; none: the first open one. -/
  slots    : BitVec 2
  slotSel  : Option Bool
  /-- Admitted since the role start (R157, R384). -/
  once     : Bool
  /-- `RTIME` of the last valid header: the origin of the frames by this device's timebase (R361). -/
  rtime    : Option (BitVec 32) := none
  deriving DecidableEq, Repr

/-- The Ridge controller. -/
structure Ridge where
  lstate  : LinkState
  session : BitVec 8
  tlock   : Bool
  mlost   : Bool
  node    : Nat
  frame   : Nat
  /-- The last bytes this device sent on the data pair, each transmission with its preamble and delimiter, and the model time of their
  start. -/
  tx      : List Byte
  txAt    : Nat := 0
  /-- ZX and budget fields of the last header (slave). -/
  zxts    : BitVec 32
  zxv     : Bool
  bepoch  : BitVec 16
  m       : RMaster
  s       : RSlave
  deriving DecidableEq, Repr

/-! ### Budget scheduler (chapter 12) -/

/-- One load-table entry's running state (R404, `SCHED_LSTAT`). -/
structure Load where
  credit  : Nat
  wait    : Nat
  urgent  : Bool
  granted : Bool
  active  : Bool
  deriving DecidableEq, Repr

/-- Supervision of one budgeted rail on its owner (R413 to R415). -/
structure PhaseSup where
  /-- Judging state of the grant interval in progress: any valid publication, all with phase present, largest |VALUE|. -/
  open_   : Bool
  any     : Bool
  allPh   : Bool
  peak    : Nat
  dark    : Nat
  /-- Identical-value run of `ICH` (R415). -/
  same    : Nat
  lastVal : Int
  /-- Start of the grant interval, and the bounds of the one before, in model time. -/
  since   : Nat
  prevFrom : Nat
  prevTo  : Nat
  deriving DecidableEq, Repr

/-- A grant with its launch time (R408). -/
structure Grant where
  t    : BitVec 32
  len  : Nat
  mask : BitVec 24
  deriving DecidableEq, Repr

/-- The scheduler. -/
structure Sched where
  loads   : List Load
  /-- ZX series (R397, R398): last accepted timestamp, up to four intervals newest first. -/
  zxLast  : Option (BitVec 32)
  zxInts  : List Nat
  zxOk    : Bool
  /-- Good intervals in a row while not ok. -/
  zxGood  : Nat
  bepoch  : BitVec 16
  run     : Bool
  pInhibit : Bool
  pNotUp  : Bool
  pHalt   : Bool
  pZx     : Bool
  /-- Own grants decided and not launched, and the grant in force with its end. -/
  pend    : List Grant
  cur     : Option Grant
  sup     : List PhaseSup
  /-- Copies of slaves' SCHED_BLK and SCHED_US: (node, blk, us) (R416). -/
  copies  : List (Nat × BitVec 24 × BitVec 24)
  /-- Poll position: next (node index, word) pair. -/
  pollPos : Nat
  /-- Polls outstanding: node, word (false BLK, true US), frame of placement once placed. -/
  polls   : List (Nat × Bool × Option Nat)
  deriving DecidableEq, Repr

/-! ### Redundant pair (chapter 13) -/

/-- `PAIR_STAT.PSTATE` (R423). -/
inductive PairState where
  | none | listen | solo | primary | regrow | inStep | orphan | noForm
  deriving DecidableEq, Repr

/-- What the partner last said of itself (R422, R429). -/
structure Partner where
  pos    : Bool
  pstate : Nat
  term   : BitVec 16
  imgTag : Word
  uid    : BitVec 64
  restart : Bool
  copyOk : Bool
  deriving DecidableEq, Repr

/-- A mirror frame (R428). -/
structure MFrame where
  ty      : Nat
  fseq    : Nat
  payload : List Byte
  deriving DecidableEq, Repr

/-- The mirror engine. -/
structure Pair where
  pstate   : PairState
  term     : BitVec 16
  partner  : Option Partner
  /-- Model time of the end of the last heartbeat, of the last guard edge on GPIO7, of entry into LISTEN. -/
  lastHb   : Option Nat
  lastEdge : Option Nat
  listenAt : Nat
  /-- B waits for A's first heartbeat as SOLO since this instant (R424). -/
  claimWait : Option Nat
  gpio6    : Bool
  guardAt  : Nat
  /-- Copy of the mirror set (SHADOW), or its image at the last tick (PRIMARY): index and value, canonical. -/
  copy     : List (Nat × Word)
  copyOk   : Bool
  deltas   : List (Nat × Word)
  unacked  : List MFrame
  /-- The ordered stream runs: a SNAPREQ has been taken, or a yield has handed it over (R444). -/
  stream   : Bool
  /-- Frames of `unacked` that have left since the last resend, and the model time at which the line is free. -/
  sent     : Nat
  busyTo   : Nat
  /-- Next FSEQ to place, next expected FSEQ, last in-order FSEQ taken. -/
  fseq     : Nat
  expect   : Nat
  ack      : Nat
  /-- Model time at which ACK last advanced or the oldest frame left. -/
  ackAt    : Nat
  restart  : Bool
  epoch    : Nat
  /-- `TB_NOW` of the last epoch end. -/
  commitAt : Option (BitVec 32)
  /-- Commits whose DIGEST is awaited: epoch, digest, model time of leaving (0: not yet). -/
  commits  : List (Nat × Word × Nat)
  matchCnt : Nat
  /-- PRIMARY: chunks of a regrow still to place; a chunk is due after a DELTA (R444). -/
  chunkTx  : List Nat
  chunkTurn : Bool
  chunks   : Nat
  chunkGoal : Nat
  yield    : Option (BitVec 32)
  /-- FSEQ of the YIELD frame while unacknowledged. -/
  yieldSeq : Option Nat
  cerr     : BitVec 3
  /-- Held timed commands (R434). -/
  held     : List RidgeCmd
  /-- AND rails cut by a fast-off trip of this SHADOW (R439). -/
  andTrip  : BitVec 24
  /-- Bytes of the frames last sent, and their model time. -/
  tx       : List (List Byte)
  txAt     : Nat
  /-- Model time of the last heartbeat frame sent. -/
  hbAt     : Nat
  /-- The partner has stopped being present since its last heartbeat. -/
  lost     : Bool := false
  /-- State before the ADOPT of a unit that goes alone: it is the unit's state until ADOPT has ended (R159, R424). -/
  adoptFrom : Option PairState := none
  deriving DecidableEq, Repr

/-! ### Stack role and chain ports (chapter 14) -/

/-- The stack unit. -/
structure Unit_ where
  spur     : Bool
  /-- Last READ or WRITE taken and its reply; last broadcast taken (R464). -/
  lastCmd  : Option (List Byte)
  lastReply : List Byte
  lastBc   : Option (List Byte)
  /-- Captured schedule of the period: cells scheduled on with their off instants, in model time. -/
  sched    : List (Nat × Nat)
  /-- Model time of the last period start, or of taking the address. -/
  perAt    : Nat
  pause    : Bool
  /-- Waiting for TAKEN(n + 1) or END since this model time (R466). -/
  enumWait : Option Nat
  /-- `SEQ` and `CNT` bytes of the ENUM last taken, echoed in the END of the top unit (R460, R466). -/
  enumSeq  : Nat
  enumCnt  : Nat
  /-- Model time of the last valid frame on D (R470). -/
  lastD    : Nat
  /-- Bytes last sent on D and on U; a tone on U counts as the empty frame with `toneU`. -/
  txD      : List Byte
  txU      : List Byte
  toneU    : Bool
  /-- A wake by the tone is under way: the tone goes on to U when stage 2 completes (R471). -/
  toneDue  : Bool := false
  deriving DecidableEq, Repr

/-- Chain-master port states (R468). -/
inductive PortState where
  | off | idle | waking | enumerating | ready | failed
  deriving DecidableEq, Repr

/-- A broadcast waiting for a proxy transfer to end, or a port command (R473). -/
inductive PortCmd where
  | wakeEnum | enum | sleep | balOff | snap
  deriving DecidableEq, Repr

/-- The transaction in progress on a port (R465). -/
structure Trans where
  /-- Proxy context: false host, true service. -/
  svc      : Bool
  frame    : List Byte
  write    : Bool
  unit     : Nat
  cnt      : Nat
  attempts : Nat
  /-- Model time at which the present attempt left. -/
  at_      : Nat
  deriving DecidableEq, Repr

/-- A chain-master port. -/
structure ChainPort where
  state : PortState
  units : Nat
  seq   : Nat
  trans : Option Trans
  /-- Requests of the two contexts waiting, in order (R472): context, write, unit, count, register. -/
  wait  : List (Bool × Bool × Nat × Nat × Nat)
  /-- Port commands waiting for the transfer in progress, in order. -/
  cmds  : List PortCmd
  /-- Model time of the end of the wake tone, or of ENUM(1). -/
  at_   : Nat
  /-- Frames last sent: a broadcast twice (R473). -/
  tx    : List (List Byte)
  /-- Commands of transfers that a reset of the port ended: a reply to one carries an old generation tag (R143). -/
  stale : List (List Byte)
  /-- The last thing sent was the wake tone. -/
  tone  : Bool
  deriving DecidableEq, Repr

/-- Chain master. -/
structure Chain where
  p0     : ChainPort
  p1     : ChainPort
  deriving DecidableEq, Repr

/-! ### Host interface and watchdog (chapter 15) -/

/-- A word in the write queue (R484). -/
structure QWord where
  addr : Nat
  val  : Word
  /-- Number of its transaction. -/
  txn  : Nat
  deriving DecidableEq, Repr

/-- The host interface. -/
structure Hif where
  crcErr  : Nat
  othErr  : Nat
  errf    : Bool
  lastErr : BitVec 4
  irqImg  : Bool
  irqBoot : Bool
  queue   : List QWord
  /-- Number of the last transaction. -/
  txn     : Nat
  /-- Model time since which the front word waits for the window. -/
  waitAt  : Nat
  /-- The transaction whose words are queued has ended with an error. -/
  qErr    : Bool := false
  /-- Bytes last sent to the host. -/
  tx      : List Byte
  /-- An I2C byte of the last transaction was left unacknowledged (R490). -/
  nack    : Bool
  deriving DecidableEq, Repr

/-- The host watchdog (R498, R499). -/
structure Wdt where
  run    : Bool
  /-- Model time of the start or the last accepted kick. -/
  since  : Nat
  /-- No kick accepted since the start (FIRST deadline and no EARLY test). -/
  first  : Bool
  par    : Bool
  wcause : BitVec 2
  deriving DecidableEq, Repr


/-! ### Service port and identity (chapter 16) -/

/-- Session levels (R509). -/
inductive AccessLevel where
  | view | service | factory
  deriving DecidableEq, Repr

/-- A challenge nonce: its 32 bytes and the model time of issue (R520). -/
structure Nonce where
  bytes : List Byte
  since : Nat
  deriving DecidableEq, Repr

/-- The service port, the identity and the fuse bank. -/
structure Svc where
  /-- The fuse array, 64 words (R528). -/
  fuses    : List Word
  /-- The fuse shadow, 64 words; meaningful while `boot.shadowOk`. -/
  shadow   : List Word
  fusePend : Bool
  /-- Consecutive failed AUTH requests, AON domain (R523). -/
  authFail : Nat
  /-- Model time at which the lockout ends (R523). -/
  lockEnd  : Option Nat
  attached : Bool
  suspended : Bool
  /-- The USB host has configured the device. -/
  configured : Bool
  usbAddr  : Nat
  dtr      : Bool
  level    : AccessLevel
  devAuth  : Bool
  nonce    : Option Nonce
  /-- Last line coding set, seven bytes (R505). -/
  coding   : List Byte
  /-- Last request handled (TYPE, SEQ, payload) and its response payloads (R514). -/
  lastReq  : Option (Byte × Byte × List Byte)
  lastRsp  : List (List Byte)
  /-- Frames last sent to the laptop, as on the line: delimiter and escaped bytes (R512, R513). -/
  tx       : List (List Byte)
  /-- Answer to the last control request; none: STALL. -/
  usbTx    : Option (List Byte)
  /-- Model time of the last frame with a valid CRC (R509). -/
  lastFrame : Nat
  /-- `CERTH` and `SEC_STAT.ID_BAD` (R518). -/
  certh    : BitVec 64
  idBad    : Bool
  deriving DecidableEq, Repr


/-! ### The machine -/

/-- A pending LIVE write: byte address and value (R11). -/
abbrev LiveWrite := Nat × Word

/-- The whole device. -/
structure State where
  /-- Commands waiting, first in, first out. -/
  pending : List Instr
  /-- Model time in microseconds: the base of every duration the device measures itself. -/
  ticks   : Nat
  /-- Model's own: position in the stream of free values (log entry 3). -/
  free    : Nat
  role    : RoleRec
  boot    : Boot
  clk     : Clk
  tb      : Tb
  supply  : Supply
  pwr     : Pwr
  pins    : Pins
  rst     : RstRec
  /-- Register file: byte address to word, ascending, no word equal to its field-table reset value. The keys 0x10000
  upward hold the service context of the stack proxy (R472). -/
  regs    : List (Nat × Word)
  /-- LIVE writes not yet in effect, ascending by address (R11). -/
  live    : List LiveWrite
  /-- Model's own: the values of the LIVE registers an accepted ACTIVATE_LIVE will bring in (R179). -/
  liveImg : Option ImageInfo
  img     : Img
  fab     : Fab
  meas    : Meas
  cmp     : Cmp
  seq     : Seq
  react   : React
  mrg     : Mrg
  nvm     : Nvm
  ridge   : Ridge
  sched   : Sched
  pair    : Pair
  unit    : Unit_
  chain   : Chain
  hif     : Hif
  wdt     : Wdt
  svc     : Svc
  deriving DecidableEq, Repr

/-- Reasons the machine stops with a fault. The spec gives the device no step that stops it, and the memories of the
device have no hole a step can reach without a stated answer (R329, R550), so there is none. -/
inductive Fault where
  deriving DecidableEq, Repr

/-- Reasons a command has no meaning here. -/
inductive Refusal where
  /-- Raised by `exec` for a command that has no meaning yet. Safe: nothing is claimed of it. -/
  | notModelled (mnemonic : String)
  /-- Raised by FUSE_LOAD_DONE when TEST is high in lifecycle OPEN: the device enters the production test mode, which the
  spec leaves to Quohoben test (R46). Safe: the run ends where the device leaves what the spec describes. -/
  | productionTest
  deriving DecidableEq, Repr

/-! ### Reset values

Each block's value after an L0 reset; `State.reset` is the whole device at the release of the power-on reset, at stage 1 of
the start (R73, R96, Table 3-9). Values the spec does not give (the board's pin levels, MRAM and fuse contents) are
DESIGN CHOICE, log entry 2. -/

/-- Model time at the reset: not 0, so that an instant up to 2^32 µs back, as a partner's timebase gives it, is a model time. -/
def timeBase : Nat := 2 ^ 32

/-- `SYS_ROLE` after L0 (R22). -/
def RoleRec.init : RoleRec :=
  { role := .none, state := .starting, saved := .starting, reason := .none, pair := false, stkDflt := false, addr := 0,
    addrValid := false }

/-- A comparator after L0 (R254). -/
def Comp.init : Comp :=
  { out := false, q := false, chk := 0, nj := false, holdTo := none, live := false, stretch := false }

/-- A channel's comparators and warnings after L0. -/
def CmpCh.init : CmpCh :=
  { fl := Comp.init, fh := Comp.init, wl := false, wh := false, wlFlag := false, whFlag := false, wlCnt := 0, whCnt := 0,
    masked := false }

/-- The comparator block after L0 (R254). -/
def Cmp.init : Cmp :=
  { ch := List.replicate 24 CmpCh.init, armed := false, chk := none, chkRefused := false, chkAbort := false, pskip := false,
    thRej := false, limRej := false, passes := 0, perCnt := 0 }

/-- A filter after a restart (R213). -/
def Filter.init : Filter := { sum := 0, m := 0, firstW := true, y := none, clip := false }

/-- The measurement engine after L0 (R228). -/
def Meas.init : Meas :=
  { ch := List.replicate 24 { filt := Filter.init, blank := 0 }, scan := none, active := false, restart := true, notUntil := 0,
    lastAt := 0, lastTs := 0, anyEdge := false, wet := none }

/-- A rail after L0 (R298). -/
def Rail.init : Rail :=
  { state := .off, en := false, inst := 0, since := 0, tmo := 0, inWin := none, rampFail := false, dischFail := false,
    waitFault := false, onAt := 0, deferred := none, deferSt := .off }

/-- The sequencer after L0 (R298). -/
def Seq.init : Seq :=
  { state := .idle, holdFrom := .idle, cmdErr := 0, startReq := false, pendStart := none, pendStop := none, pendGrp := [],
    heldStart := none, heldStop := false, heldGrp := [], grpDown := 0, grpStop := 0, sysFall := false,
    downSeen := 0, downTd := none, restartT := none, rails := List.replicate 24 Rail.init, downAt := 0, minOff := 0, upAt := 0, src := .none, srcAt := 0, srcOff := none, srcTmo := 0,
    dwell := false, srcFirst := false, handovers := 0 }

/-- The reaction block after L0 (R315). -/
def React.init : React :=
  { rails := List.replicate 24 { used := 0, esc := false, last := 0 }, sysCnt := 0, lockout := false, sysEvt := false,
    restart := false, sysEnd := none, casc := [] }

/-- The margin block after L0 (R326). -/
def Mrg.init : Mrg :=
  { dacs := List.replicate 8
      { state := .nominal, cur := 0, goal := 0, target := false, timeout := false, wcntH := 0, wcntL := 0, cmdAt := 0,
        stepAt := 0 } }

/-- A cell of the fabric with everything 0 (R184). -/
def Cell.init : Cell := { q := false, ff := false, tcnt := 0, tout := false, l := false }

/-- The fabric after L0 (R197). -/
def Fab.init : Fab :=
  { run := false, guard := false, cells := List.replicate 64 Cell.init, src := 0, sink := 0, pulses := [], edges := [],
    first := true, div := 0 }

/-- A window context after every reset (R357). -/
def Window.init : Window :=
  { logAddr := 0x10000, nvmAddr := 0, posted := none, postAt := 0, logEcc2 := false, range := false, nvmEcc2 := false,
    wref := false, ovr := false }

/-- An empty log index (R336). -/
def LogIndex.init : LogIndex := { valid := [], newest := none, next := 0 }

/-- MRAM with nothing listed, the log writer idle (R357). -/
def Nvm.init : Nvm :=
  { mram := [], bad := [], job := none, buf := [], recIdx := LogIndex.init, histIdx := LogIndex.init, rebuilt := false,
    dropCnt := 0, eccFix := false, abandon := false, histNew := false, recNew := false,
    lastHist := List.replicate 24 (none, 0), cnt := List.replicate 96 0, dirty := [], flushMs := 0, satEvt := false,
    cntEcc := false, clrEvt := false, clrLog := false, clrCnt := [], markAt := none, winHost := Window.init,
    winSvc := Window.init, winRidge := Window.init }

/-- An empty row of the master's node table (R382). -/
def Node.init : Node :=
  { uid := 0, puid := 0, bound := false, joining := false, admitted := false, absent := false, absentAt := 0, missed := 0,
    tlock := false, grpDown := 0, ract := 0, stateB := 0, evt := 0, seen := false, dly := 0, samples := [], resid := 0,
    dlyAt := none, dlyOk := false }

/-- Master side after L0 (R394). -/
def RMaster.init : RMaster :=
  { nodes := List.replicate 32 Node.init, queue := [], resol := [], burst := [], nextCseq := 0, frames := 0, lastTick := none,
    croaked := false, pxRead := none }

/-- Slave side after L0 (R394). -/
def RSlave.init : RSlave :=
  { timed := [], seen := [], range := none, prevRange := none, rxSeq := 0, missmap := 0, fromSeq := 0, evt := 0, ract := 0,
    data := 0, dvalid := false, good := 0, bad := 0, odd := [], accepted := 0, edge := none, dlyOk := false, lastTick := 0,
    joinFr := 0, backoff := 0, tries := 0, waitAns := none, pref := 0, slots := 0, slotSel := none, once := false }

/-- The Ridge controller after L0 (R394). -/
def Ridge.init : Ridge :=
  { lstate := .off, session := 0, tlock := false, mlost := false, node := 0, frame := 0, tx := [], zxts := 0, zxv := false,
    bepoch := 0, m := RMaster.init, s := RSlave.init }

/-- Supervision of one budgeted rail after a reset (R414). -/
def PhaseSup.init : PhaseSup :=
  { open_ := false, any := false, allPh := true, peak := 0, dark := 0, same := 0, lastVal := 0,
    since := 0, prevFrom := 0, prevTo := 0 }

/-- The scheduler after L0 (R421). -/
def Sched.init : Sched :=
  { loads := List.replicate 64 { credit := 0, wait := 0, urgent := false, granted := false, active := false }, zxLast := none,
    zxInts := [], zxOk := false, zxGood := 0, bepoch := 0, run := false, pInhibit := false, pNotUp := false, pHalt := false,
    pZx := false, pend := [], cur := none, sup := List.replicate 24 PhaseSup.init, copies := [], pollPos := 0, polls := [] }

/-- The mirror engine after L0 (R446). -/
def Pair.init : Pair :=
  { pstate := .none, term := 0, partner := none, lastHb := none, lastEdge := none, listenAt := 0, claimWait := none,
    gpio6 := false, guardAt := 0, copy := [], copyOk := false, deltas := [], unacked := [], stream := false, sent := 0, busyTo := 0, fseq := 0,
    expect := 0, ack := 0, ackAt := 0, restart := false, epoch := 0, commitAt := none, commits := [], matchCnt := 0, chunkTx := [], chunkTurn := false, chunks := 0,
    chunkGoal := 0, yield := none, yieldSeq := none, cerr := 0, held := [], andTrip := 0, tx := [], txAt := 0, hbAt := 0 }

/-- A stack unit after L0 (R477). -/
def Unit_.init : Unit_ :=
  { spur := false, lastCmd := none, lastReply := [], lastBc := none, sched := [], perAt := 0, pause := false, enumWait := none,
    enumSeq := 0, enumCnt := 0, lastD := 0, txD := [], txU := [], toneU := false }

/-- A chain-master port after L0 (R477). -/
def ChainPort.init : ChainPort :=
  { state := .off, units := 0, seq := 0, trans := none, wait := [], cmds := [], at_ := 0, tx := [], stale := [], tone := false }

/-- The host interface after L0 (R503). -/
def Hif.init : Hif :=
  { crcErr := 0, othErr := 0, errf := false, lastErr := 0, irqImg := false, irqBoot := false, queue := [], txn := 0, waitAt := 0,
    tx := [], nack := false }

/-- The watchdog after L0 (R499). -/
def Wdt.init : Wdt := { run := false, since := 0, first := false, par := false, wcause := 0 }

/-- The default line coding: 115,200 baud, 8 data bits, 1 stop bit, no parity (R505). -/
def Svc.codingDflt : List Byte := [b8 0x00, b8 0xC2, b8 0x01, b8 0, b8 0, b8 0, b8 8]

/-- The service port with an empty fuse array (log entry 2). -/
def Svc.init : Svc :=
  { fuses := List.replicate 64 0, shadow := List.replicate 64 0, fusePend := false, authFail := 0, lockEnd := none,
    attached := false, suspended := false, configured := false, usbAddr := 0, dtr := false, level := .view, devAuth := false,
    nonce := none, coding := Svc.codingDflt, lastReq := none, lastRsp := [], tx := [], usbTx := some [], lastFrame := 0,
    certh := 0, idBad := false }

/-- Image registers after L0, before stage 5 (Table 5-6). -/
def Img.init : Img :=
  { err := 0, vrej := 0xF, op := .none, liveOk := false, verified := false, vslot := false, fallback := false, runSlot := false,
    rejA := 0xF, rejB := 0xF, verA := 0, verB := 0, runVer := 0, bgchk := 0, running := none, noImage := .none, reload := 0 }

/-- Start-up state at stage 1 of a power-on start (R96). -/
def Boot.init : Boot :=
  { stage := 1, stageAt := timeBase, retryCnt := 0, failStage := 0, fuseTry := 0, wakeStart := false, wakeRun := false, bench := false, stk := false,
    backoffK := 0, retryEnd := none, epochDone := false, faultN := false, shadowOk := false, listenEnd := none }

/-- Clock state after L0 (Table 3-4). -/
def Clk.init : Clk :=
  { monEvt := false, sofTrim := false, sofCount := 0, aonRcOk := false, fallback := false, pllLock := false, xtalOk := false,
    pllFromRc := false, armed := false, gated := false }

/-- Timebase after L0 (Table 3-5, Table 3-6). -/
def Tb.init : Tb :=
  { now := 0, up := 0, upHi := 0, epoch := 0, resyncCnt := 0, epochLost := false, epochSat := false, resync := false,
    running := false, sleepUs := 0, slew := 0, frac := 1000 }

/-- Power state after L0 (Table 3-10). -/
def Pwr.init : Pwr :=
  { wakeCause := 0, waking := false, wakeCmpEn := false, wakePinEn := true, dozeRef := false, doze := false, sleep := false }

/-- The reset controller at the release of the power-on reset (R139, Table 4-11, Table 4-12). -/
def RstRec.init : RstRec :=
  { cause := 0, run := some { level := .l0, asserted := true, since := timeBase }, domains := 0, coreAt := none, hifUp := false,
    sramOk := true, lateCnt := 0, refused := 0, badKey := false, busy := [], genLogw := 0, genSvc := 0, genCh1 := 0,
    genCh0 := 0, genRidge := 0, sysRestart := none, sysArmed := false, adopt := none }

/-- The pins with a board that holds RESET_N and WAKE high, TEST low and every other input high through its pull-up. -/
def Pins.init : Pins :=
  { resetN := true, resetRise := none, wakeN := true, test := false, ifselPin := true, adrPin := 3, gpio := 0xFF, zx := true,
    strapTest := false, strapIf := false, strapAdr := 0, strapSamp := [], en := List.replicate 24 .low, held := List.replicate 24 .low,
    rstout := true, usbOutAt := none }

/-- The machine right after reset: VIN and VDDIO present, VBUS absent, at stage 1 (Table 3-9, first row). -/
def State.reset : State :=
  { pending := [], ticks := timeBase, free := 0, role := RoleRec.init, boot := Boot.init, clk := Clk.init, tb := Tb.init,
    supply :=
      { aon := true, vin := true, vbus := false, vddioOk := true, vddioLost := false, cpOk := false, cpRun := false,
        srcEvt := false, srcEdge := false },
    pwr := Pwr.init, pins := Pins.init, rst := RstRec.init, regs := [], live := [], liveImg := none, img := Img.init,
    fab := Fab.init, meas := Meas.init, cmp := Cmp.init, seq := Seq.init, react := React.init, mrg := Mrg.init,
    nvm := Nvm.init, ridge := Ridge.init, sched := Sched.init, pair := Pair.init, unit := Unit_.init,
    chain := { p0 := ChainPort.init, p1 := ChainPort.init }, hif := Hif.init, wdt := Wdt.init, svc := Svc.init }

end Sys2Proof.Machine
end

