-- ==== Sys2Proof/Machine/RegMap.lean ====
section
/-! DEFINITION. The register map: addresses by name and the access, mask, field-table reset value and reset behaviour of every
register (spec/18_register_map.md R547 to R550; masks and field-table values from each register's defining section). -/

namespace Sys2Proof.Machine

/-- Access codes (R8): read-only, read-write, LIVE, write-1-to-clear, write-only, read-to-clear, mixed. -/
inductive Acc where
  | ro | rw | live | w1c | wo | rc | mix
  deriving DecidableEq, Repr

/-- One row of the register map. -/
structure RegRow where
  base   : Nat
  stride : Nat
  count  : Nat
  acc    : Acc
  /-- Bits a write or an image record can set. -/
  mask   : Nat
  /-- Field-table reset value. -/
  dflt   : Nat
  /-- Set by an image record. -/
  img    : Bool
  /-- Returned to its reset value at L2, at L3. -/
  atL2   : Bool
  atL3   : Bool
  /-- Roles: bit 0 SGL, 1 MST, 2 SLV, 3 STK, 4 pair attribute only. -/
  roles  : Nat
  deriving DecidableEq, Repr

namespace Reg

/-- `SYS_ID`. -/
abbrev sysId : Nat := 0x0000
/-- `SYS_REV`. -/
abbrev sysRev : Nat := 0x0004
/-- `SYS_ROLE`. -/
abbrev sysRole : Nat := 0x0008
/-- `SYS_STRAP`. -/
abbrev sysStrap : Nat := 0x000C
/-- `SYS_ENMODE0`. -/
abbrev sysEnmode0 : Nat := 0x0010
/-- `SYS_ENMODE1`. -/
abbrev sysEnmode1 : Nat := 0x0014
/-- `SYS_ENPOL`. -/
abbrev sysEnpol : Nat := 0x0018
/-- `SYS_ENLVL`. -/
abbrev sysEnlvl : Nat := 0x001C
/-- `SYS_BOOT`. -/
abbrev sysBoot : Nat := 0x0020
/-- `SYS_PWR`. -/
abbrev sysPwr : Nat := 0x0024
/-- `SYS_SUPPLY`. -/
abbrev sysSupply : Nat := 0x0028
/-- `SYS_SRC_CFG`. -/
abbrev sysSrcCfg : Nat := 0x002C
/-- `SYS_LOGCFG`. -/
abbrev sysLogcfg : Nat := 0x0030
/-- `SYS_HIF_CFG`. -/
abbrev sysHifCfg : Nat := 0x0040
/-- `SYS_HIF_STAT`. -/
abbrev sysHifStat : Nat := 0x0044
/-- `SYS_IRQ_STAT`. -/
abbrev sysIrqStat : Nat := 0x0048
/-- `SYS_IRQ_EN`. -/
abbrev sysIrqEn : Nat := 0x004C
/-- `SYS_IRQ_CHMASK`. -/
abbrev sysIrqChmask : Nat := 0x0050
/-- `SYS_FABIRQ`. -/
abbrev sysFabirq : Nat := 0x0054
/-- `SYS_WDT_CFG`. -/
abbrev sysWdtCfg : Nat := 0x0060
/-- `SYS_WDT_FIRST`. -/
abbrev sysWdtFirst : Nat := 0x0064
/-- `SYS_WDT_KEY`. -/
abbrev sysWdtKey : Nat := 0x0068
/-- `SYS_WDT_KICK`. -/
abbrev sysWdtKick : Nat := 0x006C
/-- `SYS_WDT_STAT`. -/
abbrev sysWdtStat : Nat := 0x0070
/-- `SYS_GPIO_CFG`. -/
abbrev sysGpioCfg : Nat := 0x0080
/-- `SYS_GPIO_OUT`. -/
abbrev sysGpioOut : Nat := 0x0084
/-- `SYS_GPIO_IN`. -/
abbrev sysGpioIn : Nat := 0x0088
/-- `RST_CAUSE`. -/
abbrev rstCause : Nat := 0x0100
/-- `RST_MAP`. -/
abbrev rstMap : Nat := 0x0104
/-- `RST_CMD`. -/
abbrev rstCmd : Nat := 0x0108
/-- `RST_BLK`. -/
abbrev rstBlk : Nat := 0x010C
/-- `RST_BLKSTAT`. -/
abbrev rstBlkstat : Nat := 0x0110
/-- `RST_GEN`. -/
abbrev rstGen : Nat := 0x0114
/-- `CLK_STAT`. -/
abbrev clkStat : Nat := 0x0200
/-- `TB_NOW`. -/
abbrev tbNow : Nat := 0x0204
/-- `TB_UP_LO`. -/
abbrev tbUpLo : Nat := 0x0208
/-- `TB_UP_HI`. -/
abbrev tbUpHi : Nat := 0x020C
/-- `TB_EPOCH`. -/
abbrev tbEpoch : Nat := 0x0210
/-- `TB_STAT`. -/
abbrev tbStat : Nat := 0x0214
/-- `IMG_STAT`. -/
abbrev imgStat : Nat := 0x0400
/-- `IMG_CTRL`. -/
abbrev imgCtrl : Nat := 0x0404
/-- `IMG_SLOTSTAT`. -/
abbrev imgSlotstat : Nat := 0x0408
/-- `IMG_VER_A`. -/
abbrev imgVerA : Nat := 0x040C
/-- `IMG_VER_B`. -/
abbrev imgVerB : Nat := 0x0410
/-- `IMG_RUN_VER`. -/
abbrev imgRunVer : Nat := 0x0414
/-- `IMG_BGCHK`. -/
abbrev imgBgchk : Nat := 0x0418
/-- `CHn_CFG`. -/
abbrev chCfg (n : Nat) : Nat := 0x0800 + 64 * n
/-- `CHn_FILT`. -/
abbrev chFilt (n : Nat) : Nat := 0x0804 + 64 * n
/-- `CHn_WET_LIM`. -/
abbrev chWetLim (n : Nat) : Nat := 0x0808 + 64 * n
/-- `CHn_WET_R`. -/
abbrev chWetR (n : Nat) : Nat := 0x080C + 64 * n
/-- `CHn_WET_V`. -/
abbrev chWetV (n : Nat) : Nat := 0x0810 + 64 * n
/-- `CHn_NTC_B`. -/
abbrev chNtcB (n : Nat) : Nat := 0x0814 + 64 * n
/-- `CHn_NTC_R`. -/
abbrev chNtcR (n : Nat) : Nat := 0x0818 + 64 * n
/-- `CHn_TEMP`. -/
abbrev chTemp (n : Nat) : Nat := 0x081C + 64 * n
/-- `CHn_CMP_CFG`. -/
abbrev chCmpCfg (n : Nat) : Nat := 0x0820 + 64 * n
/-- `CHn_CMP_TH`. -/
abbrev chCmpTh (n : Nat) : Nat := 0x0824 + 64 * n
/-- `CHn_WARN_LO`. -/
abbrev chWarnLo (n : Nat) : Nat := 0x0828 + 64 * n
/-- `CHn_WARN_HI`. -/
abbrev chWarnHi (n : Nat) : Nat := 0x082C + 64 * n
/-- `CHn_RAIL_CFG`. -/
abbrev chRailCfg (n : Nat) : Nat := 0x0830 + 64 * n
/-- `CHn_ON_DELAY`. -/
abbrev chOnDelay (n : Nat) : Nat := 0x0834 + 64 * n
/-- `CHn_OFF_DELAY`. -/
abbrev chOffDelay (n : Nat) : Nat := 0x0838 + 64 * n
/-- `CHn_RAMP`. -/
abbrev chRamp (n : Nat) : Nat := 0x083C + 64 * n
/-- `CH_SCAN_CFG`. -/
abbrev chScanCfg : Nat := 0x0E00
/-- `CH_SCAN_PHASE`. -/
abbrev chScanPhase : Nat := 0x0E04
/-- `CH_WET_CFG`. -/
abbrev chWetCfg : Nat := 0x0E08
/-- `CH_WET_VMAX`. -/
abbrev chWetVmax : Nat := 0x0E0C
/-- `CH_WET_CTRL`. -/
abbrev chWetCtrl : Nat := 0x0E10
/-- `CH_WET_STAT`. -/
abbrev chWetStat : Nat := 0x0E14
/-- `RES_CHn`. -/
abbrev resCh (n : Nat) : Nat := 0x1000 + 4 * n
/-- `RES_SCAN_CTRL`. -/
abbrev resScanCtrl : Nat := 0x1060
/-- `RES_SNAP_CTRL`. -/
abbrev resSnapCtrl : Nat := 0x1064
/-- `RES_SCAN_STAT`. -/
abbrev resScanStat : Nat := 0x1068
/-- `RES_SCAN_TIME`. -/
abbrev resScanTime : Nat := 0x106C
/-- `RES_SNAP_STAT`. -/
abbrev resSnapStat : Nat := 0x1070
/-- `RES_SNAP_TIME`. -/
abbrev resSnapTime : Nat := 0x1074
/-- `RES_SNAPn`. -/
abbrev resSnap (n : Nat) : Nat := 0x1080 + 4 * n
/-- `CMP_CHn_STAT`. -/
abbrev cmpChStat (n : Nat) : Nat := 0x1100 + 4 * n
/-- `CMP_FL_OUT`. -/
abbrev cmpFlOut : Nat := 0x1160
/-- `CMP_FH_OUT`. -/
abbrev cmpFhOut : Nat := 0x1164
/-- `CMP_FL_LAT`. -/
abbrev cmpFlLat : Nat := 0x1168
/-- `CMP_FH_LAT`. -/
abbrev cmpFhLat : Nat := 0x116C
/-- `CMP_CHK_FAIL`. -/
abbrev cmpChkFail : Nat := 0x1170
/-- `CMP_CHK_CFG`. -/
abbrev cmpChkCfg : Nat := 0x1174
/-- `CMP_CHK_CTRL`. -/
abbrev cmpChkCtrl : Nat := 0x1178
/-- `CMP_STAT`. -/
abbrev cmpStat : Nat := 0x117C
/-- `SEQ_CTRL`. -/
abbrev seqCtrl : Nat := 0x1200
/-- `SEQ_LAUNCH`. -/
abbrev seqLaunch : Nat := 0x1204
/-- `SEQ_STAT`. -/
abbrev seqStat : Nat := 0x1208
/-- `SEQ_T0`. -/
abbrev seqT0 : Nat := 0x120C
/-- `SEQ_TSTOP`. -/
abbrev seqTstop : Nat := 0x1210
/-- `SEQ_MIN_OFF`. -/
abbrev seqMinOff : Nat := 0x1214
/-- `SEQ_CFG`. -/
abbrev seqCfg : Nat := 0x1218
/-- `SEQ_SRC_DWELL`. -/
abbrev seqSrcDwell : Nat := 0x121C
/-- `SEQ_SRC_STAT`. -/
abbrev seqSrcStat : Nat := 0x1220
/-- `SEQ_SRC_CTRL`. -/
abbrev seqSrcCtrl : Nat := 0x1224
/-- `SEQ_RAILn_STAT`. -/
abbrev seqRailStat (n : Nat) : Nat := 0x1240 + 4 * n
/-- `SEQ_RAILn_DISCH`. -/
abbrev seqRailDisch (n : Nat) : Nat := 0x12A0 + 4 * n
/-- `SEQ_RAIL_ON`. -/
abbrev seqRailOn : Nat := 0x1300
/-- `SEQ_EVT`. -/
abbrev seqEvt : Nat := 0x1304
/-- `REACT_RAILn_CFG`. -/
abbrev reactRailCfg (n : Nat) : Nat := 0x1400 + 4 * n
/-- `REACT_RAILn_GAP`. -/
abbrev reactRailGap (n : Nat) : Nat := 0x1460 + 4 * n
/-- `REACT_RAILn_STAT`. -/
abbrev reactRailStat (n : Nat) : Nat := 0x14C0 + 4 * n
/-- `REACT_SRC`. -/
abbrev reactSrc : Nat := 0x1520
/-- `REACT_CASC`. -/
abbrev reactCasc : Nat := 0x1524
/-- `REACT_SYS`. -/
abbrev reactSys : Nat := 0x1528
/-- `REACT_SYSSTAT`. -/
abbrev reactSysstat : Nat := 0x152C
/-- `REACT_FIRST`. -/
abbrev reactFirst : Nat := 0x1530
/-- `REACT_FIRST_T`. -/
abbrev reactFirstT : Nat := 0x1534
/-- `REACT_EVT`. -/
abbrev reactEvt : Nat := 0x1538
/-- `MRG_CFGm`. -/
abbrev mrgCfg (n : Nat) : Nat := 0x1600 + 4 * n
/-- `MRG_CODEm`. -/
abbrev mrgCode (n : Nat) : Nat := 0x1620 + 4 * n
/-- `MRG_CTRL`. -/
abbrev mrgCtrl : Nat := 0x1640
/-- `MRG_ERR`. -/
abbrev mrgErr : Nat := 0x1644
/-- `MRG_STATm`. -/
abbrev mrgStat (n : Nat) : Nat := 0x1660 + 4 * n
/-- `CNT_RAILn_WARN`. -/
abbrev cntRailWarn (n : Nat) : Nat := 0x1800 + 16 * n
/-- `CNT_RAILn_FAULT`. -/
abbrev cntRailFault (n : Nat) : Nat := 0x1804 + 16 * n
/-- `CNT_RAILn_RETRY`. -/
abbrev cntRailRetry (n : Nat) : Nat := 0x1808 + 16 * n
/-- `CNT_RAILn_ON`. -/
abbrev cntRailOn (n : Nat) : Nat := 0x180C + 16 * n
/-- `CNT_SATk`. -/
abbrev cntSat (n : Nat) : Nat := 0x1980 + 4 * n
/-- `CNT_STAT`. -/
abbrev cntStat : Nat := 0x198C
/-- `LOG_ADDR`. -/
abbrev logAddr : Nat := 0x1A00
/-- `LOG_DATA`. -/
abbrev logData : Nat := 0x1A04
/-- `LOG_STAT`. -/
abbrev logStat : Nat := 0x1A08
/-- `LOG_REC`. -/
abbrev logRec : Nat := 0x1A0C
/-- `LOG_HIST`. -/
abbrev logHist : Nat := 0x1A10
/-- `LOG_MARK`. -/
abbrev logMark : Nat := 0x1A14
/-- `LOG_CTRL`. -/
abbrev logCtrl : Nat := 0x1A18
/-- `NVM_ADDR`. -/
abbrev nvmAddr : Nat := 0x1A20
/-- `NVM_DATA`. -/
abbrev nvmData : Nat := 0x1A24
/-- `NVM_STAT`. -/
abbrev nvmStat : Nat := 0x1A28
/-- `SCHED_Le_CFG`. -/
abbrev schedLCfg (n : Nat) : Nat := 0x1C00 + 12 * n
/-- `SCHED_Le_W`. -/
abbrev schedLW (n : Nat) : Nat := 0x1C04 + 12 * n
/-- `SCHED_Le_DUTY`. -/
abbrev schedLDuty (n : Nat) : Nat := 0x1C08 + 12 * n
/-- `SCHED_CFG`. -/
abbrev schedCfg : Nat := 0x1F00
/-- `SCHED_ZXCFG`. -/
abbrev schedZxcfg : Nat := 0x1F04
/-- `SCHED_HEAT`. -/
abbrev schedHeat : Nat := 0x1F08
/-- `SCHED_DIE_LIM`. -/
abbrev schedDieLim : Nat := 0x1F0C
/-- `SCHED_HSj_CH`. -/
abbrev schedHsCh (n : Nat) : Nat := 0x1F10 + 8 * n
/-- `SCHED_HSj_LIM`. -/
abbrev schedHsLim (n : Nat) : Nat := 0x1F14 + 8 * n
/-- `SCHED_MAINS_ALLOW`. -/
abbrev schedMainsAllow : Nat := 0x1F30
/-- `SCHED_BATT_ALLOW`. -/
abbrev schedBattAllow : Nat := 0x1F34
/-- `SCHED_STAT`. -/
abbrev schedStat : Nat := 0x1F38
/-- `SCHED_CEIL`. -/
abbrev schedCeil : Nat := 0x1F3C
/-- `SCHED_E`. -/
abbrev schedE : Nat := 0x1F40
/-- `SCHED_F`. -/
abbrev schedF : Nat := 0x1F44
/-- `SCHED_ZXT`. -/
abbrev schedZxt : Nat := 0x1F48
/-- `SCHED_ZXP`. -/
abbrev schedZxp : Nat := 0x1F4C
/-- `SCHED_DIE_T`. -/
abbrev schedDieT : Nat := 0x1F50
/-- `SCHED_EVT`. -/
abbrev schedEvt : Nat := 0x1F54
/-- `SCHED_LSEL`. -/
abbrev schedLsel : Nat := 0x1F58
/-- `SCHED_LSTAT`. -/
abbrev schedLstat : Nat := 0x1F5C
/-- `SCHED_GCNT`. -/
abbrev schedGcnt : Nat := 0x1F60
/-- `SCHED_CTRL`. -/
abbrev schedCtrl : Nat := 0x1F68
/-- `SCHED_RAILn_PH`. -/
abbrev schedRailPh (n : Nat) : Nat := 0x1F80 + 4 * n
/-- `SCHED_PO`. -/
abbrev schedPo : Nat := 0x1FE0
/-- `SCHED_US`. -/
abbrev schedUs : Nat := 0x1FE4
/-- `SCHED_BLK`. -/
abbrev schedBlk : Nat := 0x1FE8
/-- `SCHED_GRANT`. -/
abbrev schedGrant : Nat := 0x1FEC
/-- `SCHED_GEND`. -/
abbrev schedGend : Nat := 0x1FF0
/-- `FAB_CELLn_IN`. -/
abbrev fabCellIn (n : Nat) : Nat := 0x2000 + 16 * n
/-- `FAB_CELLn_CFG`. -/
abbrev fabCellCfg (n : Nat) : Nat := 0x2004 + 16 * n
/-- `FAB_CELLn_TMR`. -/
abbrev fabCellTmr (n : Nat) : Nat := 0x2008 + 16 * n
/-- `FAB_SINKs`. -/
abbrev fabSink (n : Nat) : Nat := 0x2400 + 4 * n
/-- `FAB_GCFG`. -/
abbrev fabGcfg : Nat := 0x2540
/-- `FAB_CELLn_STAT`. -/
abbrev fabCellStat (n : Nat) : Nat := 0x2600 + 4 * n
/-- `FAB_SRCVALk`. -/
abbrev fabSrcval (n : Nat) : Nat := 0x2700 + 4 * n
/-- `FAB_SINKVALk`. -/
abbrev fabSinkval (n : Nat) : Nat := 0x2720 + 4 * n
/-- `FAB_STAT`. -/
abbrev fabStat : Nat := 0x2730
/-- `RIDGE_CFG`. -/
abbrev ridgeCfg : Nat := 0x2800
/-- `RIDGE_STAT`. -/
abbrev ridgeStat : Nat := 0x2804
/-- `RIDGE_EVT`. -/
abbrev ridgeEvt : Nat := 0x2808
/-- `RIDGE_FRAME`. -/
abbrev ridgeFrame : Nat := 0x280C
/-- `RIDGE_TERR`. -/
abbrev ridgeTerr : Nat := 0x2810
/-- `RIDGE_DLY`. -/
abbrev ridgeDly : Nat := 0x2814
/-- `RIDGE_ERRCNT`. -/
abbrev ridgeErrcnt : Nat := 0x2818
/-- `RIDGE_REISSUE`. -/
abbrev ridgeReissue : Nat := 0x281C
/-- `RIDGE_HCMD_T`. -/
abbrev ridgeHcmdT : Nat := 0x2820
/-- `RIDGE_HCMD_ARG`. -/
abbrev ridgeHcmdArg : Nat := 0x2824
/-- `RIDGE_HCMD`. -/
abbrev ridgeHcmd : Nat := 0x2828
/-- `RIDGE_HCMD_STAT`. -/
abbrev ridgeHcmdStat : Nat := 0x282C
/-- `RIDGE_PX_ADDR`. -/
abbrev ridgePxAddr : Nat := 0x2830
/-- `RIDGE_PX_DATA`. -/
abbrev ridgePxData : Nat := 0x2834
/-- `RIDGE_PX_CTRL`. -/
abbrev ridgePxCtrl : Nat := 0x2838
/-- `RIDGE_PX_STAT`. -/
abbrev ridgePxStat : Nat := 0x283C
/-- `RIDGE_NT_SEL`. -/
abbrev ridgeNtSel : Nat := 0x2840
/-- `RIDGE_NT_UID_LO`. -/
abbrev ridgeNtUidLo : Nat := 0x2844
/-- `RIDGE_NT_UID_HI`. -/
abbrev ridgeNtUidHi : Nat := 0x2848
/-- `RIDGE_NT_PUID_LO`. -/
abbrev ridgeNtPuidLo : Nat := 0x284C
/-- `RIDGE_NT_PUID_HI`. -/
abbrev ridgeNtPuidHi : Nat := 0x2850
/-- `RIDGE_NT_CTRL`. -/
abbrev ridgeNtCtrl : Nat := 0x2854
/-- `RIDGE_ADMITTED`. -/
abbrev ridgeAdmitted : Nat := 0x2858
/-- `RIDGE_ABSENT`. -/
abbrev ridgeAbsent : Nat := 0x285C
/-- `RIDGE_ALLOWi_LO`. -/
abbrev ridgeAllowLo (n : Nat) : Nat := 0x2880 + 8 * n
/-- `RIDGE_ALLOWi_HI`. -/
abbrev ridgeAllowHi (n : Nat) : Nat := 0x2884 + 8 * n
/-- `RIDGE_NODEn_STAT`. -/
abbrev ridgeNodeStat (n : Nat) : Nat := 0x2904 + 4 * n
/-- `RIDGE_NODEn_DLY`. -/
abbrev ridgeNodeDly (n : Nat) : Nat := 0x2984 + 4 * n
/-- `PAIR_CFG`. -/
abbrev pairCfg : Nat := 0x2A00
/-- `PAIR_ARB0`. -/
abbrev pairArb0 : Nat := 0x2A04
/-- `PAIR_ARB1`. -/
abbrev pairArb1 : Nat := 0x2A08
/-- `PAIR_STAT`. -/
abbrev pairStat : Nat := 0x2A0C
/-- `PAIR_EVT`. -/
abbrev pairEvt : Nat := 0x2A10
/-- `PAIR_CNT`. -/
abbrev pairCnt : Nat := 0x2A14
/-- `PAIR_EPOCH`. -/
abbrev pairEpoch : Nat := 0x2A18
/-- `PAIR_DIGEST`. -/
abbrev pairDigest : Nat := 0x2A1C
/-- `PAIR_PDIGEST`. -/
abbrev pairPdigest : Nat := 0x2A20
/-- `PAIR_REGROW`. -/
abbrev pairRegrow : Nat := 0x2A24
/-- `PAIR_PUID_LO`. -/
abbrev pairPuidLo : Nat := 0x2A28
/-- `PAIR_PUID_HI`. -/
abbrev pairPuidHi : Nat := 0x2A2C
/-- `PAIR_CTRL`. -/
abbrev pairCtrl : Nat := 0x2A30
/-- `PAIR_YIELD_T`. -/
abbrev pairYieldT : Nat := 0x2A34
/-- `STACK_UCFG`. -/
abbrev stackUcfg : Nat := 0x2C00
/-- `STACK_BAL_PER`. -/
abbrev stackBalPer : Nat := 0x2C04
/-- `STACK_BAL_EN`. -/
abbrev stackBalEn : Nat := 0x2C08
/-- `STACK_BAL_DUTYk`. -/
abbrev stackBalDuty (n : Nat) : Nat := 0x2C10 + 4 * n
/-- `STACK_BAL_STAT`. -/
abbrev stackBalStat : Nat := 0x2C30
/-- `STACK_USTAT`. -/
abbrev stackUstat : Nat := 0x2C34
/-- `STACK_UEVT`. -/
abbrev stackUevt : Nat := 0x2C38
/-- `STACK_UCNT`. -/
abbrev stackUcnt : Nat := 0x2C3C
/-- `STACK_Pp_CFG`. -/
abbrev stackPCfg (n : Nat) : Nat := 0x2E00 + 4 * n
/-- `STACK_Pp_STAT`. -/
abbrev stackPStat (n : Nat) : Nat := 0x2E08 + 4 * n
/-- `STACK_PORT_CTRL`. -/
abbrev stackPortCtrl : Nat := 0x2E10
/-- `STACK_EVT`. -/
abbrev stackEvt : Nat := 0x2E14
/-- `STACK_ERRCNT`. -/
abbrev stackErrcnt : Nat := 0x2E18
/-- `STACK_PX_CTRL`. -/
abbrev stackPxCtrl : Nat := 0x2E20
/-- `STACK_PX_ADDR`. -/
abbrev stackPxAddr : Nat := 0x2E24
/-- `STACK_PX_STAT`. -/
abbrev stackPxStat : Nat := 0x2E28
/-- `STACK_PX_DATAi`. -/
abbrev stackPxData (n : Nat) : Nat := 0x2E40 + 4 * n
/-- `SEC_STAT`. -/
abbrev secStat : Nat := 0x3000
/-- `SEC_UID_LO`. -/
abbrev secUidLo : Nat := 0x3004
/-- `SEC_UID_HI`. -/
abbrev secUidHi : Nat := 0x3008
/-- `SEC_CERTH_LO`. -/
abbrev secCerthLo : Nat := 0x300C
/-- `SEC_CERTH_HI`. -/
abbrev secCerthHi : Nat := 0x3010
/-- `SVC_POLICY`. -/
abbrev svcPolicy : Nat := 0x3014
/-- `SVC_CNT`. -/
abbrev svcCnt : Nat := 0x3018
/-- `SVC_EVT`. -/
abbrev svcEvt : Nat := 0x301C
/-- `FUSE_LIFE..FUSE_QTRIM45`. -/
abbrev fuseWord (n : Nat) : Nat := 0x3800 + 4 * n

end Reg

/-- Rows 1 to 30 of the register map. -/
def regRows0 : List RegRow := [
  ⟨0x0000, 0, 1, .ro, 0xFFFFFFFF, 0x5A532432, false, false, false, 15⟩,  -- SYS_ID
  ⟨0x0004, 0, 1, .ro, 0xFFFFFFFF, 0x000000B1, false, false, false, 15⟩,  -- SYS_REV
  ⟨0x0008, 0, 1, .ro, 0xFFFFFFFF, 0x00000000, false, false, false, 15⟩,  -- SYS_ROLE
  ⟨0x000C, 0, 1, .ro, 0xFFFFFFFF, 0x00000000, false, false, false, 15⟩,  -- SYS_STRAP
  ⟨0x0010, 0, 1, .ro, 0xFFFFFFFF, 0x00000000, true, true, false, 15⟩,  -- SYS_ENMODE0
  ⟨0x0014, 0, 1, .ro, 0x0000FFFF, 0x00000000, true, true, false, 15⟩,  -- SYS_ENMODE1
  ⟨0x0018, 0, 1, .ro, 0x00FFFFFF, 0x00000000, true, true, false, 15⟩,  -- SYS_ENPOL
  ⟨0x001C, 0, 1, .ro, 0xFFFFFFFF, 0x00000000, false, false, false, 15⟩,  -- SYS_ENLVL
  ⟨0x0020, 0, 1, .ro, 0xFFFFFFFF, 0x00000000, false, false, false, 15⟩,  -- SYS_BOOT
  ⟨0x0024, 0, 1, .mix, 0xFFFFFFFF, 0x00000004, false, true, false, 15⟩,  -- SYS_PWR
  ⟨0x0028, 0, 1, .mix, 0xFFFFFFFF, 0x00000000, false, false, false, 15⟩,  -- SYS_SUPPLY
  ⟨0x002C, 0, 1, .ro, 0x0000001F, 0x0000001F, true, true, false, 15⟩,  -- SYS_SRC_CFG
  ⟨0x0030, 0, 1, .ro, 0x00000001, 0x00000000, true, true, false, 7⟩,  -- SYS_LOGCFG
  ⟨0x0040, 0, 1, .ro, 0x7FFF0001, 0x00000000, true, true, false, 7⟩,  -- SYS_HIF_CFG
  ⟨0x0044, 0, 1, .mix, 0xFFFFFFFF, 0x00000000, false, true, true, 7⟩,  -- SYS_HIF_STAT
  ⟨0x0048, 0, 1, .mix, 0xFFFFFFFF, 0x00004000, false, false, false, 7⟩,  -- SYS_IRQ_STAT
  ⟨0x004C, 0, 1, .rw, 0x00007FFF, 0x00000000, false, true, false, 7⟩,  -- SYS_IRQ_EN
  ⟨0x0050, 0, 1, .rw, 0x00FFFFFF, 0x00FFFFFF, false, true, false, 7⟩,  -- SYS_IRQ_CHMASK
  ⟨0x0054, 0, 1, .w1c, 0x000000FF, 0x00000000, false, true, false, 7⟩,  -- SYS_FABIRQ
  ⟨0x0060, 0, 1, .ro, 0xFFFFFFFF, 0x00000000, true, true, false, 3⟩,  -- SYS_WDT_CFG
  ⟨0x0064, 0, 1, .ro, 0x0000FFFF, 0x00000000, true, true, false, 3⟩,  -- SYS_WDT_FIRST
  ⟨0x0068, 0, 1, .ro, 0x0000FFFF, 0x00000000, true, true, false, 3⟩,  -- SYS_WDT_KEY
  ⟨0x006C, 0, 1, .wo, 0xFFFFFFFF, 0x00000000, false, false, false, 3⟩,  -- SYS_WDT_KICK
  ⟨0x0070, 0, 1, .ro, 0xFFFFFFFF, 0x00000000, false, false, false, 3⟩,  -- SYS_WDT_STAT
  ⟨0x0080, 0, 1, .ro, 0xFFFFFFFF, 0x00000000, true, true, false, 15⟩,  -- SYS_GPIO_CFG
  ⟨0x0084, 0, 1, .rw, 0x000000FF, 0x00000000, false, true, false, 15⟩,  -- SYS_GPIO_OUT
  ⟨0x0088, 0, 1, .ro, 0xFFFFFFFF, 0x00000000, false, false, false, 15⟩,  -- SYS_GPIO_IN
  ⟨0x0100, 0, 1, .ro, 0xFFFFFFFF, 0x00000000, false, false, false, 15⟩,  -- RST_CAUSE
  ⟨0x0104, 0, 1, .ro, 0xFFFFFFFF, 0x00000000, false, false, false, 15⟩,  -- RST_MAP
  ⟨0x0108, 0, 1, .wo, 0xFFFFFFFF, 0x00000000, false, false, false, 3⟩  -- RST_CMD
  ]

/-- Rows 31 to 60 of the register map. -/
def regRows1 : List RegRow := [
  ⟨0x010C, 0, 1, .wo, 0xFFFFFFFF, 0x00000000, false, false, false, 3⟩,  -- RST_BLK
  ⟨0x0110, 0, 1, .mix, 0xFFFFFFFF, 0x00000000, false, true, false, 3⟩,  -- RST_BLKSTAT
  ⟨0x0114, 0, 1, .ro, 0xFFFFFFFF, 0x00000000, false, false, false, 3⟩,  -- RST_GEN
  ⟨0x0200, 0, 1, .mix, 0xFFFFFFFF, 0x00000000, false, false, false, 15⟩,  -- CLK_STAT
  ⟨0x0204, 0, 1, .ro, 0xFFFFFFFF, 0x00000000, false, false, false, 15⟩,  -- TB_NOW
  ⟨0x0208, 0, 1, .ro, 0xFFFFFFFF, 0x00000000, false, false, false, 15⟩,  -- TB_UP_LO
  ⟨0x020C, 0, 1, .ro, 0xFFFFFFFF, 0x00000000, false, false, false, 15⟩,  -- TB_UP_HI
  ⟨0x0210, 0, 1, .ro, 0xFFFFFFFF, 0x00000000, false, false, false, 15⟩,  -- TB_EPOCH
  ⟨0x0214, 0, 1, .mix, 0xFFFFFFFF, 0x00000000, false, false, false, 15⟩,  -- TB_STAT
  ⟨0x0400, 0, 1, .ro, 0xFFFFFFFF, 0x00000000, false, false, false, 15⟩,  -- IMG_STAT
  ⟨0x0404, 0, 1, .wo, 0xFFFFFFFF, 0x00000000, false, false, false, 3⟩,  -- IMG_CTRL
  ⟨0x0408, 0, 1, .ro, 0xFFFFFFFF, 0x00000000, false, false, false, 15⟩,  -- IMG_SLOTSTAT
  ⟨0x040C, 0, 1, .ro, 0xFFFFFFFF, 0x00000000, false, false, false, 15⟩,  -- IMG_VER_A
  ⟨0x0410, 0, 1, .ro, 0xFFFFFFFF, 0x00000000, false, false, false, 15⟩,  -- IMG_VER_B
  ⟨0x0414, 0, 1, .ro, 0xFFFFFFFF, 0x00000000, false, false, false, 15⟩,  -- IMG_RUN_VER
  ⟨0x0418, 0, 1, .ro, 0xFFFFFFFF, 0x00000000, false, true, true, 15⟩,  -- IMG_BGCHK
  ⟨0x0800, 64, 24, .ro, 0x00073307, 0x00000000, true, true, false, 15⟩,  -- CHn_CFG
  ⟨0x0804, 64, 24, .live, 0x000F0FFF, 0x00000000, true, true, false, 15⟩,  -- CHn_FILT
  ⟨0x0808, 64, 24, .ro, 0xFFFFFFFF, 0x00000000, true, true, false, 15⟩,  -- CHn_WET_LIM
  ⟨0x080C, 64, 24, .ro, 0xFFFFFFFF, 0x00000000, false, true, false, 15⟩,  -- CHn_WET_R
  ⟨0x0810, 64, 24, .ro, 0xFFFFFFFF, 0x00000000, false, true, false, 15⟩,  -- CHn_WET_V
  ⟨0x0814, 64, 24, .ro, 0x0000FFFF, 0x00000000, true, true, false, 15⟩,  -- CHn_NTC_B
  ⟨0x0818, 64, 24, .ro, 0xFFFFFFFF, 0x00000000, true, true, false, 15⟩,  -- CHn_NTC_R
  ⟨0x081C, 64, 24, .ro, 0xFFFFFFFF, 0x00000000, false, true, false, 15⟩,  -- CHn_TEMP
  ⟨0x0820, 64, 24, .ro, 0x3FFFFB3F, 0x00000000, true, true, false, 15⟩,  -- CHn_CMP_CFG
  ⟨0x0824, 64, 24, .live, 0x0FFF0FFF, 0x00000000, true, true, false, 15⟩,  -- CHn_CMP_TH
  ⟨0x0828, 64, 24, .live, 0xFFFFFF9F, 0x00000000, true, true, false, 15⟩,  -- CHn_WARN_LO
  ⟨0x082C, 64, 24, .live, 0xFFFFFFFF, 0x00000000, true, true, false, 15⟩,  -- CHn_WARN_HI
  ⟨0x0830, 64, 24, .ro, 0x071F0700, 0x00000000, true, true, false, 7⟩,  -- CHn_RAIL_CFG
  ⟨0x0834, 64, 24, .live, 0xFFFFFFFF, 0x00000000, true, true, false, 7⟩  -- CHn_ON_DELAY
  ]

/-- Rows 61 to 90 of the register map. -/
def regRows2 : List RegRow := [
  ⟨0x0838, 64, 24, .live, 0xFFFFFFFF, 0x00000000, true, true, false, 7⟩,  -- CHn_OFF_DELAY
  ⟨0x083C, 64, 24, .live, 0xFFFFFFFF, 0x00000000, true, true, false, 7⟩,  -- CHn_RAMP
  ⟨0x0E00, 0, 1, .ro, 0x0001FFFF, 0x00000000, true, true, false, 15⟩,  -- CH_SCAN_CFG
  ⟨0x0E04, 0, 1, .ro, 0x0001FFFF, 0x00000000, true, true, false, 15⟩,  -- CH_SCAN_PHASE
  ⟨0x0E08, 0, 1, .ro, 0xFF3F0300, 0x00000000, true, true, false, 15⟩,  -- CH_WET_CFG
  ⟨0x0E0C, 0, 1, .ro, 0x00FFFFFF, 0x00000000, true, true, false, 15⟩,  -- CH_WET_VMAX
  ⟨0x0E10, 0, 1, .wo, 0xFFFFFFFF, 0x00000000, false, false, false, 15⟩,  -- CH_WET_CTRL
  ⟨0x0E14, 0, 1, .mix, 0xFFFFFFFF, 0x00000000, false, true, false, 15⟩,  -- CH_WET_STAT
  ⟨0x1000, 4, 24, .mix, 0xFFFFFFFF, 0x00000000, false, true, false, 15⟩,  -- RES_CHn
  ⟨0x1060, 0, 1, .rw, 0x00000001, 0x00000001, false, true, false, 15⟩,  -- RES_SCAN_CTRL
  ⟨0x1064, 0, 1, .wo, 0xFFFFFFFF, 0x00000000, false, false, false, 15⟩,  -- RES_SNAP_CTRL
  ⟨0x1068, 0, 1, .ro, 0xFFFFFFFF, 0x00000000, false, true, false, 15⟩,  -- RES_SCAN_STAT
  ⟨0x106C, 0, 1, .ro, 0xFFFFFFFF, 0x00000000, false, true, false, 15⟩,  -- RES_SCAN_TIME
  ⟨0x1070, 0, 1, .ro, 0xFFFFFFFF, 0x00000000, false, true, false, 15⟩,  -- RES_SNAP_STAT
  ⟨0x1074, 0, 1, .ro, 0xFFFFFFFF, 0x00000000, false, true, false, 15⟩,  -- RES_SNAP_TIME
  ⟨0x1080, 4, 24, .mix, 0xFFFFFFFF, 0x00000000, false, true, false, 15⟩,  -- RES_SNAPn
  ⟨0x1100, 4, 24, .mix, 0xFFFFFFFF, 0x00000000, false, true, false, 15⟩,  -- CMP_CHn_STAT
  ⟨0x1160, 0, 1, .ro, 0xFFFFFFFF, 0x00000000, false, false, false, 15⟩,  -- CMP_FL_OUT
  ⟨0x1164, 0, 1, .ro, 0xFFFFFFFF, 0x00000000, false, false, false, 15⟩,  -- CMP_FH_OUT
  ⟨0x1168, 0, 1, .w1c, 0x00FFFFFF, 0x00000000, false, true, false, 15⟩,  -- CMP_FL_LAT
  ⟨0x116C, 0, 1, .w1c, 0x00FFFFFF, 0x00000000, false, true, false, 15⟩,  -- CMP_FH_LAT
  ⟨0x1170, 0, 1, .w1c, 0x00FFFFFF, 0x00000000, false, true, false, 15⟩,  -- CMP_CHK_FAIL
  ⟨0x1174, 0, 1, .ro, 0x0000FFFF, 0x00000000, true, true, false, 15⟩,  -- CMP_CHK_CFG
  ⟨0x1178, 0, 1, .wo, 0xFFFFFFFF, 0x00000000, false, false, false, 15⟩,  -- CMP_CHK_CTRL
  ⟨0x117C, 0, 1, .mix, 0xFFFFFFFF, 0x00FC0000, false, true, false, 15⟩,  -- CMP_STAT
  ⟨0x1200, 0, 1, .wo, 0xFFFFFFFF, 0x00000000, false, false, false, 3⟩,  -- SEQ_CTRL
  ⟨0x1204, 0, 1, .rw, 0xFFFFFFFF, 0x00000000, false, true, false, 7⟩,  -- SEQ_LAUNCH
  ⟨0x1208, 0, 1, .ro, 0xFFFFFFFF, 0x00000000, false, true, false, 7⟩,  -- SEQ_STAT
  ⟨0x120C, 0, 1, .ro, 0xFFFFFFFF, 0x00000000, false, true, false, 7⟩,  -- SEQ_T0
  ⟨0x1210, 0, 1, .ro, 0xFFFFFFFF, 0x00000000, false, true, false, 7⟩  -- SEQ_TSTOP
  ]

/-- Rows 91 to 120 of the register map. -/
def regRows3 : List RegRow := [
  ⟨0x1214, 0, 1, .live, 0xFFFFFFFF, 0x0007A120, true, true, false, 7⟩,  -- SEQ_MIN_OFF
  ⟨0x1218, 0, 1, .ro, 0x0001FFFF, 0x000007D0, true, true, false, 7⟩,  -- SEQ_CFG
  ⟨0x121C, 0, 1, .ro, 0xFFFFFFFF, 0x001E8480, true, true, false, 7⟩,  -- SEQ_SRC_DWELL
  ⟨0x1220, 0, 1, .ro, 0xFFFFFFFF, 0x00000000, false, true, false, 7⟩,  -- SEQ_SRC_STAT
  ⟨0x1224, 0, 1, .rw, 0x00000001, 0x00000000, false, true, false, 7⟩,  -- SEQ_SRC_CTRL
  ⟨0x1240, 4, 24, .mix, 0xFFFFFFFF, 0x00000000, false, true, false, 7⟩,  -- SEQ_RAILn_STAT
  ⟨0x12A0, 4, 24, .live, 0xFFFFFF00, 0x00000000, true, true, false, 7⟩,  -- SEQ_RAILn_DISCH
  ⟨0x1300, 0, 1, .ro, 0xFFFFFFFF, 0x00000000, false, false, false, 7⟩,  -- SEQ_RAIL_ON
  ⟨0x1304, 0, 1, .w1c, 0x0000007F, 0x00000000, false, true, false, 7⟩,  -- SEQ_EVT
  ⟨0x1400, 4, 24, .ro, 0x00FF0F13, 0x00000000, true, true, false, 7⟩,  -- REACT_RAILn_CFG
  ⟨0x1460, 4, 24, .live, 0x0000FFFF, 0x00000000, true, true, false, 7⟩,  -- REACT_RAILn_GAP
  ⟨0x14C0, 4, 24, .mix, 0xFFFFFFFF, 0x00000000, false, true, false, 7⟩,  -- REACT_RAILn_STAT
  ⟨0x1520, 0, 1, .ro, 0x0000FF07, 0x00000000, true, true, false, 7⟩,  -- REACT_SRC
  ⟨0x1524, 0, 1, .ro, 0x0000003F, 0x00000000, true, true, false, 2⟩,  -- REACT_CASC
  ⟨0x1528, 0, 1, .ro, 0xFF000F07, 0x00000000, true, true, false, 7⟩,  -- REACT_SYS
  ⟨0x152C, 0, 1, .mix, 0xFFFFFFFF, 0x00000000, false, false, false, 7⟩,  -- REACT_SYSSTAT
  ⟨0x1530, 0, 1, .ro, 0xFFFFFFFF, 0x00000000, false, true, false, 7⟩,  -- REACT_FIRST
  ⟨0x1534, 0, 1, .ro, 0xFFFFFFFF, 0x00000000, false, true, false, 7⟩,  -- REACT_FIRST_T
  ⟨0x1538, 0, 1, .w1c, 0x0000003F, 0x00000000, false, true, false, 7⟩,  -- REACT_EVT
  ⟨0x1600, 4, 8, .ro, 0xFF07011F, 0x00000000, true, true, false, 7⟩,  -- MRG_CFGm
  ⟨0x1620, 4, 8, .live, 0x03FF03FF, 0x00000000, true, true, false, 7⟩,  -- MRG_CODEm
  ⟨0x1640, 0, 1, .wo, 0xFFFFFFFF, 0x00000000, false, false, false, 3⟩,  -- MRG_CTRL
  ⟨0x1644, 0, 1, .ro, 0xFFFFFFFF, 0x00000000, false, true, false, 7⟩,  -- MRG_ERR
  ⟨0x1660, 4, 8, .mix, 0xFFFFFFFF, 0x00000000, false, true, false, 7⟩,  -- MRG_STATm
  ⟨0x1800, 16, 24, .ro, 0xFFFFFFFF, 0x00000000, false, false, false, 7⟩,  -- CNT_RAILn_WARN
  ⟨0x1804, 16, 24, .ro, 0xFFFFFFFF, 0x00000000, false, false, false, 7⟩,  -- CNT_RAILn_FAULT
  ⟨0x1808, 16, 24, .ro, 0xFFFFFFFF, 0x00000000, false, false, false, 7⟩,  -- CNT_RAILn_RETRY
  ⟨0x180C, 16, 24, .ro, 0xFFFFFFFF, 0x00000000, false, false, false, 7⟩,  -- CNT_RAILn_ON
  ⟨0x1980, 4, 3, .ro, 0xFFFFFFFF, 0x00000000, false, false, false, 7⟩,  -- CNT_SATk
  ⟨0x198C, 0, 1, .mix, 0xFFFFFFFF, 0x00000000, false, true, false, 7⟩  -- CNT_STAT
  ]

/-- Rows 121 to 150 of the register map. -/
def regRows4 : List RegRow := [
  ⟨0x1A00, 0, 1, .rw, 0xFFFFFFFF, 0x00010000, false, true, true, 7⟩,  -- LOG_ADDR
  ⟨0x1A04, 0, 1, .ro, 0xFFFFFFFF, 0x00000000, false, false, false, 7⟩,  -- LOG_DATA
  ⟨0x1A08, 0, 1, .mix, 0xFFFFFFFF, 0x00000000, false, true, false, 7⟩,  -- LOG_STAT
  ⟨0x1A0C, 0, 1, .ro, 0xFFFFFFFF, 0x00000000, false, false, false, 7⟩,  -- LOG_REC
  ⟨0x1A10, 0, 1, .ro, 0xFFFFFFFF, 0x00000000, false, false, false, 7⟩,  -- LOG_HIST
  ⟨0x1A14, 0, 1, .ro, 0xFFFFFFFF, 0x00000000, false, false, false, 7⟩,  -- LOG_MARK
  ⟨0x1A18, 0, 1, .wo, 0xFFFFFFFF, 0x00000000, false, false, false, 7⟩,  -- LOG_CTRL
  ⟨0x1A20, 0, 1, .rw, 0xFFFFFFFF, 0x00000000, false, true, true, 15⟩,  -- NVM_ADDR
  ⟨0x1A24, 0, 1, .rw, 0xFFFFFFFF, 0x00000000, false, false, false, 15⟩,  -- NVM_DATA
  ⟨0x1A28, 0, 1, .mix, 0xFFFFFFFF, 0x00000000, false, true, true, 15⟩,  -- NVM_STAT
  ⟨0x1C00, 12, 64, .ro, 0x9F1F33FF, 0x00000000, true, true, false, 3⟩,  -- SCHED_Le_CFG
  ⟨0x1C04, 12, 64, .live, 0x00FFFFFF, 0x00000000, true, true, false, 3⟩,  -- SCHED_Le_W
  ⟨0x1C08, 12, 64, .rw, 0x000003FF, 0x00000000, false, true, false, 3⟩,  -- SCHED_Le_DUTY
  ⟨0x1F00, 0, 1, .ro, 0x07FFFF0F, 0x00000000, true, true, false, 3⟩,  -- SCHED_CFG
  ⟨0x1F04, 0, 1, .ro, 0x000007FF, 0x00000000, true, true, false, 3⟩,  -- SCHED_ZXCFG
  ⟨0x1F08, 0, 1, .live, 0x000FFFFF, 0x00000000, true, true, false, 3⟩,  -- SCHED_HEAT
  ⟨0x1F0C, 0, 1, .live, 0xFFFFFFFF, 0x00000000, true, true, false, 3⟩,  -- SCHED_DIE_LIM
  ⟨0x1F10, 8, 4, .ro, 0x8000001F, 0x00000000, true, true, false, 3⟩,  -- SCHED_HSj_CH
  ⟨0x1F14, 8, 4, .live, 0xFFFFFFFF, 0x00000000, true, true, false, 3⟩,  -- SCHED_HSj_LIM
  ⟨0x1F30, 0, 1, .rw, 0x000FFFFF, 0x00000000, false, true, false, 3⟩,  -- SCHED_MAINS_ALLOW
  ⟨0x1F34, 0, 1, .rw, 0x000FFFFF, 0x00000000, false, true, false, 3⟩,  -- SCHED_BATT_ALLOW
  ⟨0x1F38, 0, 1, .ro, 0xFFFFFFFF, 0x00000000, false, true, false, 3⟩,  -- SCHED_STAT
  ⟨0x1F3C, 0, 1, .ro, 0xFFFFFFFF, 0x00000000, false, true, false, 3⟩,  -- SCHED_CEIL
  ⟨0x1F40, 0, 1, .ro, 0xFFFFFFFF, 0x00000000, false, true, false, 3⟩,  -- SCHED_E
  ⟨0x1F44, 0, 1, .ro, 0xFFFFFFFF, 0x00000000, false, true, false, 3⟩,  -- SCHED_F
  ⟨0x1F48, 0, 1, .ro, 0xFFFFFFFF, 0x00000000, false, true, false, 3⟩,  -- SCHED_ZXT
  ⟨0x1F4C, 0, 1, .ro, 0xFFFFFFFF, 0x00000000, false, true, false, 3⟩,  -- SCHED_ZXP
  ⟨0x1F50, 0, 1, .ro, 0xFFFFFFFF, 0x00000000, false, false, false, 3⟩,  -- SCHED_DIE_T
  ⟨0x1F54, 0, 1, .w1c, 0x000001FF, 0x00000000, false, true, false, 7⟩,  -- SCHED_EVT
  ⟨0x1F58, 0, 1, .rw, 0x0000003F, 0x00000000, false, true, false, 3⟩  -- SCHED_LSEL
  ]

/-- Rows 151 to 180 of the register map. -/
def regRows5 : List RegRow := [
  ⟨0x1F5C, 0, 1, .ro, 0xFFFFFFFF, 0x00000000, false, true, false, 3⟩,  -- SCHED_LSTAT
  ⟨0x1F60, 0, 1, .rc, 0xFFFFFFFF, 0x00000000, false, true, false, 2⟩,  -- SCHED_GCNT
  ⟨0x1F68, 0, 1, .rw, 0x00000001, 0x00000000, false, true, false, 3⟩,  -- SCHED_CTRL
  ⟨0x1F80, 4, 24, .ro, 0x9F1FFFFF, 0x00000000, true, true, false, 7⟩,  -- SCHED_RAILn_PH
  ⟨0x1FE0, 0, 1, .w1c, 0x00FFFFFF, 0x00000000, false, true, false, 7⟩,  -- SCHED_PO
  ⟨0x1FE4, 0, 1, .w1c, 0x00FFFFFF, 0x00000000, false, true, false, 7⟩,  -- SCHED_US
  ⟨0x1FE8, 0, 1, .ro, 0xFFFFFFFF, 0x00000000, false, false, false, 7⟩,  -- SCHED_BLK
  ⟨0x1FEC, 0, 1, .ro, 0xFFFFFFFF, 0x00000000, false, true, false, 7⟩,  -- SCHED_GRANT
  ⟨0x1FF0, 0, 1, .ro, 0xFFFFFFFF, 0x00000000, false, true, false, 7⟩,  -- SCHED_GEND
  ⟨0x2000, 16, 64, .ro, 0xFFFFFFFF, 0x00000000, true, true, false, 7⟩,  -- FAB_CELLn_IN
  ⟨0x2004, 16, 64, .ro, 0xFFFFFF80, 0x00000000, true, true, false, 7⟩,  -- FAB_CELLn_CFG
  ⟨0x2008, 16, 64, .ro, 0x0000FFFF, 0x00000000, true, true, false, 7⟩,  -- FAB_CELLn_TMR
  ⟨0x2400, 4, 80, .ro, 0x000001FF, 0x00000000, true, true, false, 7⟩,  -- FAB_SINKs
  ⟨0x2540, 0, 1, .ro, 0x0000FFFF, 0x000007D0, true, true, false, 7⟩,  -- FAB_GCFG
  ⟨0x2600, 4, 64, .ro, 0xFFFFFFFF, 0x00000000, false, false, false, 7⟩,  -- FAB_CELLn_STAT
  ⟨0x2700, 4, 8, .ro, 0xFFFFFFFF, 0x00000000, false, false, false, 7⟩,  -- FAB_SRCVALk
  ⟨0x2720, 4, 3, .ro, 0xFFFFFFFF, 0x00000000, false, false, false, 7⟩,  -- FAB_SINKVALk
  ⟨0x2730, 0, 1, .ro, 0xFFFFFFFF, 0x00000000, false, false, false, 7⟩,  -- FAB_STAT
  ⟨0x2800, 0, 1, .ro, 0x001FF31F, 0x00000000, true, true, false, 6⟩,  -- RIDGE_CFG
  ⟨0x2804, 0, 1, .ro, 0xFFFFFFFF, 0x00000000, false, false, false, 6⟩,  -- RIDGE_STAT
  ⟨0x2808, 0, 1, .w1c, 0x00003FFF, 0x00000000, false, true, false, 6⟩,  -- RIDGE_EVT
  ⟨0x280C, 0, 1, .ro, 0xFFFFFFFF, 0x00000000, false, false, false, 6⟩,  -- RIDGE_FRAME
  ⟨0x2810, 0, 1, .ro, 0xFFFFFFFF, 0x00000000, false, true, false, 4⟩,  -- RIDGE_TERR
  ⟨0x2814, 0, 1, .ro, 0xFFFFFFFF, 0x00000000, false, true, false, 4⟩,  -- RIDGE_DLY
  ⟨0x2818, 0, 1, .rc, 0xFFFFFFFF, 0x00000000, false, true, false, 6⟩,  -- RIDGE_ERRCNT
  ⟨0x281C, 0, 1, .ro, 0xFFFFFFFF, 0x00000000, false, true, false, 2⟩,  -- RIDGE_REISSUE
  ⟨0x2820, 0, 1, .rw, 0xFFFFFFFF, 0x00000000, false, true, false, 2⟩,  -- RIDGE_HCMD_T
  ⟨0x2824, 0, 1, .rw, 0xFFFFFFFF, 0x00000000, false, true, false, 2⟩,  -- RIDGE_HCMD_ARG
  ⟨0x2828, 0, 1, .wo, 0xFFFFFFFF, 0x00000000, false, false, false, 2⟩,  -- RIDGE_HCMD
  ⟨0x282C, 0, 1, .ro, 0xFFFFFFFF, 0x00000000, false, true, false, 2⟩  -- RIDGE_HCMD_STAT
  ]

/-- Rows 181 to 210 of the register map. -/
def regRows6 : List RegRow := [
  ⟨0x2830, 0, 1, .rw, 0x001FFFFF, 0x00000000, false, true, false, 2⟩,  -- RIDGE_PX_ADDR
  ⟨0x2834, 0, 1, .rw, 0xFFFFFFFF, 0x00000000, false, true, false, 2⟩,  -- RIDGE_PX_DATA
  ⟨0x2838, 0, 1, .wo, 0xFFFFFFFF, 0x00000000, false, false, false, 2⟩,  -- RIDGE_PX_CTRL
  ⟨0x283C, 0, 1, .ro, 0xFFFFFFFF, 0x00000000, false, true, false, 2⟩,  -- RIDGE_PX_STAT
  ⟨0x2840, 0, 1, .rw, 0x0000001F, 0x00000000, false, true, false, 2⟩,  -- RIDGE_NT_SEL
  ⟨0x2844, 4, 4, .ro, 0xFFFFFFFF, 0x00000000, false, false, false, 2⟩,  -- RIDGE_NT_UID_LO, _UID_HI, _PUID_LO, _PUID_HI
  ⟨0x2854, 0, 1, .wo, 0xFFFFFFFF, 0x00000000, false, false, false, 2⟩,  -- RIDGE_NT_CTRL
  ⟨0x2858, 0, 1, .ro, 0xFFFFFFFF, 0x00000001, false, true, false, 2⟩,  -- RIDGE_ADMITTED
  ⟨0x285C, 0, 1, .ro, 0xFFFFFFFF, 0x00000000, false, true, false, 2⟩,  -- RIDGE_ABSENT
  ⟨0x2880, 8, 16, .ro, 0xFFFFFFFF, 0x00000000, true, true, false, 2⟩,  -- RIDGE_ALLOWi_LO
  ⟨0x2884, 8, 16, .ro, 0xFFFFFFFF, 0x00000000, true, true, false, 2⟩,  -- RIDGE_ALLOWi_HI
  ⟨0x2904, 4, 31, .ro, 0xFFFFFFFF, 0x00000000, false, true, false, 2⟩,  -- RIDGE_NODEn_STAT
  ⟨0x2984, 4, 31, .ro, 0xFFFFFFFF, 0x00000000, false, true, false, 2⟩,  -- RIDGE_NODEn_DLY
  ⟨0x2A00, 0, 1, .ro, 0x00030100, 0x00000000, true, true, false, 16⟩,  -- PAIR_CFG
  ⟨0x2A04, 0, 1, .ro, 0xFFFFFFFF, 0x00000000, true, true, false, 16⟩,  -- PAIR_ARB0
  ⟨0x2A08, 0, 1, .ro, 0x0000FFFF, 0x00000000, true, true, false, 16⟩,  -- PAIR_ARB1
  ⟨0x2A0C, 0, 1, .ro, 0xFFFFFFFF, 0x00000000, false, false, false, 16⟩,  -- PAIR_STAT
  ⟨0x2A10, 0, 1, .w1c, 0x000003FF, 0x00000000, false, true, false, 16⟩,  -- PAIR_EVT
  ⟨0x2A14, 0, 1, .rc, 0xFFFFFFFF, 0x00000000, false, true, false, 16⟩,  -- PAIR_CNT
  ⟨0x2A18, 0, 1, .ro, 0xFFFFFFFF, 0x00000000, false, true, false, 16⟩,  -- PAIR_EPOCH
  ⟨0x2A1C, 0, 1, .ro, 0xFFFFFFFF, 0x00000000, false, true, false, 16⟩,  -- PAIR_DIGEST
  ⟨0x2A20, 0, 1, .ro, 0xFFFFFFFF, 0x00000000, false, true, false, 16⟩,  -- PAIR_PDIGEST
  ⟨0x2A24, 0, 1, .ro, 0xFFFFFFFF, 0x00000000, false, true, false, 16⟩,  -- PAIR_REGROW
  ⟨0x2A28, 0, 1, .ro, 0xFFFFFFFF, 0x00000000, false, true, false, 16⟩,  -- PAIR_PUID_LO
  ⟨0x2A2C, 0, 1, .ro, 0xFFFFFFFF, 0x00000000, false, true, false, 16⟩,  -- PAIR_PUID_HI
  ⟨0x2A30, 0, 1, .wo, 0xFFFFFFFF, 0x00000000, false, false, false, 16⟩,  -- PAIR_CTRL
  ⟨0x2A34, 0, 1, .rw, 0xFFFFFFFF, 0x00000000, false, true, false, 16⟩,  -- PAIR_YIELD_T
  ⟨0x2C00, 0, 1, .ro, 0xFFFFFF00, 0x00000000, true, true, false, 8⟩,  -- STACK_UCFG
  ⟨0x2C04, 0, 1, .ro, 0x0000FFFF, 0x00000000, true, true, false, 8⟩,  -- STACK_BAL_PER
  ⟨0x2C08, 0, 1, .rw, 0x0000FFFF, 0x00000000, false, true, true, 8⟩  -- STACK_BAL_EN
  ]

/-- Rows 211 to 233 of the register map. -/
def regRows7 : List RegRow := [
  ⟨0x2C10, 4, 8, .rw, 0x03FF03FF, 0x00000000, false, true, true, 8⟩,  -- STACK_BAL_DUTYk
  ⟨0x2C30, 0, 1, .ro, 0xFFFFFFFF, 0x00000000, false, false, false, 8⟩,  -- STACK_BAL_STAT
  ⟨0x2C34, 0, 1, .ro, 0xFFFFFFFF, 0x00000000, false, false, false, 8⟩,  -- STACK_USTAT
  ⟨0x2C38, 0, 1, .w1c, 0x00000007, 0x00000000, false, true, false, 8⟩,  -- STACK_UEVT
  ⟨0x2C3C, 0, 1, .rc, 0xFFFFFFFF, 0x00000000, false, true, false, 8⟩,  -- STACK_UCNT
  ⟨0x2E00, 4, 2, .ro, 0xFF033F03, 0x00000000, true, true, false, 3⟩,  -- STACK_Pp_CFG
  ⟨0x2E08, 4, 2, .ro, 0xFFFFFFFF, 0x00000000, false, false, false, 3⟩,  -- STACK_Pp_STAT
  ⟨0x2E10, 0, 1, .wo, 0xFFFFFFFF, 0x00000000, false, false, false, 3⟩,  -- STACK_PORT_CTRL
  ⟨0x2E14, 0, 1, .w1c, 0x000003FF, 0x00000000, false, true, false, 3⟩,  -- STACK_EVT
  ⟨0x2E18, 0, 1, .rc, 0xFFFFFFFF, 0x00000000, false, true, false, 3⟩,  -- STACK_ERRCNT
  ⟨0x2E20, 0, 1, .wo, 0xFFFFFFFF, 0x00000000, false, false, false, 3⟩,  -- STACK_PX_CTRL
  ⟨0x2E24, 0, 1, .rw, 0x0000FFFF, 0x00000000, false, true, false, 3⟩,  -- STACK_PX_ADDR
  ⟨0x2E28, 0, 1, .ro, 0xFFFFFFFF, 0x00000000, false, true, false, 3⟩,  -- STACK_PX_STAT
  ⟨0x2E40, 4, 16, .rw, 0xFFFFFFFF, 0x00000000, false, true, false, 3⟩,  -- STACK_PX_DATAi
  ⟨0x3000, 0, 1, .ro, 0xFFFFFFFF, 0x00000000, false, false, false, 15⟩,  -- SEC_STAT
  ⟨0x3004, 0, 1, .ro, 0xFFFFFFFF, 0x00000000, false, false, false, 15⟩,  -- SEC_UID_LO
  ⟨0x3008, 0, 1, .ro, 0xFFFFFFFF, 0x00000000, false, false, false, 15⟩,  -- SEC_UID_HI
  ⟨0x300C, 0, 1, .ro, 0xFFFFFFFF, 0x00000000, false, false, false, 15⟩,  -- SEC_CERTH_LO
  ⟨0x3010, 0, 1, .ro, 0xFFFFFFFF, 0x00000000, false, false, false, 15⟩,  -- SEC_CERTH_HI
  ⟨0x3014, 0, 1, .ro, 0xFFFF0003, 0x00000003, true, true, false, 15⟩,  -- SVC_POLICY
  ⟨0x3018, 0, 1, .rc, 0xFFFFFFFF, 0x00000000, false, true, false, 15⟩,  -- SVC_CNT
  ⟨0x301C, 0, 1, .w1c, 0x0000001F, 0x00000000, false, true, false, 15⟩,  -- SVC_EVT
  ⟨0x3800, 4, 64, .ro, 0xFFFFFFFF, 0x00000000, false, false, false, 15⟩  -- FUSE
  ]

/-- The register map. -/
def regRows : List RegRow :=
  regRows0 ++ regRows1 ++ regRows2 ++ regRows3 ++ regRows4 ++ regRows5 ++ regRows6 ++ regRows7

/-- The row of the map that names an address, if any (R550). -/
def regRow? (a : Nat) : Option RegRow :=
  regRows.find? fun r =>
    if r.stride = 0 then a = r.base
    else r.base ≤ a ∧ (a - r.base) % r.stride = 0 ∧ (a - r.base) / r.stride < r.count

end Sys2Proof.Machine
end

