-- ==== Sys2Proof/Machine/Ops.lean ====
section
/-! DEFINITION. The named operations over the state: blocks, the register file, time, free values and role tests
(spec/00_scope.md R3 to R12; spec/03_supplies_clocks_and_start_up.md R88). -/

namespace Sys2Proof.Machine

/-- What a command answers. -/
abbrev Out := Host.Outcome State Fault Refusal

/-- The command runs and leaves state s. -/
def ok (s : State) : Out := .next s

/-! ### Blocks -/

/-- The state with `role` changed by f. -/
def State.modRole (s : State) (f : RoleRec → RoleRec) : State := { s with role := f s.role }
/-- The state with `boot` changed by f. -/
def State.modBoot (s : State) (f : Boot → Boot) : State := { s with boot := f s.boot }
/-- The state with `clk` changed by f. -/
def State.modClk (s : State) (f : Clk → Clk) : State := { s with clk := f s.clk }
/-- The state with `tb` changed by f. -/
def State.modTb (s : State) (f : Tb → Tb) : State := { s with tb := f s.tb }
/-- The state with `supply` changed by f. -/
def State.modSupply (s : State) (f : Supply → Supply) : State := { s with supply := f s.supply }
/-- The state with `pwr` changed by f. -/
def State.modPwr (s : State) (f : Pwr → Pwr) : State := { s with pwr := f s.pwr }
/-- The state with `pins` changed by f. -/
def State.modPins (s : State) (f : Pins → Pins) : State := { s with pins := f s.pins }
/-- The state with `rst` changed by f. -/
def State.modRst (s : State) (f : RstRec → RstRec) : State := { s with rst := f s.rst }
/-- The state with `img` changed by f. -/
def State.modImg (s : State) (f : Img → Img) : State := { s with img := f s.img }
/-- The state with `fab` changed by f. -/
def State.modFab (s : State) (f : Fab → Fab) : State := { s with fab := f s.fab }
/-- The state with `meas` changed by f. -/
def State.modMeas (s : State) (f : Meas → Meas) : State := { s with meas := f s.meas }
/-- The state with `cmp` changed by f. -/
def State.modCmp (s : State) (f : Cmp → Cmp) : State := { s with cmp := f s.cmp }
/-- The state with `seq` changed by f. -/
def State.modSeq (s : State) (f : Seq → Seq) : State := { s with seq := f s.seq }
/-- The state with `react` changed by f. -/
def State.modReact (s : State) (f : React → React) : State := { s with react := f s.react }
/-- The state with `mrg` changed by f. -/
def State.modMrg (s : State) (f : Mrg → Mrg) : State := { s with mrg := f s.mrg }
/-- The state with `nvm` changed by f. -/
def State.modNvm (s : State) (f : Nvm → Nvm) : State := { s with nvm := f s.nvm }
/-- The state with `ridge` changed by f. -/
def State.modRidge (s : State) (f : Ridge → Ridge) : State := { s with ridge := f s.ridge }
/-- The state with `sched` changed by f. -/
def State.modSched (s : State) (f : Sched → Sched) : State := { s with sched := f s.sched }
/-- The state with `pair` changed by f. -/
def State.modPair (s : State) (f : Pair → Pair) : State := { s with pair := f s.pair }
/-- The state with `unit` changed by f. -/
def State.modUnit (s : State) (f : Unit_ → Unit_) : State := { s with unit := f s.unit }
/-- The state with `chain` changed by f. -/
def State.modChain (s : State) (f : Chain → Chain) : State := { s with chain := f s.chain }
/-- The state with `hif` changed by f. -/
def State.modHif (s : State) (f : Hif → Hif) : State := { s with hif := f s.hif }
/-- The state with `wdt` changed by f. -/
def State.modWdt (s : State) (f : Wdt → Wdt) : State := { s with wdt := f s.wdt }
/-- The state with `svc` changed by f. -/
def State.modSvc (s : State) (f : Svc → Svc) : State := { s with svc := f s.svc }

/-- Element n of a list changed by f; a number beyond the list changes nothing. -/
def modAt {α : Type} (l : List α) (n : Nat) (f : α → α) : List α := l.modify n f

/-! ### The register file (R5, R548) -/

/-- Key of a register in the service context of the stack proxy (R472). -/
def svcKey (a : Nat) : Nat := a + 0x10000

/-- What an unlisted register reads as: its field-table reset value (R168, R548). -/
def regDflt (a : Nat) : Word :=
  match regRow? (a % 0x10000) with
  | some r => w32 r.dflt
  | none => 0

/-- The stored value of a register. -/
def State.reg (s : State) (a : Nat) : Word := Store.read regDflt s.regs a

/-- Put a value into the register file. -/
def State.setReg (s : State) (a : Nat) (v : Word) : State := { s with regs := Store.write regDflt s.regs a v }

/-- A field of a stored register. -/
def State.regFld (s : State) (a lo n : Nat) : Nat := fld (s.reg a) lo n

/-- A bit of a stored register. -/
def State.regBit (s : State) (a i : Nat) : Bool := bit (s.reg a) i

/-- Replace a field of a stored register. -/
def State.setRegFld (s : State) (a lo n v : Nat) : State := s.setReg a (setFld (s.reg a) lo n v)

/-- Set one bit of a stored register to b. -/
def State.setRegBit (s : State) (a i : Nat) (b : Bool) : State := s.setReg a (setBit (s.reg a) i b)

/-- An event sets bit i of an event register (R8, R9). -/
def State.raise (s : State) (a i : Nat) : State := s.setReg a (s.reg a ||| w32 (2 ^ i))

/-- A saturating count field of a stored register advances by k. -/
def State.count (s : State) (a lo n k : Nat) : State := s.setReg a (bumpFld (s.reg a) lo n k)

/-- W1C: each 1 of v within the mask clears that bit (R8). -/
def State.clearBits (s : State) (a : Nat) (v : Word) : State := s.setReg a (s.reg a &&& ~~~v)

/-! ### Time -/

/-- (T − TB_NOW) mod 2^32 (R88). -/
def State.until (s : State) (t : BitVec 32) : Nat := (t - s.tb.now).toNat

/-- T is now or past (R88). -/
def State.due (s : State) (t : BitVec 32) : Bool := decide (s.until t = 0) || decide (2 ^ 31 < s.until t)

/-- T is past (R88). -/
def State.past (s : State) (t : BitVec 32) : Bool := decide (2 ^ 31 < s.until t)

/-- `TB_NOW` plus k microseconds. -/
def State.after (s : State) (k : Nat) : BitVec 32 := s.tb.now + w32 k

/-- One half-nanosecond of a pending correction is slewed in: 500 ppm (R368). -/
def Tb.slewed (t : Tb) : Tb :=
  let d := max (-1) (min 1 t.slew)
  { t with slew := t.slew - d, frac := t.frac + d }

/-- A tick of the timebase: `TB_UP` counts, and `TB_NOW` takes the value of the slewed phase, one microsecond on but where the slew
carries the phase over its edge (R89, R91). -/
def Tb.counted (t : Tb) : Tb :=
  let x := t.frac + 2000
  { t with now := t.now + BitVec.ofInt 32 (x / 2000), frac := x % 2000, up := t.up + 1 }

/-- A correction of e half-nanoseconds is to be slewed in (R89). -/
def State.slewBy (s : State) (e : Int) : State := { s with tb := { s.tb with slew := e } }

/-- At least k microseconds have passed since model time t. -/
def State.passed (s : State) (t k : Nat) : Bool := decide (t + k ≤ s.ticks)

/-! ### Free values (log entry 3) -/

/-- A free word, and the state past it. -/
def State.takeWord (s : State) : Word × State := (Config.freeWord s.free, { s with free := s.free + 1 })

/-- A free bit, and the state past it. -/
def State.takeBit (s : State) : Bool × State := (Config.freeBit s.free, { s with free := s.free + 1 })

/-- n random bytes, and the state past them. -/
def State.takeRandom (s : State) (n : Nat) : List Byte × State :=
  ((List.range n).map (Config.randomByte s.free), { s with free := s.free + 1 })

/-! ### Roles -/

/-- A role runs (R21). -/
def State.running (s : State) : Bool := decide (s.role.state = .running)

/-- The running role is r. -/
def State.isRole (s : State) (r : Role) : Bool := s.running && decide (s.role.role = r)

/-- A rail role runs (1.1). -/
def State.rail (s : State) : Bool := s.isRole .sgl || s.isRole .mst || s.isRole .slv

/-- `CLK_CORE` and the clocks of its family run: no CLKFAIL reset gates them, and no DOZE stops them (R80, R131). -/
def State.coreRuns (s : State) : Bool := !s.clk.gated && !s.pwr.doze

/-- The running role carries the pair attribute. -/
def State.paired (s : State) : Bool := s.rail && s.role.pair

/-- A pair unit in a state in which it drives its pins: SOLO or PRIMARY (Table 13-1). -/
def PairState.drives : PairState → Bool
  | .solo | .primary => true
  | .none | .listen | .regrow | .inStep | .orphan | .noForm => false

/-- A unit is SHADOW or in NOFORM (R434). -/
def PairState.shadow : PairState → Bool
  | .regrow | .inStep | .orphan | .noForm => true
  | .none | .listen | .solo | .primary => false

/-- The state a unit shows: one that goes alone takes its position and role after its ADOPT (R159). -/
def State.pairShown (s : State) : PairState := s.pair.adoptFrom.getD s.pair.pstate

/-- This unit is SHADOW or in NOFORM. -/
def State.isShadow (s : State) : Bool := s.rail && s.role.pair && s.pair.pstate.shadow

/-- No role runs (R3): UNCONFIGURED, REFUSED, SAFE_IDLE or BENCH. -/
def State.noRole (s : State) : Bool :=
  match s.role.state with
  | .unconfigured | .refused | .safeIdle | .bench => true
  | .starting => decide (s.role.role = .none)
  | .running => false

/-- The role whose register columns apply (R3): SGL while no role runs. -/
def State.mapRole (s : State) : Role := if s.noRole then .sgl else s.role.role

/-- Bit of a role in the role column of the register map. -/
def Role.bit : Role → Nat
  | .sgl => 0 | .mst => 1 | .slv => 2 | .stk => 3 | .none => 0

/-- The bank of an address is one that works while no role runs (R3, R507). -/
def serviceBank (a : Nat) : Bool :=
  decide (a < 0x0800) || (decide (0x1800 ≤ a) && decide (a < 0x1C00)) || decide (0x3000 ≤ a)

/-- The register exists and its block is enabled (R3, R550). -/
def State.present (s : State) (a : Nat) : Option RegRow :=
  match regRow? a with
  | none => none
  | some r =>
    if s.noRole && !serviceBank a then none
    else if r.roles = 16 then (if s.role.pair && !s.noRole then some r else none)
    else if r.roles / 2 ^ s.mapRole.bit % 2 = 1 then some r else none

end Sys2Proof.Machine
end

