-- ==== Sys2Proof/Machine/Fields.lean ====
section
/-! DEFINITION. Configuration fields by name, read from the register file: channels and comparators (chapters 6 and 7), rails
(chapter 8), reactions and margins (chapter 9). -/

namespace Sys2Proof.Machine

/-! ### Channels (Tables 6-7, 6-8, 7-6 to 7-9) -/

/-- `KIND`: 0 UNUSED, 1 VOLT, 2 CURRENT, 3 TEMP, 4 CELL; a reserved code counts as UNUSED (R6). -/
def State.chKind (s : State) (n : Nat) : Nat :=
  let k := s.regFld (Reg.chCfg n) 0 3
  if k ≤ 4 then k else 0

/-- Scale K of Table 6-1, in 2.5 µV per code. -/
def attK (att : Nat) : Nat := if att = 1 then 200 else if att = 2 then 1000 else 25

/-- Result units (10 µV) per threshold code, Table 7-1. -/
def attU (att : Nat) : Nat := if att = 1 then 400 else if att = 2 then 2000 else 50

/-- `ATT` of channel n. -/
def State.chAtt (s : State) (n : Nat) : Nat := s.regFld (Reg.chCfg n) 8 2

/-- Settling time T_SET of Table 6-3, in µs. -/
def State.tSet (s : State) (n : Nat) : Nat :=
  match s.regFld (Reg.chCfg n) 12 2 with
  | 0 => 2000
  | 1 => 250
  | 2 => 50
  | _ => 10

/-- Hysteresis h of Table 7-2, in codes. -/
def hystOf (code : Nat) : Nat := match code with | 0 => 0 | 1 => 4 | 2 => 16 | _ => 64

/-- Hysteresis of channel n. -/
def State.hyst (s : State) (n : Nat) : Nat := hystOf (s.regFld (Reg.chCmpCfg n) 4 2)

/-- Mode of a comparator of Table 7-3: 0 OFF, 1 CONTINUOUS, 2 SAMPLED; both are off on an UNUSED channel (R229). -/
def State.cmpMode (s : State) (n : Nat) (high : Bool) : Nat :=
  if s.chKind n = 0 then 0
  else
    let m := s.regFld (Reg.chCmpCfg n) (if high then 2 else 0) 2
    if m = 3 then 0 else m

/-- Threshold code of a comparator (Table 7-7). -/
def State.cmpTh (s : State) (n : Nat) (high : Bool) : Nat := s.regFld (Reg.chCmpTh n) (if high then 16 else 0) 12

/-- `DGL` of channel n. -/
def State.dgl (s : State) (n : Nat) : Nat := s.regFld (Reg.chCmpCfg n) 8 2

/-- `LATCH` = HOLD. -/
def State.latchHold (s : State) (n : Nat) : Bool := s.regBit (Reg.chCmpCfg n) 11

/-- `HCLR` of channel n; the reserved code counts as 0 (R6). -/
def State.hclr (s : State) (n : Nat) : Nat :=
  let v := s.regFld (Reg.chCmpCfg n) 12 2
  if v = 3 then 0 else v

/-- The scan period in µs (R205). -/
def State.scanPer (s : State) : Nat := s.regFld Reg.chScanCfg 0 17

/-- The scan phase in µs. -/
def State.scanPhase (s : State) : Nat := s.regFld Reg.chScanPhase 0 17

/-- The SRC channel, if one is designated (R76). -/
def State.srcCh (s : State) : Option Nat :=
  let v := s.regFld Reg.sysSrcCfg 0 5
  if v < 24 then some v else none

/-! ### Rails (Tables 8-9 to 8-11) -/

/-- Rail kinds (Table 8-1). -/
inductive RKind where
  | none | seq | mon | budg | mains | batt
  deriving DecidableEq, Repr

/-- Kind from its code; a reserved code counts as NONE (R6). -/
def rkindOf (c : Nat) : RKind :=
  match c with
  | 1 => .seq | 2 => .mon | 3 => .budg | 4 => .mains | 5 => .batt | _ => .none

/-- `RKIND` of rail n; no rail outside 0 to 23. -/
def State.rkind (s : State) (n : Nat) : RKind :=
  if n < 24 then rkindOf (s.regFld (Reg.chRailCfg n) 8 3) else .none

/-- Sense channel of rail n. -/
def State.sense (s : State) (n : Nat) : Nat :=
  let v := s.regFld (Reg.chRailCfg n) 16 5
  if v < 24 then v else 0

/-- Group of rail n. -/
def State.group (s : State) (n : Nat) : Nat := s.regFld (Reg.chRailCfg n) 24 3

/-- `ON_DELAY` in µs. -/
def State.onDelay (s : State) (n : Nat) : Word := s.reg (Reg.chOnDelay n)

/-- `OFF_DELAY` in µs. -/
def State.offDelay (s : State) (n : Nat) : Word := s.reg (Reg.chOffDelay n)

/-- `RAMP_TIMEOUT` in µs. -/
def State.rampTmo (s : State) (n : Nat) : Nat := 10 * s.regFld (Reg.chRamp n) 16 16

/-- `DISCH_TIMEOUT` in µs; 0: none. -/
def State.dischTmo (s : State) (n : Nat) : Nat := 1000 * s.regFld (Reg.chRamp n) 0 16

/-- The rail drives an EN pin (R256). -/
def State.hasEn (s : State) (n : Nat) : Bool :=
  match s.rkind n with
  | .seq | .budg | .mains | .batt => true
  | .none | .mon => false

/-- The rail is SEQUENCED or MONITOR. -/
def State.slotted (s : State) (n : Nat) : Bool :=
  match s.rkind n with
  | .seq | .mon => true
  | _ => false

/-- The rail is one of the source pair. -/
def State.isSource (s : State) (n : Nat) : Bool :=
  match s.rkind n with
  | .mains | .batt => true
  | _ => false

/-- The rail numbers. -/
def railNums : List Nat := List.range 24

/-- The rail of a kind, if the image has one. -/
def State.railOf (s : State) (k : RKind) : Option Nat := railNums.find? fun n => decide (s.rkind n = k)

/-- Drive mode of EN n (Table 2-5): 0 OD, 1 PP, 2 ISINK, 3 GATE. -/
def State.enMode (s : State) (n : Nat) : BitVec 2 :=
  if n < 16 then BitVec.ofNat 2 (s.regFld Reg.sysEnmode0 (2 * n) 2)
  else BitVec.ofNat 2 (s.regFld Reg.sysEnmode1 (2 * (n - 16)) 2)

/-- Polarity of EN n: true maps rail on to the inactive state (Table 2-8). -/
def State.enPol (s : State) (n : Nat) : Bool := s.regBit Reg.sysEnpol n

/-! ### Reactions and margins (Tables 9-3 to 9-5, 9-10) -/

/-- Reactions (Table 9-1). -/
inductive Reaction where
  | ignore | retry | group | system
  deriving DecidableEq, Repr

/-- Reaction from its code. -/
def reactionOf (c : Nat) : Reaction :=
  match c with
  | 0 => .ignore | 1 => .retry | 2 => .group | _ => .system

/-- `REACT` of rail n. -/
def State.reaction (s : State) (n : Nat) : Reaction := reactionOf (s.regFld (Reg.reactRailCfg n) 0 2)

/-- `RETRY_MAX` of rail n. -/
def State.retryMax (s : State) (n : Nat) : Nat := s.regFld (Reg.reactRailCfg n) 8 4

/-- `ESC` of rail n: true SYSTEM. -/
def State.escSystem (s : State) (n : Nat) : Bool := s.regBit (Reg.reactRailCfg n) 4

/-- `FORGIVE` of rail n in µs; 0: never. -/
def State.forgive (s : State) (n : Nat) : Nat := 100000 * s.regFld (Reg.reactRailCfg n) 16 8

/-- `RETRY_GAP` of rail n in µs. -/
def State.retryGap (s : State) (n : Nat) : Nat := 1000 * s.regFld (Reg.reactRailGap n) 0 16

/-- Channel a margin DAC is mapped to (R318). -/
def State.mrgCh (s : State) (m : Nat) : Option Nat :=
  if s.regBit (Reg.mrgCfg m) 8 && decide (s.regFld (Reg.mrgCfg m) 0 5 < 24) then some (s.regFld (Reg.mrgCfg m) 0 5) else none

/-- Code that a margin drives: `HIGH_CODE` or `LOW_CODE` (Table 9-10). -/
def State.mrgGoal (s : State) (m : Nat) (low : Bool) : Int := sfld (s.reg (Reg.mrgCode m)) (if low then 0 else 16) 10

/-! ### Block members by number -/

/-- Comparators of channel n. -/
def State.cmpCh (s : State) (n : Nat) : CmpCh := s.cmp.ch.getD n CmpCh.init

/-- One comparator. -/
def State.comp (s : State) (n : Nat) (high : Bool) : Comp := if high then (s.cmpCh n).fh else (s.cmpCh n).fl

/-- Change the comparators of channel n. -/
def State.modCmpCh (s : State) (n : Nat) (f : CmpCh → CmpCh) : State := s.modCmp fun c => { c with ch := modAt c.ch n f }

/-- Change one comparator. -/
def State.modComp (s : State) (n : Nat) (high : Bool) (f : Comp → Comp) : State :=
  s.modCmpCh n fun c => if high then { c with fh := f c.fh } else { c with fl := f c.fl }

/-- Rail n. -/
def State.railAt (s : State) (n : Nat) : Rail := s.seq.rails.getD n Rail.init

/-- State of rail n. -/
def State.rstate (s : State) (n : Nat) : RailState := (s.railAt n).state

/-- Change rail n. -/
def State.modRail (s : State) (n : Nat) (f : Rail → Rail) : State := s.modSeq fun q => { q with rails := modAt q.rails n f }

/-- Reaction state of rail n. -/
def State.reactAt (s : State) (n : Nat) : ReactRail := s.react.rails.getD n { used := 0, esc := false, last := 0 }

/-- Change the reaction state of rail n. -/
def State.modReactAt (s : State) (n : Nat) (f : ReactRail → ReactRail) : State :=
  s.modReact fun r => { r with rails := modAt r.rails n f }

/-- Margin DAC m. -/
def State.dac (s : State) (m : Nat) : Dac :=
  s.mrg.dacs.getD m
    { state := .nominal, cur := 0, goal := 0, target := false, timeout := false, wcntH := 0, wcntL := 0, cmdAt := 0, stepAt := 0 }

/-- Change margin DAC m. -/
def State.modDac (s : State) (m : Nat) (f : Dac → Dac) : State := s.modMrg fun g => { g with dacs := modAt g.dacs m f }

/-- The margin DAC mapped to channel n, if any. -/
def State.dacOf (s : State) (n : Nat) : Option Nat := (List.range 8).find? fun m => decide (s.mrgCh m = some n)

/-- A margin on channel n is active (R319). -/
def State.marginOn (s : State) (n : Nat) : Bool :=
  match s.dacOf n with
  | some m => decide ((s.dac m).state ≠ .nominal)
  | none => false

end Sys2Proof.Machine
end

