-- ==== Sys2Proof/Machine/Status.lean ====
section
/-! DEFINITION. Live levels and composed status words: what the status registers of chapters 1 to 9 show, formed from the
engines' states (spec/18_register_map.md R549). -/

namespace Sys2Proof.Machine

/-! ### Fuse shadow and roles -/

/-- A fuse word as the readback bank shows it: 0 while the shadow is not valid (R553). -/
def State.fuseW (s : State) (w : Nat) : Word := if s.boot.shadowOk then s.svc.shadow.getD w 0 else 0

/-- A bit of the valid fuse shadow. -/
def State.fuseBit (s : State) (w i : Nat) : Bool := bit (s.fuseW w) i

/-- `LIFECYCLE`: 0 OPEN, 1 OEM, 3 LOCKED; 0b10 counts as LOCKED (R524). -/
def State.lifecycle (s : State) : Nat :=
  let v := fld (s.fuseW 0) 0 2
  if v = 2 then 3 else v

/-- Role codes of `SYS_ROLE.ROLE` (Table 1-3). -/
def Role.code : Role → Nat
  | .none => 0 | .sgl => 1 | .mst => 2 | .slv => 3 | .stk => 4

/-- State codes of `SYS_ROLE.STATE`. -/
def RoleState.code : RoleState → Nat
  | .starting => 0 | .running => 1 | .unconfigured => 2 | .refused => 3 | .bench => 4 | .safeIdle => 5

/-- Reason codes of `SYS_ROLE.REASON`. -/
def RoleReason.code : RoleReason → Nat
  | .none => 0 | .clkFallback => 1 | .secondMaster => 2 | .noImage => 3 | .roleBlocked => 4

/-- A word from (value, low bit, width) fields that do not overlap. -/
def pack (l : List (Nat × Nat × Nat)) : Word :=
  w32 (l.foldl (fun a f => a + f.1 % 2 ^ f.2.2 * 2 ^ f.2.1) 0)

/-- `SYS_ROLE` (Table 1-3). -/
def State.sysRoleW (s : State) : Word :=
  pack [(s.role.reason.code, 20, 4), (s.role.state.code, 16, 4), (b2n s.role.addrValid, 14, 1), (s.role.addr, 8, 6),
    (b2n (s.fuseBit 1 5), 6, 1), (b2n s.role.pair, 5, 1), (b2n (s.role.stkDflt && decide (s.role.role = .stk)), 4, 1), (s.role.role.code, 0, 3)]

/-! ### EN pins (R52) -/

/-- Level of EN n, or whether the current sink is on in ISINK mode (R52): the sink is off while the pin is not driven by the
role. An inactive GATE pin follows its FET source, which is the board's (R50). -/
def State.enLevel (s : State) (n : Nat) : Bool :=
  let board := Config.enBoard n s.ticks
  let up := if s.supply.vddioOk then true else board
  let sink := decide ((s.enMode n).toNat = 2)
  match s.pins.en.getD n .low with
  | .low => false
  | .high => !sink && up
  | .highZ | .pullDown => !sink && board
  | .role m a =>
    match m.toNat with
    | 0 => if a then false else board
    | 1 => if a then up else false
    | 2 => a
    | _ => if a then true else board

/-- `SYS_ENLVL` (Table 2-9). -/
def State.enlvlW (s : State) : Word := wordOf 24 s.enLevel

/-- The pin's state read as rail on: `SYS_ENLVL` combined with `SYS_ENPOL` and the sinking active state of OD (R48, R52). -/
def State.enReadsOn (s : State) (n : Nat) : Bool :=
  let active := if (s.enMode n).toNat = 0 then !s.enLevel n else s.enLevel n
  active != s.enPol n

/-! ### Comparators -/

/-- Number of a comparator in a check: 2n for FL, 2n + 1 for FH. -/
def compNum (n : Nat) (high : Bool) : Nat := 2 * n + b2n high

/-- The comparator is under check, so its Q is held (R246). -/
def State.underCheck (s : State) (n : Nat) (high : Bool) : Bool :=
  match s.cmp.chk with
  | some c => decide (c.todo.head? = some (compNum n high))
  | none => false

/-- Channel n is the one whose FL and FH outputs a wet check holds (R225). -/
def State.wetHolds (s : State) (n : Nat) : Option (Bool × Bool) :=
  match s.meas.wet with
  | some w => if w.step ≠ 0 ∧ w.todo.head? = some n ∧ s.srcCh ≠ some n then some (w.holdFl, w.holdFh) else none
  | none => none

/-- The latch bit of a comparator. -/
def State.lat (s : State) (n : Nat) (high : Bool) : Bool := s.regBit (if high then Reg.cmpFhLat else Reg.cmpFlLat) n

/-- The output delivered to the fabric (R239, R225). -/
def State.cmpOut (s : State) (n : Nat) (high : Bool) : Bool :=
  match s.wetHolds n with
  | some (l, h) => if high then h else l
  | none =>
    if s.latchHold n then s.lat n high
    else (s.comp n high).q || (s.comp n high).stretch

/-- `SRC_FAULT`: the FL output of the SRC channel (R77). -/
def State.srcFault (s : State) : Bool :=
  match s.srcCh with
  | some n => s.cmpOut n false
  | none => false

/-- The sense of channel n is inside its window: both Q released (R256). -/
def State.inside (s : State) (n : Nat) : Bool := !(s.comp n false).q && !(s.comp n true).q

/-- A warning's live state as the fabric and the registers see it. -/
def State.cmpStatW (s : State) (n : Nat) : Word :=
  let c := s.cmpCh n
  pack [(b2n c.fl.q, 0, 1), (b2n c.fh.q, 1, 1), (b2n (s.cmpOut n false), 2, 1), (b2n (s.cmpOut n true), 3, 1),
    (b2n (s.lat n false), 4, 1), (b2n (s.lat n true), 5, 1), (b2n (s.regBit Reg.cmpChkFail n), 6, 1), (b2n c.wl, 7, 1),
    (b2n c.wh, 8, 1), (b2n c.wlFlag, 9, 1), (b2n c.whFlag, 10, 1), (b2n (c.masked || s.marginOn n), 11, 1),
    (c.fl.chk.toNat, 16, 3), (b2n c.fl.nj, 19, 1), (c.fh.chk.toNat, 20, 3), (b2n c.fh.nj, 23, 1)]

/-- Comparator under check, 2n for FL and 2n + 1 for FH; 0x3F none (Table 7-10). -/
def State.chkCur (s : State) : Nat :=
  match s.cmp.chk with
  | some c => c.todo.headD 0x3F
  | none => 0x3F

/-- `CMP_STAT` (Table 7-10). -/
def State.cmpGlobalW (s : State) : Word :=
  pack [(b2n s.cmp.chk.isSome, 31, 1), (b2n s.cmp.chkRefused, 30, 1), (b2n s.cmp.chkAbort, 29, 1), (b2n s.cmp.pskip, 28, 1),
    (b2n s.cmp.thRej, 27, 1), (b2n s.cmp.limRej, 26, 1), (s.chkCur, 18, 6), (s.cmp.passes, 0, 16)]

/-! ### Supply -/

/-- `SYS_SUPPLY` (Table 3-11). -/
def State.supplyW (s : State) : Word :=
  pack [(s.regFld Reg.sysSrcCfg 0 5, 8, 5), (b2n s.srcFault, 6, 1), (b2n s.supply.srcEvt, 5, 1),
    (b2n s.supply.vddioLost, 4, 1), (b2n s.supply.vddioOk, 3, 1), (b2n s.supply.cpOk, 2, 1), (b2n s.supply.vbus, 1, 1),
    (b2n s.boot.bench, 0, 1)]

/-! ### Sequencer (Tables 8-14 to 8-16) -/

/-- Codes of Table 8-4. -/
def SeqState.code : SeqState → Nat
  | .idle => 0 | .rising => 1 | .up => 2 | .falling => 3 | .downHold => 4 | .hold => 5 | .adopt => 6

/-- Codes of Table 8-2. -/
def RailState.code : RailState → Nat
  | .off => 0 | .waitOn => 1 | .ramp => 2 | .on => 3 | .waitOff => 4 | .discharge => 5 | .retryWait => 6 | .faulted => 7

/-- Codes of Table 8-7. -/
def SrcState.code : SrcState → Nat
  | .none => 0 | .mains => 1 | .gapToBatt => 2 | .batt => 3 | .gapToMains => 4

/-- A node of the master's table. -/
def State.node (s : State) (n : Nat) : Node := s.ridge.m.nodes.getD n Node.init

/-- Numbers of the slaves a master may hold. -/
def nodeNums : List Nat := (List.range 31).map (· + 1)

/-- `CASCADE_UP`: every admitted node, the master included, reports UP; a bound node that is not admitted counts as not UP (R292,
R385). -/
def State.cascadeUp (s : State) : Bool :=
  s.isRole .mst && decide (s.seq.state = .up) &&
    nodeNums.all fun n =>
      !((s.node n).bound || (s.node n).admitted) || ((s.node n).admitted && decide ((s.node n).stateB.toNat % 8 = 2))

/-- `DEGRADED` (R272). -/
def State.degraded (s : State) : Bool :=
  (decide (s.seq.state = .rising) || decide (s.seq.state = .up)) && decide (s.seq.grpDown ≠ 0)

/-- A slave holds a Ridge command of opcode op for its launch time (R375). -/
def State.slavePends (s : State) (op : Nat) : Bool := s.isRole .slv && s.ridge.s.timed.any fun c => decide (c.op = op)

/-- `SEQ_STAT` (Table 8-14). -/
def State.seqStatW (s : State) : Word :=
  pack [(s.seq.cmdErr.toNat, 24, 4), (s.seq.grpDown.toNat, 16, 8), (b2n s.cascadeUp, 11, 1), (b2n s.degraded, 10, 1),
    (b2n (s.seq.pendStop.isSome || s.slavePends 2), 9, 1), (b2n (s.seq.pendStart.isSome || s.slavePends 1), 8, 1), (b2n s.seq.startReq, 7, 1),
    (s.seq.holdFrom.code, 4, 3), (s.seq.state.code, 0, 3)]

/-- `SEQ_RAILn_STAT` (Table 8-16). -/
def State.railStatW (s : State) (n : Nat) : Word :=
  let r := s.railAt n
  pack [(b2n r.dischFail, 11, 1), (b2n r.rampFail, 10, 1), (b2n r.waitFault, 9, 1), (b2n r.en, 8, 1), (r.state.code, 0, 3)]

/-- The sense of the rail of a source kind is inside its window. -/
def State.sourceGood (s : State) (k : RKind) : Bool :=
  match s.railOf k with
  | some n => s.inside (s.sense n)
  | none => false

/-- `SEQ_SRC_STAT` (Table 8-15). -/
def State.srcStatW (s : State) : Word :=
  pack [(s.seq.handovers, 16, 16), (b2n s.seq.dwell, 6, 1), (b2n (s.sourceGood .batt), 5, 1),
    (b2n (s.sourceGood .mains), 4, 1), (s.seq.src.code, 0, 3)]

/-- Bit n: rail n in ON. -/
def State.railOnW (s : State) : Word := wordOf 24 fun n => decide (s.rstate n = .on)

/-! ### Reactions and margins -/

/-- `REACT_RAILn_STAT` (Table 9-3). -/
def State.reactStatW (s : State) (n : Nat) : Word :=
  let r := s.reactAt n
  pack [(r.used, 16, 4), (b2n r.esc, 3, 1), (r.last.toNat, 0, 2)]

/-- `REACT_SYSSTAT` (Table 9-6). -/
def State.sysstatW (s : State) : Word :=
  pack [(s.react.sysCnt, 8, 8), (b2n s.react.lockout, 1, 1), (b2n s.react.sysEvt, 0, 1)]

/-- Codes of Table 9-9. -/
def MrgState.code : MrgState → Nat
  | .nominal => 0 | .slewOut => 1 | .held => 2 | .slewBack => 3

/-- `MRG_STATm` (Table 9-11). -/
def State.mrgStatW (s : State) (m : Nat) : Word :=
  let d := s.dac m
  pack [(d.wcntH, 24, 8), (d.wcntL, 16, 8), (enc 10 d.cur, 6, 10), (b2n d.target, 5, 1), (b2n d.timeout, 4, 1),
    (d.state.code, 0, 3)]

/-! ### Pins -/

/-- The LINK-domain interfaces are out of reset: no reset is in progress, or its LINK step has been taken (R128, R130). -/
def State.linkOut (s : State) : Bool := s.rst.run.isNone || decide (5 ≤ s.rst.domains)

/-- The mirror link works: its controller is out of reset and clocked, and `MTX` has its supply (R42, R70, R130, R446). -/
def State.mirrorUp (s : State) : Bool := s.paired && s.linkOut && s.supply.vddioOk && !s.clk.gated

/-- PG is high (R62); it is a VDDIO-domain output, so high-Z without VDDIO (R70). -/
def State.pgHigh (s : State) : Bool :=
  s.supply.vddioOk && ((s.rail && (decide (s.seq.state = .up) || (decide (s.seq.state = .hold) && decide (s.seq.holdFrom = .up)))) ||
    (s.isRole .stk && s.role.addrValid))

/-- Value of fabric sink k after inversion. -/
def State.sinkBit (s : State) (k : Nat) : Bool := s.fab.sink.getLsbD k

/-- The mirror engine asserts FAULT_N (13.1, R436): in ORPHAN and NOFORM, and under RESYNC_FAULT and STOP until the
disagreement is cleared. -/
def State.pairFault (s : State) : Bool :=
  s.paired &&
    (decide (s.pairShown = .orphan) || decide (s.pairShown = .noForm) ||
      (s.regBit Reg.pairCfg 16 && s.regBit Reg.pairEvt 2))

/-- FAULT_N is asserted (R61, R315): by the start-up logic, or while a role runs by the fabric sink, the reactions and the
mirror engine. -/
def State.faultAsserted (s : State) : Bool :=
  s.boot.faultN ||
    (s.running && s.sinkBit 0x23) ||
    (s.regBit Reg.reactSys 0 && s.regBit Reg.reactEvt 2) ||
    (s.regBit Reg.reactSys 1 && s.react.sysEvt) ||
    (s.regBit Reg.reactSys 2 && s.regBit Reg.reactEvt 4) ||
    s.react.lockout || s.pairFault

end Sys2Proof.Machine
end

