-- ==== Sys2Proof/Machine/ImageRules.lean ====
section
/-! DEFINITION. The content and fabric rules of an image, judged on a state whose register file holds the image's values
(spec/05_configuration_image_and_thatch_fabric.md R171 codes 0x8 and 0x9; each rule names its own chapter). -/

namespace Sys2Proof.Machine

/-! ### Fields the rules read -/

/-- `FN_GPIOn` (Table 2-14). -/
def State.gpioFn (s : State) (n : Nat) : Nat := s.regFld Reg.sysGpioCfg (4 * n) 4

/-- GPIO n is a fabric output (R39). -/
def State.gpioFab (s : State) (n : Nat) : Bool := decide (s.gpioFn n = 4) || decide (s.gpioFn n = 5)

/-- GPIO n is an output (R39). -/
def State.gpioOut (s : State) (n : Nat) : Bool := decide (2 ≤ s.gpioFn n) && decide (s.gpioFn n ≤ 6)

/-- `GUARD_EN` (Table 13-9). -/
def State.guardEn (s : State) : Bool := s.regBit Reg.pairCfg 8

/-- Arbitration code of rail n (R437). -/
def State.arb (s : State) (n : Nat) : Nat :=
  if n < 16 then s.regFld Reg.pairArb0 (2 * n) 2 else s.regFld Reg.pairArb1 (2 * (n - 16)) 2

/-- `EN_RST_MAP` code of EN n, from the fuse shadow (Table 16-9). -/
def State.enMap (s : State) (n : Nat) : Nat :=
  if n < 16 then fld (s.fuseW 4) (2 * n) 2 else fld (s.fuseW 5) (2 * (n - 16)) 2

/-- Source index of batten input i of cell c (Table 5-15). -/
def State.cellIn (s : State) (c i : Nat) : Nat := s.regFld (Reg.fabCellIn c) (8 * i) 8

/-- `OUT_SEL` of cell c: 0 LUT, 1 FF, 2 TIMER. -/
def State.cellSel (s : State) (c : Nat) : Nat := s.regFld (Reg.fabCellCfg c) 14 2

/-- `TMODE` of cell c. -/
def State.cellMode (s : State) (c : Nat) : Nat := s.regFld (Reg.fabCellCfg c) 12 2

/-- `SRC` of a sink. -/
def State.sinkSrc (s : State) (k : Nat) : Nat := s.regFld (Reg.fabSink k) 0 8

/-- `INV` of a sink. -/
def State.sinkInv (s : State) (k : Nat) : Bool := s.regBit (Reg.fabSink k) 8

/-- The sink entry is used (R189). -/
def State.sinkUsed (s : State) (k : Nat) : Bool := decide (s.sinkSrc k ≠ 0) || s.sinkInv k

/-- Every number below n passes. -/
def allUpTo (n : Nat) (p : Nat → Bool) : Bool := (List.range n).all p

/-- v lies from lo to hi. -/
def within (v lo hi : Nat) : Bool := decide (lo ≤ v) && decide (v ≤ hi)

/-- Image role r is a rail role. -/
def Role.isRail : Role → Bool
  | .sgl | .mst | .slv => true
  | .stk | .none => false

/-! ### Content rules (code 0x8) -/

/-- Pins: R39 GPIO functions, R49 GATE, R452 stack drive modes. -/
def State.rulesPins (t : State) (r : Role) (pair : Bool) : Bool :=
  allUpTo 8 (fun n =>
    let f := t.gpioFn n
    decide (f ≤ 6) && (decide (f ≠ 6) || (decide (6 ≤ n) && pair && t.guardEn)) &&
      !(decide (r = .stk) && t.gpioFab n)) &&
  (decide (t.gpioFn 6 = 6) == decide (t.gpioFn 7 = 6)) &&
  allUpTo 24 (fun n => n < 12 || decide (t.enMode n ≠ 3)) &&
  (decide (r ≠ .stk) ||
    (decide (t.enMode 0 = 1) && allUpTo 15 (fun i => decide (t.enMode (i + 1) = 2)) && decide (t.reg Reg.sysEnpol = 0)))

/-- SRC designation: R75. -/
def State.rulesSrc (t : State) (r : Role) : Bool :=
  let c := t.regFld Reg.sysSrcCfg 0 5
  if r = .stk then decide (c = 0x1F) else decide (c < 24) && decide (t.chKind c = 1) && decide (t.cmpMode c false = 1)

/-- Host interface: R500, R502. -/
def State.rulesHif (t : State) (r : Role) : Bool :=
  let per := t.regFld Reg.sysWdtCfg 16 16
  let open_ := t.regFld Reg.sysWdtCfg 0 16
  let key := t.regFld Reg.sysWdtKey 0 16
  let first := t.regFld Reg.sysWdtFirst 0 16
  (decide (per = 0) || (decide (open_ < per) && decide (key ≠ 0) && decide (key ≠ 0xFFFF))) &&
  (decide (per ≠ 0) || decide (first = 0)) &&
  (decide (r = .sgl) || decide (r = .mst) || (decide (per = 0) && decide (open_ = 0) && decide (key = 0) && decide (first = 0)))

/-- One channel: Table 6-2, 6.8.1, R205, R211, R232, R243. -/
def State.rulesCh (t : State) (r : Role) (n : Nat) : Bool :=
  let cfg := t.reg (Reg.chCfg n)
  let k := fld cfg 0 3
  let att := fld cfg 8 2
  let cmp := t.reg (Reg.chCmpCfg n)
  let fl := fld cmp 0 2
  let fh := fld cmp 2 2
  let nw := fld cmp 16 14
  let sampled := decide (fl = 2) || decide (fh = 2)
  let stk := decide (r = .stk)
  let high := decide (17 ≤ n)
  decide (k ≤ 4) && decide (att ≠ 3) &&
  (decide (k ≠ 1) || !stk || decide (n = 0)) &&
  (decide (k ≠ 2) || !stk || high) &&
  (decide (k ≠ 3) || (decide (att = 0) && (!stk || high))) &&
  (decide (k ≠ 4) || (stk && decide (att = 1) && within n 1 16)) &&
  (decide (k ≠ 3) || (decide (t.regFld (Reg.chNtcB n) 0 16 ≠ 0) && decide (t.regFld (Reg.chNtcR n) 0 16 ≠ 0) &&
    decide (t.regFld (Reg.chNtcR n) 16 16 ≠ 0))) &&
  decide (t.regFld (Reg.chFilt n) 16 4 ≤ 12) &&
  decide (fl ≠ 3) && decide (fh ≠ 3) && decide (fld cmp 12 2 ≠ 3) &&
  (decide (k ≠ 0) || (decide (fl = 0) && decide (fh = 0))) &&
  (decide (fl = 0) || decide (fh = 0) || decide (t.cmpTh n false + t.hyst n + 1 ≤ t.cmpTh n true)) &&
  (if sampled then within nw 10 10000 else decide (nw = 0)) &&
  (decide (fld cmp 12 2 ≠ 2) || decide (r = .sgl) || decide (r = .mst)) &&
  (!(t.regBit (Reg.chWarnLo n) 7 && t.regBit (Reg.chWarnHi n) 7) ||
    decide (sfld (t.reg (Reg.chWarnLo n)) 8 24 < sfld (t.reg (Reg.chWarnHi n)) 8 24))

/-- Scan engine and wet check: R205, Table 6-12, R586, R451. -/
def State.rulesScan (t : State) (r : Role) : Bool :=
  within t.scanPer 20 100000 && decide (t.scanPhase < t.scanPer) &&
  decide (t.regFld Reg.chWetCfg 8 2 ≠ 3) &&
  (allUpTo 24 (fun n => decide (t.chKind n = 0)) || decide (1 ≤ t.regFld Reg.chWetCfg 16 6)) &&
  (decide (r ≠ .stk) || decide (100 * t.regFld Reg.stackUcfg 8 8 + 200 ≤ t.scanPer))

/-- The codes of `CHn_RAIL_CFG` that are reserved in every role (Table 8-9). -/
def State.rulesRailCodes (t : State) (n : Nat) : Bool :=
  decide (t.regFld (Reg.chRailCfg n) 8 3 ≤ 5) && decide (t.regFld (Reg.chRailCfg n) 16 5 < 24)

/-- One rail: R256, R257, R302. -/
def State.rulesRail (t : State) (n : Nat) : Bool :=
  let kind := t.rkind n
  let sn := t.regFld (Reg.chRailCfg n) 16 5
  let watched := match kind with | .seq | .mon | .mains | .batt => true | _ => false
  let src := match kind with | .mains | .batt => true | _ => false
  let re := t.reaction n
  (!watched || (decide (t.chKind sn ≠ 0) && (decide (t.cmpMode sn false ≠ 0) || decide (t.cmpMode sn true ≠ 0)) &&
    decide (t.rampTmo n ≠ 0))) &&
  (!src || decide (t.dischTmo n = 0)) &&
  decide ((t.onDelay n).toNat ≤ 2000000000) && decide ((t.offDelay n).toNat ≤ 2000000000) &&
  !(decide (kind = .mon) && decide (re = .retry)) &&
  !(src && (decide (re = .group) || (decide (re = .retry) && !t.escSystem n))) &&
  !(decide (re = .retry) && decide (t.retryGap n = 0))

/-- Sequencer: R256 source pairs, R274, R290. -/
def State.rulesSeq (t : State) : Bool :=
  let mains := (railNums.filter fun n => decide (t.rkind n = .mains)).length
  let batt := (railNums.filter fun n => decide (t.rkind n = .batt)).length
  let dwell := (t.reg Reg.seqSrcDwell).toNat
  decide (mains ≤ 1) && decide (mains = batt) &&
  within (t.reg Reg.seqMinOff).toNat 2000 60000000 &&
  (decide (mains = 0) || (within (t.regFld Reg.seqCfg 0 17) 50 100000 && within dwell 10000 600000000))

/-- Reactions and margins: R302, R310, R313, R318. -/
def State.rulesReact (t : State) (r : Role) : Bool :=
  let act := t.regFld Reg.reactSrc 0 2
  let mask := t.regFld Reg.reactSrc 8 8
  let casc := t.reg Reg.reactCasc
  decide (act ≠ 3) && (decide (act = 1) == decide (mask ≠ 0)) &&
  decide (fld casc 4 2 ≠ 3) && decide (fld casc 2 2 ≤ 1) && decide (fld casc 0 2 ≤ 1) &&
  (decide (r = .mst) || decide (casc = 0)) &&
  allUpTo 8 (fun m =>
    let g := t.reg (Reg.mrgCfg m)
    if bit g 8 then
      let c := fld g 0 5
      decide (t.rkind c = .seq) && decide (t.regFld (Reg.chRailCfg c) 16 5 = c) && decide (r ≠ .stk) &&
        allUpTo 8 (fun j => decide (j = m) || decide (t.mrgCh j ≠ some c))
    else decide (g = 0) && decide (t.reg (Reg.mrgCode m) = 0))

/-- A heat source's limits are in order: T_WARN < T_CRIT. -/
def limsOk (w : Word) : Bool := decide (sfld w 0 16 < sfld w 16 16)

/-- Scheduler: R395, R400, R409, R413. -/
def State.rulesSched (t : State) (r : Role) : Bool :=
  let used := (List.range 64).filter fun e => t.regBit (Reg.schedLCfg e) 31
  let key (e : Nat) : Nat := t.regFld (Reg.schedLCfg e) 24 5 * 32 + t.regFld (Reg.schedLCfg e) 16 5
  let cfg := t.reg Reg.schedCfg
  let dly := t.regFld Reg.schedZxcfg 0 11
  allUpTo 64 (fun e => decide (t.regFld (Reg.schedLCfg e) 16 5 < 24)) &&
  used.all (fun e =>
    let node := t.regFld (Reg.schedLCfg e) 24 5
    decide (t.regFld (Reg.schedLW e) 0 24 ≠ 0) && decide (t.regFld (Reg.schedLCfg e) 0 10 ≤ 1000) &&
    used.all (fun f => decide (f = e) || decide (key f ≠ key e)) &&
    (decide (r ≠ .sgl) || decide (node = 0)) &&
    (decide (r ≠ .mst) || decide (node ≤ t.regFld Reg.ridgeCfg 0 5)) &&
    (decide (node ≠ 0) || decide (t.rkind (t.regFld (Reg.schedLCfg e) 16 5) = .budg))) &&
  decide (fld cfg 1 2 ≤ 1) && decide (dly ≤ 2000) &&
  (!bit cfg 0 || (within (fld cfg 16 11) 200 2000 && within (fld cfg 8 8) 1 255)) &&
  (decide (t.regFld Reg.schedHeat 0 20 = 0) ||
    ((!bit cfg 3 || limsOk (t.reg Reg.schedDieLim)) &&
      allUpTo 4 (fun j =>
        let c := t.reg (Reg.schedHsCh j)
        !bit c 31 || (decide (fld c 0 5 < 24) && decide (t.chKind (fld c 0 5) = 3) && limsOk (t.reg (Reg.schedHsLim j)))))) &&
  allUpTo 24 (fun n =>
    let p := t.reg (Reg.schedRailPh n)
    !bit p 31 ||
      (decide (t.rkind n = .budg) && decide (fld p 24 5 < 24) && decide (t.chKind (fld p 24 5) = 2) &&
        decide (fld p 16 5 < 24) && decide (t.cmpMode (fld p 16 5) false ≠ 0)))

/-- Ridge: R393. -/
def State.rulesRidge (t : State) (r : Role) : Bool :=
  let c := t.reg Reg.ridgeCfg
  let maxNode := fld c 0 5
  let prefNode := fld c 16 5
  let prefSrc := fld c 14 2
  let loss := fld c 12 2
  decide (prefSrc ≠ 3) && decide (loss ≠ 3) &&
  (decide (r ≠ .mst) || (decide (maxNode ≠ 0) && decide (prefSrc = 0) && decide (prefNode = 0) && decide (loss = 0))) &&
  (decide (r ≠ .slv) || (decide (maxNode = 0) && !bit c 8 && !bit c 9)) &&
  (decide (prefSrc ≠ 1) || decide (prefNode ≠ 0)) &&
  (decide (prefSrc ≠ 2) || allUpTo 5 (fun n => !t.gpioOut n)) &&
  (!bit c 9 || !allUpTo 16 (fun i => decide (t.reg (Reg.ridgeAllowLo i) = 0) && decide (t.reg (Reg.ridgeAllowHi i) = 0)))

/-- Pair: R438. -/
def State.rulesPair (t : State) (pair : Bool) : Bool :=
  !pair ||
    (allUpTo 24 (fun n =>
      !t.hasEn n ||
        (decide (t.arb n ≠ 3) && (decide (t.arb n ≠ 0) || (decide (t.enMap n = 3) && t.guardEn)))) &&
      (!t.guardEn || (decide (t.gpioFn 6 = 6) && decide (t.gpioFn 7 = 6))))

/-- Stack units and ports: R476. -/
def State.rulesStack (t : State) (r : Role) : Bool :=
  if r = .stk then
    within (t.regFld Reg.stackUcfg 16 16) 50 5000 && within (t.regFld Reg.stackUcfg 8 8) 2 200 &&
      within (t.regFld Reg.stackBalPer 0 16) 10 60000
  else
    allUpTo 2 (fun p =>
      let c := t.reg (Reg.stackPCfg p)
      let m := fld c 0 2
      decide (m ≠ 3) && decide (fld c 8 6 ≤ 48) && (decide (m ≠ 2) || decide (fld c 8 6 ≤ 1)) &&
        (decide (m = 0) || decide (fld c 24 8 ≠ 0)))

/-- Every content rule on the image's values. -/
def State.contentRules (t : State) (r : Role) (pair : Bool) : Bool :=
  t.rulesPins r pair && t.rulesSrc r && t.rulesHif r && allUpTo 24 (t.rulesCh r) && t.rulesScan r && allUpTo 24 t.rulesRailCodes &&
  (!r.isRail || (allUpTo 24 t.rulesRail && t.rulesSeq)) && t.rulesReact r && t.rulesSched r && t.rulesRidge r &&
  t.rulesPair pair && t.rulesStack r

/-! ### Fabric rules (code 0x9, R190, R195) -/

/-- The cells that the battens of cell c name, other than c itself. -/
def State.cellNext (s : State) (c : Nat) : List Nat :=
  (([0, 1, 2, 3].map (s.cellIn c)).filter (0xC0 ≤ ·)).map (· - 0xC0) |>.filter (· ≠ c)

/-- Cells on the longest path that ends at cell c, up to the fuel; a TIMER cell ends the trace and is not counted. -/
def State.cellDepth (s : State) : Nat → Nat → Nat
  | 0, _ => 0
  | f + 1, c => if s.cellSel c = 2 then 0 else 1 + ((s.cellNext c).map (s.cellDepth f)).foldl max 0

/-- Depth of the cone of REACT sink k; 5 stands for more than four, a cycle among them. -/
def State.coneDepth (s : State) (k : Nat) : Nat :=
  if s.sinkSrc k < 0xC0 then 0 else s.cellDepth 5 (s.sinkSrc k - 0xC0)

/-- `MAX_DEPTH` (R195). -/
def State.maxDepth (s : State) : Nat := ((List.range 24).map s.coneDepth).foldl max 0

/-- The role lists the sink (Table 5-13). -/
def sinkRole (r : Role) (k : Nat) : Bool :=
  if k ≤ 0x23 then true
  else if k < 0x28 then false
  else if k < 0x38 then true
  else if k < 0x48 then decide (r = .mst) || decide (r = .slv)
  else if k = 0x48 then decide (r = .sgl) || decide (r = .mst)
  else decide (k = 0x49)

/-- Every fabric rule but the reserved-field one, which the mask check gives. -/
def State.fabricRules (t : State) (r : Role) : Bool :=
  allUpTo 80 (fun k => sinkRole r k || !t.sinkUsed k) &&
  allUpTo 8 (fun g => t.gpioFab g == t.sinkUsed (0x28 + g)) &&
  allUpTo 64 (fun c =>
    let cfg := t.reg (Reg.fabCellCfg c)
    decide (fld cfg 14 2 ≠ 3) && !(decide (fld cfg 14 2 = 2) && decide (fld cfg 12 2 = 0)) && decide (fld cfg 8 3 ≤ 4)) &&
  allUpTo 24 (fun k => decide (t.coneDepth k ≤ 4))

end Sys2Proof.Machine
end

