-- ==== Sys2Proof/Machine/Log.lean ====
section
/-! DEFINITION. MRAM, the log writer, the history ring, the counters and the windows
(spec/10_first_fault_log_and_counters.md R327 to R357). -/

namespace Sys2Proof.Machine

/-! ### MRAM words (R327 to R329, R352) -/

/-- The MRAM has no contents at an address that nothing has written: it reads 0 (log entry 2). -/
def mramDflt (_ : Nat) : Word := 0

/-- An MRAM word as stored. -/
def State.mread (s : State) (a : Nat) : Word := Store.read mramDflt s.nvm.mram a

/-- The word has an uncorrectable ECC error. -/
def State.mbad (s : State) (a : Nat) : Bool := s.nvm.bad.contains a

/-- A word write: atomic, and it makes the word's ECC good (R328). -/
def State.mwrite (s : State) (a : Nat) (w : Word) : State :=
  s.modNvm fun v => { v with mram := Store.write mramDflt v.mram a w, bad := v.bad.erase a }

/-- A word as a window shows it: 0 for an uncorrectable word and for the private region (R352, R518). -/
def State.mshow (s : State) (a : Nat) : Word :=
  if s.mbad a || (decide (0x15C50 ≤ a) && decide (a < 0x16000)) then 0 else s.mread a

/-- n consecutive words. -/
def State.mwords (s : State) (a n : Nat) : List Word := (List.range n).map fun i => s.mread (a + 4 * i)

/-- Any of n consecutive words is uncorrectable. -/
def State.mbadIn (s : State) (a n : Nat) : Bool := s.nvm.bad.any fun b => decide (a ≤ b) && decide (b < a + 4 * n)

/-! ### Sequence numbers and the log index (R334, R336, R340) -/

/-- On 24 bits, x is later than y: a difference of 1 to 2^23 (R336). -/
def later24 (x y : Nat) : Bool :=
  let d := (x + 2 ^ 24 - y % 2 ^ 24) % 2 ^ 24
  decide (0 < d) && decide (d ≤ 2 ^ 23)

/-- The latest of a list of sequence numbers. -/
def newest24 : List Nat → Option Nat
  | [] => none
  | x :: t => some (t.foldl (fun a b => if later24 b a then b else a) x)

/-- The number after a sequence number. -/
def next24 (x : Nat) : Nat := (x + 1) % 2 ^ 24

/-- Commit-word address of a slot or ring entry. -/
def commitAddr (k : LogJobKind) (slot : Nat) : Nat :=
  match k with
  | .record => 0x10000 + 0x200 * slot + 0x1FC
  | .hist => 0x10400 + 0x20 * slot + 0x1C

/-- Byte address of word 0 of a slot or entry. -/
def entryBase (k : LogJobKind) (slot : Nat) : Nat :=
  match k with
  | .record => 0x10000 + 0x200 * slot
  | .hist => 0x10400 + 0x20 * slot

/-- Slots of a ring. -/
def ringSize : LogJobKind → Nat
  | .record => 2
  | .hist => 64

/-- Sequence number the commit word of a slot carries. -/
def State.slotSeq (s : State) (k : LogJobKind) (slot : Nat) : Nat := fld (s.mread (commitAddr k slot)) 0 24

/-- The index of a ring. -/
def State.logIdx (s : State) : LogJobKind → LogIndex
  | .record => s.nvm.recIdx
  | .hist => s.nvm.histIdx

/-- Change the index of a ring. -/
def State.modIdx (s : State) (k : LogJobKind) (f : LogIndex → LogIndex) : State :=
  s.modNvm fun v =>
    match k with
    | .record => { v with recIdx := f v.recIdx }
    | .hist => { v with histIdx := f v.histIdx }

/-- The index without a slot: the newest number is found again among the rest (R336). -/
def State.idxInvalidate (s : State) (k : LogJobKind) (slot : Nat) : State :=
  s.modIdx k fun x =>
    let v := x.valid.filter (· ≠ slot)
    { x with valid := v, newest := newest24 (v.map (s.slotSeq k)) }

/-- The index after a commit. -/
def State.idxCommit (s : State) (k : LogJobKind) (slot seq : Nat) : State :=
  s.modIdx k fun x => { x with valid := slot :: x.valid.filter (· ≠ slot), newest := some seq }

/-! ### Captures (R330 to R333, R338, R339) -/

/-- Codes of Table 10-4. -/
inductive FaultCode where
  | edge | rampTimeout | adopt | guard | phaseOpen
  deriving DecidableEq, Repr

/-- `CODE` of a fault. -/
def FaultCode.code : FaultCode → Nat
  | .edge => 1 | .rampTimeout => 2 | .adopt => 3 | .guard => 4 | .phaseOpen => 5

/-- A fault event as the sequencer counts it: rail, cause code and rail state at the event. -/
structure FaultEv where
  rail : Nat
  code : FaultCode
  st   : RailState
  deriving DecidableEq, Repr

/-- The `CAUSE` word of a fault (R333). -/
def State.causeW (s : State) (e : FaultEv) : Word :=
  pack [(e.code.code, 24, 4), (e.rail, 16, 5), (s.sense e.rail, 8, 5), (s.regFld (Reg.reactRailCfg e.rail) 0 2, 4, 2),
    (e.st.code, 0, 3)]

/-- Body words 0 to 125 of a record, as the fields stand in the state before the capture cycle (R331, Table 10-3). -/
def State.recordBody (s : State) (cause : Word) (extra : Nat) : List Word :=
  [0x46460180#32, cause, s.tb.now, s.tb.up.setWidth 32, (s.tb.up >>> 32).setWidth 32, s.tb.epoch,
    w32 (fld s.sysRoleW 0 16), s.seqStatW, s.img.runVer, s.rst.cause, s.supplyW, w32 (min extra 0xFF), 0, 0, 0, 0] ++
  (railNums.map fun n => s.reg (Reg.resCh n)) ++
  (railNums.map s.railStatW) ++
  (railNums.map s.cmpStatW) ++
  (railNums.map s.reactStatW) ++
  ((List.range 8).map s.mrgStatW) ++
  [s.srcStatW, s.reg Reg.reactEvt, s.sysstatW, s.enlvlW, 0, 0]

/-- `DROP_CNT` advances (R330). -/
def State.dropCapture (s : State) : State := s.modNvm fun v => { v with dropCnt := min 0xFF (v.dropCnt + 1) }

/-- The log writer is in block reset (R144). -/
def State.logwBusy (s : State) : Bool := s.rst.busy.any fun b => decide (b.1 = 4)

/-- A record capture has not committed or been abandoned. -/
def State.recBusy (s : State) : Bool :=
  s.nvm.buf.any (fun c => decide (c.kind = .record)) ||
    (match s.nvm.job with | some j => decide (j.kind = .record) | none => false)

/-- R338, R339: a history entry of a fault of rail n; `pre` is the state before the capture cycle. A capture that finds the
buffer full counts in `DROP_CNT` only. -/
def State.captureHistory (s pre : State) (e : FaultEv) : State :=
  let n := e.rail
  if pre.srcFault then s
  else if s.logwBusy then s.dropCapture
  else
    let up := pre.tb.up.toNat
    let (last, sup) := s.nvm.lastHist.getD n (none, 0)
    let early := match last with | some t => decide (up < t + 100000) | none => false
    if early then s.modNvm fun v => { v with lastHist := v.lastHist.set n (last, min 0xFFFF (sup + 1)) }
    else if 8 ≤ (s.nvm.buf.filter fun c => decide (c.kind = .hist)).length then s.dropCapture
    else
      let ch := pre.sense n
      let words := [pre.causeW e, pre.tb.now, pre.tb.up.setWidth 32, (pre.tb.up >>> 32).setWidth 32, pre.tb.epoch,
        pre.reg (Reg.resCh ch), w32 (sup * 65536 + fld (pre.cmpStatW ch) 0 16)]
      s.modNvm fun v =>
        { v with buf := v.buf ++ [{ kind := .hist, words := words }], lastHist := v.lastHist.set n (some up, 0) }

/-- R330: the record of the first fault, rail n, with the count of other faults of its cycle. A diverted capture becomes a
history entry and is no dropped capture. The record waits for an entry in progress, not for the entries behind it (R335). -/
def State.captureRecord (s pre : State) (e : FaultEv) (extra : Nat) : State :=
  if pre.srcFault then s
  else if s.logwBusy then s.dropCapture
  else if s.recBusy || (s.regBit Reg.sysLogcfg 0 && !s.nvm.recIdx.valid.isEmpty) then s.captureHistory pre e
  else s.modNvm fun v =>
    { v with buf := { kind := .record, words := pre.recordBody (pre.causeW e) extra } :: v.buf }

/-! ### The writer (R329, R334, R335, R340) -/

/-- Start the next waiting capture; none starts while a clear waits (R348). -/
def State.logStart (s : State) : State :=
  match s.nvm.job, s.nvm.buf with
  | none, c :: rest =>
    if s.nvm.clrLog || !s.nvm.clrCnt.isEmpty || s.logwBusy then s
    else
      let idx := s.logIdx c.kind
      let seq := idx.next
      let slot := seq % ringSize c.kind
      let base := entryBase c.kind slot
      let body := match c.kind with | .record => c.words ++ [crc32 (wordBytes c.words)] | .hist => c.words
      let todo := (commitAddr c.kind slot, (0 : Word)) ::
        (body.zipIdx.map fun (w, i) => (base + 4 * i, w))
      let mark := match c.kind with | .record => 0xA5 | .hist => 0x5B
      (s.modIdx c.kind fun x => { x with next := next24 seq }).modNvm fun v =>
        { v with buf := rest, job := some { kind := c.kind, seq := seq, todo := todo,
                                            commit := (commitAddr c.kind slot, w32 (mark * 2 ^ 24 + seq)) } }
  | _, _ => s

/-- One word of the record or entry in progress; the commit word is RECORD_COMMIT's and HISTORY_COMMIT's. -/
def State.logWord (s : State) : State :=
  let s := s.logStart
  match s.nvm.job with
  | some j =>
    match j.todo with
    | (a, w) :: rest =>
      let s := (s.mwrite a w).modNvm fun v => { v with job := some { j with todo := rest } }
      if a = j.commit.1 then s.idxInvalidate j.kind (j.seq % ringSize j.kind) else s
    | [] => s
  | none => s

/-- The writer's progress in one microsecond: five word writes of 200 ns (R328). -/
def State.logTick (s : State) : State := s.logWord.logWord.logWord.logWord.logWord

/-- Commit the job of a kind, when its body is complete. -/
def State.logCommit (s : State) (k : LogJobKind) : State :=
  match s.nvm.job with
  | some j =>
    if j.kind = k ∧ j.todo = [] then
      let s := (s.mwrite j.commit.1 j.commit.2).idxCommit k (j.seq % ringSize k) j.seq
      s.modNvm fun v =>
        match k with
        | .record => { v with job := none, recNew := true }
        | .hist => { v with job := none, histNew := true }
    else s
  | none => s

/-- RECORD_COMMIT (R334). -/
def execRecordCommit (s : State) : Out := ok (s.logCommit .record)

/-- HISTORY_COMMIT (R340). -/
def execHistoryCommit (s : State) : Out := ok (s.logCommit .hist)

/-- Abandon the write in progress and discard the buffers; `DROP_CNT` advances for each waiting capture (R341, R357). -/
def State.logAbandon (s : State) : State :=
  let n := s.nvm.buf.length
  s.modNvm fun v => { v with job := none, buf := [], dropCnt := min 0xFF (v.dropCnt + n) }

/-! ### Counters (R343 to R347) -/

/-- The counters of an index, in MRAM order. -/
inductive CounterKind where
  | warn | fault | retry | on
  deriving DecidableEq, Repr

/-- Place of a counter in the shadow. -/
def counterIdx (n : Nat) (k : CounterKind) : Nat :=
  4 * n + (match k with | .warn => 0 | .fault => 1 | .retry => 2 | .on => 3)

/-- MRAM address of a counter. -/
def counterAddr (i : Nat) : Nat := 0x14000 + 4 * i

/-- A counter's value. -/
def State.counter (s : State) (i : Nat) : Word := s.nvm.cnt.getD i 0

/-- An event advances a counter by one and stops at the largest value (R344, R346); a SHADOW counts nothing (R434). -/
def State.countEvent (s : State) (n : Nat) (k : CounterKind) : State :=
  let i := counterIdx n k
  let v := (s.counter i).toNat
  if !s.rail || s.isShadow || 24 ≤ n || v = 0xFFFFFFFF then s
  else s.modNvm fun x =>
    { x with cnt := x.cnt.set i (w32 (v + 1)), dirty := i :: x.dirty.filter (· ≠ i),
             satEvt := x.satEvt || decide (v = 0xFFFFFFFE) }

/-- Write every changed counter word (R345). -/
def State.flushCounters (s : State) : State :=
  (s.nvm.dirty.foldl (fun t i => t.mwrite (counterAddr i) (t.counter i)) s).modNvm fun v => { v with dirty := [] }

/-- The CORE domain is out of reset: no reset of L0 to L2 is in progress, or its CORE step has been taken (R128). -/
def State.coreOut (s : State) : Bool :=
  match s.rst.run with
  | some r => decide (r.level = .l3) || decide (1 ≤ s.rst.domains)
  | none => true

/-- COUNTER_FLUSH (R345): at each 1,000 ms of the free-running 1 ms divider. The words of records and entries come first (R329), and
after a reset the flush waits for the CORE release (R357). The log writer in block reset refuses the flush, and the words wait for the next
flush tick (R144). -/
def execCounterFlush (s : State) : Out :=
  if s.nvm.flushMs < 1000 || s.nvm.job.isSome || !s.nvm.buf.isEmpty || !s.coreOut || !s.coreRuns then ok s
  else
    let t := s.modNvm fun v => { v with flushMs := v.flushMs - 1000 }
    ok (if s.logwBusy then t else t.flushCounters)

/-! ### Source loss (R341, R342) -/

/-- Marker slot address of an epoch. -/
def markAddr (e : Word) : Nat := 0x14400 + 4 * (e.toNat % 512)

/-- The marker word of the present epoch and uptime (R342). -/
def State.markWord (s : State) : Word :=
  pack [(1, 31, 1), (s.tb.epoch.toNat / 512, 24, 7), (min 0xFFFFFF (s.tb.up.toNat / 100000), 0, 24)]

/-- Write the marker, at the first edge of the epoch and then once per second of `TB_UP` at most. -/
def State.writeMarker (s : State) : State :=
  let up := s.tb.up.toNat
  let due := match s.nvm.markAt with | none => true | some t => decide (t + 1000000 ≤ up)
  if due then (s.mwrite (markAddr s.tb.epoch) s.markWord).modNvm fun v => { v with markAt := some up } else s

/-- What a rising edge of `SRC_FAULT` does to the log writer (R341). -/
def State.logSrcEdge (s : State) : State := (s.logAbandon.modNvm fun v => { v with abandon := true }).writeMarker.flushCounters

/-- `LOG_MARK` (R342): the marker word when its slot matches the present epoch. -/
def State.logMarkW (s : State) : Word :=
  let w := s.mshow (markAddr s.tb.epoch)
  if bit w 31 && decide (fld w 24 7 = s.tb.epoch.toNat / 512 % 128) then w else 0

/-! ### Rebuild (R336, R337, R347) -/

/-- A slot or entry is valid (R334, R340): no uncorrectable word, its commit mark, and a record's CRC. -/
def State.slotValid (s : State) (k : LogJobKind) (slot : Nat) : Bool :=
  let base := entryBase k slot
  let w := s.mread (commitAddr k slot)
  match k with
  | .record =>
    !s.mbadIn base 128 && decide (fld w 24 8 = 0xA5) &&
      decide (s.mread (base + 0x1F8) = crc32 (wordBytes (s.mwords base 126)))
  | .hist => !s.mbadIn base 8 && decide (fld w 24 8 = 0x5B)

/-- Slots of a ring with an uncorrectable word. -/
def State.badSlots (s : State) (k : LogJobKind) : List Nat :=
  (List.range (ringSize k)).filter fun i => s.mbadIn (entryBase k i) (match k with | .record => 128 | .hist => 8)

/-- The index of a ring, read from MRAM. -/
def State.readIndex (s : State) (k : LogJobKind) : LogIndex :=
  let v := (List.range (ringSize k)).filter (s.slotValid k)
  let n := newest24 (v.map (s.slotSeq k))
  { valid := v, newest := n, next := match n with | some x => next24 x | none => 0 }

/-- Rebuild the index and load the counter shadow. In bench mode nothing is written and an uncorrectable counter reads all
ones. The flag says that ECC2 is due. -/
def State.logRebuild (s : State) : State × Bool :=
  let bench := s.boot.bench
  let badR := s.badSlots .record
  let badH := s.badSlots .hist
  let badC := (List.range 96).filter fun i => s.mbad (counterAddr i)
  let recI := s.readIndex .record
  let histI := s.readIndex .hist
  let cnt := (List.range 96).map fun i =>
    if s.mbad (counterAddr i) then (if bench then 0xFFFFFFFF#32 else 0) else s.mread (counterAddr i)
  let s := s.modNvm fun v => { v with recIdx := recI, histIdx := histI, cnt := cnt, dirty := [], rebuilt := true }
  if bench then (s, false)
  else
    let s := badR.foldl (fun t i => t.mwrite (commitAddr .record i) 0) s
    let s := badH.foldl (fun t i => t.mwrite (commitAddr .hist i) 0) s
    let s := badC.foldl (fun t i => t.mwrite (counterAddr i) 0) s
    let badL := !badR.isEmpty || !badH.isEmpty
    (s.modNvm fun v => { v with eccFix := v.eccFix || badL, cntEcc := v.cntEcc || !badC.isEmpty }, badL || !badC.isEmpty)

/-! ### Clearing (R348) -/

/-- A write of `LOG_CTRL`: from the service port above VIEW, with the key. -/
def State.logCtrlWrite (s : State) (p : Port) (v : Word) : State :=
  if p = .svc ∧ s.svc.level ≠ .view ∧ fld v 16 16 = 0x6C0E then
    let rails := if bit v 5 then railNums else [fld v 0 5].filter (· < 24)
    let idx := if bit v 8 then rails.flatMap fun n => [4 * n, 4 * n + 1, 4 * n + 2, 4 * n + 3] else []
    s.modNvm fun x => { x with clrLog := x.clrLog || bit v 9, clrCnt := idx ++ x.clrCnt.filter fun i => !idx.contains i }
  else s

/-- Apply the log clear: both commit words and all ring commit words to 0. -/
def State.clearLog (s : State) : State :=
  let s := [0, 1].foldl (fun t i => t.mwrite (commitAddr .record i) 0) s
  let s := (List.range 64).foldl (fun t i => t.mwrite (commitAddr .hist i) 0) s
  (s.modNvm fun v =>
    { v with recIdx := LogIndex.init, histIdx := LogIndex.init, dropCnt := 0, clrLog := false,
             lastHist := v.lastHist.map fun e => (e.1, 0) }).setReg Reg.reactFirst 0

/-- Apply the counter clear, in the shadow and in MRAM; `CLR_EVT` is set. -/
def State.clearCounters (s : State) : State :=
  let idx := s.nvm.clrCnt
  let s := idx.foldl
    (fun t i => (t.mwrite (counterAddr i) 0).modNvm fun v => { v with cnt := v.cnt.set i 0, dirty := v.dirty.filter (· ≠ i) }) s
  s.modNvm fun v => { v with clrCnt := [], clrEvt := true }

/-- LOG_CLEAR_APPLY (R348): once no record or entry is in progress. -/
def execLogClearApply (s : State) : Out :=
  if s.nvm.job.isSome || !s.coreRuns then ok s
  else
    let s := if s.nvm.clrLog then s.clearLog else s
    ok (if s.nvm.clrCnt.isEmpty then s else s.clearCounters)

/-! ### Windows (R349 to R352) -/

/-- The window context of a port; the chain reaches none. -/
def State.window (s : State) : Port → Window
  | .host => s.nvm.winHost
  | .svc => s.nvm.winSvc
  | .ridge => s.nvm.winRidge
  | .chain => Window.init

/-- Change the window context of a port. -/
def State.modWin (s : State) (p : Port) (f : Window → Window) : State :=
  s.modNvm fun v =>
    match p with
    | .host => { v with winHost := f v.winHost }
    | .svc => { v with winSvc := f v.winSvc }
    | .ridge => { v with winRidge := f v.winRidge }
    | .chain => v

/-- A write of `LOG_ADDR` (R350). -/
def State.logAddrWrite (s : State) (p : Port) (v : Word) : State :=
  let a := v.toNat
  s.modWin p fun w =>
    if 0x10000 ≤ a ∧ a ≤ 0x14FFF ∧ a % 4 = 0 then { w with logAddr := a } else { w with range := true }

/-- A read of `LOG_DATA` (R350, R352). -/
def State.logDataRead (s : State) (p : Port) : Word × State :=
  let a := (s.window p).logAddr
  (s.mshow a, s.modWin p fun w =>
    { w with logAddr := if a = 0x14FFC then 0x10000 else a + 4, logEcc2 := w.logEcc2 || s.mbad a })

/-- The address after an NVM window access. -/
def nvmNext (a : Nat) : Nat := if a = 0x1FFFC then 0 else a + 4

/-- A read of `NVM_DATA` (R351, R352). -/
def State.nvmDataRead (s : State) (p : Port) : Word × State :=
  let a := (s.window p).nvmAddr
  (s.mshow a, s.modWin p fun w => { w with nvmAddr := nvmNext a, nvmEcc2 := w.nvmEcc2 || s.mbad a })

/-- A write of `NVM_ADDR` sets bits [16:2]. -/
def State.nvmAddrWrite (s : State) (p : Port) (v : Word) : State :=
  s.modWin p fun w => { w with nvmAddr := fld v 2 15 * 4 }

/-- The address lies in the slot of the running image (R176). -/
def State.inRunSlot (s : State) (a : Nat) : Bool :=
  s.img.running.isSome && decide (a / 0x8000 = b2n s.img.runSlot)

/-- A port may write the partition of an address (R351, Table 16-2). -/
def State.nvmAllowed (s : State) (p : Port) (a : Nat) : Bool :=
  let slot := decide (a < 0x10000)
  let user := decide (0x16000 ≤ a)
  match p with
  | .host | .ridge => slot || user
  | .svc => (slot && decide (s.svc.level = .factory)) || (user && decide (s.svc.level ≠ .view))
  | .chain => false

/-- A write of `NVM_DATA` (R351): posted, refused or lost. -/
def State.nvmDataWrite (s : State) (p : Port) (v : Word) : State :=
  let w := s.window p
  let a := w.nvmAddr
  if w.posted.isSome then s.modWin p fun w => { w with ovr := true }
  else if s.srcFault || s.inRunSlot a || !s.nvmAllowed p a then
    s.modWin p fun w => { w with wref := true, nvmAddr := nvmNext a }
  else s.modWin p fun w => { w with posted := some (a, v), postAt := s.ticks, nvmAddr := nvmNext a }

/-- The posted word of a port enters MRAM (R351). -/
def State.nvmWriteDone (s : State) (p : Port) : State :=
  match (s.window p).posted with
  | some (a, v) =>
    let s := s.mwrite a v
    s.modWin p fun w => { w with posted := none }
  | none => s

/-! ### Status words (Tables 10-10, 10-11) -/

/-- `LOG_STAT` in a port's context. -/
def State.logStatW (s : State) (p : Port) : Word :=
  let v := s.nvm
  pack [(v.dropCnt, 24, 8), (b2n (v.job.isSome || !v.buf.isEmpty), 7, 1), (b2n s.srcFault, 6, 1),
    (b2n (s.window p).logEcc2, 5, 1), (b2n (s.window p).range, 4, 1), (b2n v.eccFix, 3, 1), (b2n v.abandon, 2, 1),
    (b2n v.histNew, 1, 1), (b2n v.recNew, 0, 1)]

/-- W1C of `LOG_STAT`. -/
def State.logStatWrite (s : State) (p : Port) (w : Word) : State :=
  (s.modNvm fun v =>
    { v with eccFix := v.eccFix && !bit w 3, abandon := v.abandon && !bit w 2, histNew := v.histNew && !bit w 1,
             recNew := v.recNew && !bit w 0 }).modWin p fun x =>
    { x with logEcc2 := x.logEcc2 && !bit w 5, range := x.range && !bit w 4 }

/-- `LOG_REC`. -/
def State.logRecW (s : State) : Word :=
  let x := s.nvm.recIdx
  pack [(b2n (x.valid.contains 1), 31, 1), (b2n (x.valid.contains 0), 30, 1),
    ((match x.newest with | some n => b2n (!(x.valid.contains 0 && decide (s.slotSeq .record 0 = n))) | none => 0), 29, 1),
    (b2n (s.regBit Reg.sysLogcfg 0 && !x.valid.isEmpty), 28, 1), (x.newest.getD 0, 0, 24)]

/-- `LOG_HIST`. -/
def State.logHistW (s : State) : Word :=
  pack [(s.nvm.histIdx.valid.length, 24, 7), (s.nvm.histIdx.newest.getD 0, 0, 24)]

/-- `NVM_STAT` in a port's context. -/
def State.nvmStatW (s : State) (p : Port) : Word :=
  let w := s.window p
  pack [(b2n w.posted.isSome, 7, 1), (b2n w.nvmEcc2, 5, 1), (b2n w.wref, 4, 1), (b2n w.ovr, 3, 1)]

/-- W1C of `NVM_STAT`. -/
def State.nvmStatWrite (s : State) (p : Port) (v : Word) : State :=
  s.modWin p fun w => { w with nvmEcc2 := w.nvmEcc2 && !bit v 5, wref := w.wref && !bit v 4, ovr := w.ovr && !bit v 3 }

/-- `CNT_SATk` (R346). -/
def State.cntSatW (s : State) (k : Nat) : Word := wordOf 32 fun i => decide (s.counter (32 * k + i) = 0xFFFFFFFF#32)

/-- `CNT_STAT`. -/
def State.cntStatW (s : State) : Word :=
  let v := s.nvm
  pack [(b2n v.clrEvt, 3, 1), (b2n (!v.dirty.isEmpty), 2, 1), (b2n v.cntEcc, 1, 1), (b2n v.satEvt, 0, 1)]

/-- W1C of `CNT_STAT`. -/
def State.cntStatWrite (s : State) (w : Word) : State :=
  s.modNvm fun v =>
    { v with clrEvt := v.clrEvt && !bit w 3, cntEcc := v.cntEcc && !bit w 1, satEvt := v.satEvt && !bit w 0 }

/-! ### Resets (R357) -/

/-- Window contexts and posted writes not yet started, at every level. -/
def State.resetWindows (s : State) : State :=
  s.modNvm fun v => { v with winHost := Window.init, winSvc := Window.init, winRidge := Window.init }

/-- The L1 column on the write in progress, the capture buffers and the flags. -/
def State.resetLogWriter (s : State) : State :=
  (s.modNvm fun v =>
    { v with dropCnt := 0, eccFix := false, abandon := false, histNew := false, recNew := false, satEvt := false, cntEcc := false,
             clrEvt := false }).logAbandon

/-- Table 10-12 at a reset level. -/
def State.resetLog (s : State) (l : Level) : State :=
  match l with
  | .l3 => s.resetWindows
  | .l0 =>
    s.resetWindows.modNvm fun v =>
      { v with job := none, buf := [], dropCnt := 0, eccFix := false, abandon := false, histNew := false, recNew := false,
               lastHist := List.replicate 24 (none, 0), rebuilt := false, flushMs := 0, satEvt := false, cntEcc := false,
               clrEvt := false, clrLog := false, clrCnt := [], dirty := [], markAt := none }
  | .l1 | .l2 =>
    s.resetWindows.resetLogWriter.modNvm fun v =>
      { v with lastHist := v.lastHist.map (fun e => (e.1, 0)), clrLog := false, clrCnt := [] }

end Sys2Proof.Machine
end

