-- ==== Sys2Proof/Machine/Image.lean ====
section
/-! DEFINITION. Reading, checking and selecting configuration images, and what the running image puts into the register file
(spec/05_configuration_image_and_thatch_fabric.md R160 to R180). -/

namespace Sys2Proof.Machine

/-! ### Parts of an image in a slot (R160 to R165) -/

/-- Base address of a slot: false A, true B. -/
def slotBase (b : Bool) : Nat := if b then 0x8000 else 0

/-- Word i of the slot. -/
def State.imgW (s : State) (b : Bool) (i : Nat) : Word := s.mread (slotBase b + 4 * i)

/-- One section: the word of the image it starts at, its header fields, its payload words and its CRC word. -/
structure Section where
  start   : Nat
  id      : Word
  payload : List Word
  crc     : Word
  deriving DecidableEq, Repr

/-- `TAG`. -/
def Section.tag (x : Section) : Nat := fld x.id 0 16

/-- `LIVE`. -/
def Section.live (x : Section) : Bool := bit x.id 16

/-- `CRITICAL`. -/
def Section.critical (x : Section) : Bool := bit x.id 17

/-- Payload length in bytes. -/
def Section.len (x : Section) : Nat := 4 * x.payload.length

/-- Its CRC matches (R163). -/
def Section.crcOk (x : Section) : Bool :=
  decide (x.crc = crc32 (wordBytes (x.id :: w32 x.len :: x.payload)))

/-- The walk of sections: n of them from word i up to the trailer at word e (R161). It reads each `SEC_LEN`; the code is 0x3 when one
is out of order and 0xE when one is uncorrectable (R171). -/
def State.walk (s : State) (b : Bool) (e : Nat) : Nat → Nat → Except Nat (List Section)
  | 0, i => if i = e then .ok [] else .error 0x3
  | n + 1, i =>
    let len := (s.imgW b (i + 1)).toNat
    if e < i + 2 then .error 0x3
    else if s.mbad (slotBase b + 4 * (i + 1)) then .error 0xE
    else if len % 4 = 0 ∧ 8 ≤ len ∧ i + 3 + len / 4 ≤ e then
      match s.walk b e n (i + 3 + len / 4) with
      | .ok t =>
        .ok ({ start := i, id := s.imgW b i, payload := s.mwords (slotBase b + 4 * (i + 2)) (len / 4),
               crc := s.imgW b (i + 2 + len / 4) } :: t)
      | .error c => .error c
    else .error 0x3

/-- The `SEC_CRC` check of sections in their order: 0xE at the first uncorrectable word, 0x5 at the first mismatch, else 0 (R171). -/
def State.sectionsCode (s : State) (b : Bool) : List Section → Nat
  | [] => 0
  | x :: t =>
    if s.mbadIn (slotBase b + 4 * x.start) (x.payload.length + 3) then 0xE
    else if !x.crcOk then 0x5
    else s.sectionsCode b t

/-- Registers and values of a payload, in order, or none when the records do not fit it (R168). -/
def records : Nat → List Word → Option (List (Nat × Word))
  | _, [] => some []
  | 0, _ :: _ => none
  | f + 1, c :: rest =>
    let n := fld c 16 16
    let a := fld c 0 16
    if 1 ≤ n ∧ n ≤ 2048 ∧ a % 4 = 0 ∧ n ≤ rest.length then
      match records f (rest.drop n) with
      | some t => some (((rest.take n).zipIdx.map fun (w, i) => (a + 4 * i, w)) ++ t)
      | none => none
    else none

/-! ### Section tags (R169, R170) -/

/-- A known tag (Table 5-4). -/
def knownTag (t : Nat) : Bool := within t 1 11 || within t 0x10 0x17

/-- A LIVE tag. -/
def liveTag (t : Nat) : Bool := within t 0x10 0x17

/-- Addresses a tag may carry for a role; LIVE sections also ask for LIVE access. -/
def tagRange (r : Role) (t a : Nat) : Bool :=
  match t with
  | 1 => within a 0x10 0xFF
  | 2 => within a 0x800 0xFFF
  | 3 => within a 0x1100 0x11FF
  | 4 => within a 0x1200 0x13FF
  | 5 => within a 0x1400 0x17FF
  | 6 => within a 0x1C00 0x1FFF
  | 7 => within a 0x2000 0x2543
  | 8 => within a 0x2800 0x29FF
  | 9 => within a 0x2A00 0x2BFF
  | 10 => within a 0x2C00 0x2FFF
  | 11 => within a 0x3000 0x37FF
  | _ =>
    within a 0x800 0xFFF || within a 0x1100 0x11FF ||
      (decide (r ≠ .stk) && (within a 0x1200 0x17FF || within a 0x1C00 0x1FFF))

/-- Presence of a tag in a role: 0 forbidden, 1 optional, 2 required. -/
def tagNeed (r : Role) (pair : Bool) (t : Nat) : Nat :=
  match t, r with
  | _, .none => 1
  | 1, _ | 2, _ => 2
  | 3, .stk => 1
  | 3, _ => 2
  | 4, .stk | 5, .stk | 6, .stk | 7, .stk | 8, .stk | 9, .stk => 0
  | 4, _ | 5, _ | 7, _ => 2
  | 6, _ => 1
  | 8, .sgl => 0
  | 8, _ => 2
  | 9, _ => if pair then 2 else 0
  | 10, .stk => 2
  | 10, .slv => 0
  | 10, _ => 1
  | 11, _ => 1
  | _, _ => 1

/-- One register value of a section follows R168 and R170. -/
def valueOk (r : Role) (t : Nat) (e : Nat × Word) : Bool :=
  tagRange r t e.1 &&
    (match regRow? e.1 with
     | some row => if liveTag t then decide (row.acc = .live) else row.img && decide (row.acc ≠ .live)
     | none => decide (e.2 = 0))

/-- The register values that the known sections carry, in the order of the records. -/
def carried (l : List Section) : List (Nat × Word) :=
  (l.filter fun x => knownTag x.tag).flatMap fun x => (records x.payload.length x.payload).getD []

/-- The structure rules of the sections (code 0x6); the values carried, when they hold. R168 says that no two records address the
same register: DESIGN CHOICE (log entry 13): a reserved address counts as one, so two records that both cover it with 0 break the rule
too. -/
def structureOf (r : Role) (pair : Bool) (l : List Section) : Option (List (Nat × Word)) :=
  let tags := l.map Section.tag
  let known := l.filter fun x => knownTag x.tag
  let recs := known.map fun x => (x.tag, records x.payload.length x.payload)
  let vals := carried l
  if l.all (fun x => decide (fld x.id 18 14 = 0)) && decide (List.Pairwise (fun x y : Nat => x < y) tags) &&
     l.all (fun x => knownTag x.tag || !x.critical) &&
     known.all (fun x => decide (tagNeed r pair x.tag ≠ 0)) &&
     [1, 2, 3, 4, 5, 7, 8, 9, 10].all (fun t => decide (tagNeed r pair t ≠ 2) || tags.contains t) &&
     known.all (fun x => x.live == liveTag x.tag) &&
     recs.all (fun e => match e.2 with | some v => v.all (valueOk r e.1) | none => false) &&
     decide ((vals.map fun e : Nat × Word => e.1).Nodup)
  then some vals else none

/-! ### The register file an image makes (R168) -/

/-- The register values of an image as a canonical file. -/
def imageFile (vals : List (Nat × Word)) : List (Nat × Word) :=
  vals.foldl (fun m e => Store.write regDflt m e.1 e.2) []

/-- Value of a register in an image: the one a record carries, else its reset value. -/
def ImageInfo.value (g : ImageInfo) (a : Nat) : Word := Store.read regDflt g.vals a

/-- No reserved field is set, in FAB registers or in all others (codes 0x9 and 0x8). -/
def masksOk (fab : Bool) (vals : List (Nat × Word)) : Bool :=
  vals.all fun e =>
    match regRow? e.1 with
    | some row => decide (within e.1 0x2000 0x2543 ≠ fab) || decide (e.2 &&& ~~~(w32 row.mask) = 0)
    | none => true

/-- R395 and R476: registers that the role's image must not carry. -/
def carriedOk (r : Role) (vals : List (Nat × Word)) : Bool :=
  vals.all fun e =>
    !(decide (r = .slv) && within e.1 0x1C00 0x1FFF && !within e.1 0x1F80 0x1FDF && (regRow? e.1).isSome) &&
    !(decide (r = .stk) && within e.1 0x2E00 0x2E7F) &&
    !(decide (r ≠ .stk) && within e.1 0x2C00 0x2C3F)

/-! ### The checks (R171, Table 5-5) -/

/-- Role of a header code; none: not valid in an image (R15). -/
def roleOf (c : Nat) : Role :=
  match c with
  | 1 => .sgl | 2 => .mst | 3 => .slv | 4 => .stk | _ => .none

/-- `ROLE_BLOCK` forbids a role (Table 1-2). -/
def State.roleBlocked (s : State) (r : Role) : Bool := s.fuseBit 1 r.bit

/-- `OEM_KEY_HASH`, 32 bytes (Table 16-9). -/
def State.oemHash (s : State) : List Byte := wordBytes ((List.range 8).map fun i => s.fuseW (8 + i))

/-- No bit of `OEM_KEY_HASH` is programmed. -/
def State.oemUnprogrammed (s : State) : Bool := (List.range 8).all fun i => decide (s.fuseW (8 + i) = 0)

/-- R166: the key is accepted; the flag says under the OPEN-lifecycle exception. -/
def State.keyAccepted (s : State) (key : List Byte) : Option Bool :=
  if s.oemUnprogrammed then (if s.lifecycle = 0 then some true else none)
  else if sha256 key = s.oemHash then some false else none

/-- The values an image puts into an otherwise empty register file, with the fuse shadow in place. -/
def State.trial (s : State) (vals : List (Nat × Word)) : State := { s with regs := imageFile vals }

/-- The key of the trailer, which starts at word e (R165). -/
def State.keyBytes (s : State) (b : Bool) (e : Nat) : List Byte := wordBytes (s.mwords (slotBase b + 4 * (e + 1)) 16)

/-- What the device keeps of an image in a slot with role r and pair flag `pair`, trailer at word e and these sections. -/
def State.imageOf (s : State) (b : Bool) (e : Nat) (r : Role) (pair : Bool) (secs : List Section) : ImageInfo :=
  { role := r, pair := pair, version := s.imgW b 3, svn := fld (s.imgW b 4) 8 8, oemTag := s.imgW b 6,
    imgTag := w32 (leAt (sha256 (wordBytes (s.mwords (slotBase b) (e + 17)))) 0 4),
    devKey := (s.keyAccepted (s.keyBytes b e)).getD false,
    secs := (secs.filter fun x => knownTag x.tag).map fun x => { tag := x.tag, live := x.live, len := x.len, crc := x.crc },
    vals := imageFile (carried secs) }

/-- The checks from ROLE_CODE to ROLE_BLOCK (codes 0x7 to 0xD) of an image whose structure holds; 0: it passes. KEY reads the key and
SIGNATURE the whole signed message and the signature. -/
def State.trustCode (s : State) (b : Bool) (e : Nat) (secs : List Section) : Nat :=
  let attr := s.imgW b 4
  let r := roleOf (fld attr 0 3)
  let pair := bit attr 3
  let vals := carried secs
  let t := s.trial vals
  let key := s.keyBytes b e
  let sig := wordBytes (s.mwords (slotBase b + 4 * (e + 17)) 16)
  if r = .none ∨ (pair ∧ r = .stk) then 0x7
  else if !(masksOk false vals && carriedOk r vals && t.contentRules r pair) then 0x8
  else if !(masksOk true vals && t.fabricRules r) then 0x9
  else if fld attr 8 8 < highBit (s.fuseW 3) then 0xA
  else if s.mbadIn (slotBase b + 4 * (e + 1)) 16 then 0xE
  else if (s.keyAccepted key).isNone then 0xB
  else if s.mbadIn (slotBase b + 4 * (e + 17)) 16 then 0xE
  else if !ecdsaVerify (ofBe (key.take 32)) (ofBe (key.drop 32)) (ofBe (sig.take 32)) (ofBe (sig.drop 32))
      (wordBytes (s.mwords (slotBase b) (e + 17))) then 0xC
  else if s.roleBlocked r then 0xD
  else 0

/-- The checks after the walk: HDR_CRC, SEC_CRC, STRUCTURE, then the rest (codes 0x4 to 0xD). -/
def State.bodyCode (s : State) (b : Bool) (e : Nat) (secs : List Section) : Nat :=
  let base := slotBase b
  if s.mbadIn base 8 then 0xE
  else if s.imgW b 7 ≠ crc32 (wordBytes (s.mwords base 7)) ∨ (s.imgW b 4 &&& 0xFFFF00F0#32) ≠ 0 ∨
          fld (s.imgW b 5) 8 24 ≠ 0 then 0x4
  else if s.sectionsCode b secs ≠ 0 then s.sectionsCode b secs
  else if s.mbad (base + 4 * e) then 0xE
  else if s.imgW b e ≠ 0x53494730#32 then 0x6
  else if (structureOf (roleOf (fld (s.imgW b 4) 0 3)) (bit (s.imgW b 4) 3) secs).isNone then 0x6
  else s.trustCode b e secs

/-- A slot's image against every check, in the order of Table 5-5; code 0: valid. An uncorrectable word stops the checks where the
order comes to read it (R171); within a check the words are read in the order of their addresses (DESIGN CHOICE, log entry 13). -/
def State.checkSlot (s : State) (b : Bool) : Nat × Option ImageInfo :=
  let base := slotBase b
  if s.mbad base then (0xE, none)
  else if s.imgW b 0 ≠ 0x5A574931#32 then (0x1, none)
  else if s.mbad (base + 4) then (0xE, none)
  else if fld (s.imgW b 1) 16 16 ≠ 1 then (0x2, none)
  else if s.mbad (base + 8) || s.mbad (base + 20) then (0xE, none)
  else
    let len := (s.imgW b 2).toNat
    if len % 4 ≠ 0 ∨ len < 184 ∨ 32768 < len then (0x3, none)
    else
      let e := (len - 132) / 4
      match s.walk b e (fld (s.imgW b 5) 0 8) 8 with
      | .error c => (c, none)
      | .ok secs =>
        let c := s.bodyCode b e secs
        if c ≠ 0 then (c, none)
        else (0, some (s.imageOf b e (roleOf (fld (s.imgW b 4) 0 3)) (bit (s.imgW b 4) 3) secs))

/-! ### Selection in stage 5 (R172) -/

/-- A slot counts as holding a correct `MAGIC` in the selection. -/
def State.magicOk (s : State) (b : Bool) : Bool :=
  !s.mbad (slotBase b) && !s.mbad (slotBase b + 12) && decide (s.imgW b 0 = 0x5A574931#32)

/-- `IMG_VER_A`, `IMG_VER_B`. -/
def State.slotVer (s : State) (b : Bool) : Word := if s.magicOk b then s.imgW b 3 else 0

/-- The first candidate. -/
def State.firstSlot (s : State) : Bool :=
  if s.magicOk false && s.magicOk true then decide ((s.slotVer false).toNat < (s.slotVer true).toNat)
  else s.magicOk true

/-- A slot's check in the selection: one whose `IMAGE_VERSION` is uncorrectable stops with 0xE. -/
def State.selectCheck (s : State) (b : Bool) : Nat × Option ImageInfo :=
  if s.mbad (slotBase b) || s.mbad (slotBase b + 12) then (0xE, none) else s.checkSlot b

/-- Put a slot's reject code and version into the bank. -/
def State.setRej (s : State) (b : Bool) (c : Nat) : State :=
  s.modImg fun g => if b then { g with rejB := BitVec.ofNat 4 c } else { g with rejA := BitVec.ofNat 4 c }

/-! ### Loading (R168, R173, R175, R202) -/

/-- The registers a level of reset returns: all at L0 and L1, the rows of the map marked for L2 or L3 else; the image's values
come back where the row is the image's (Table 4-6, R547). -/
def resetRow (l : Level) (r : RegRow) : Bool :=
  match l with
  | .l0 | .l1 => true
  | .l2 => r.atL2
  | .l3 => r.atL3

/-- Built-in stack defaults (R17, R202, R452, 6.8.1): AIN0 VOLT, AIN1 to AIN16 CELL at ×1/8 against the tap below, corner 1 kHz,
window 16, scan period 10,000 µs, wet check M = 16 at 10 µA with 1 ms and no bounds (R586, R223); EN0 PP and EN1 to EN15 ISINK; `COMM_TO` 500 ms,
`BAL_GAP` 1 ms, `BAL_PER` 1,000 ms (14.9.1). -/
def stackDefaults : List (Nat × Word) :=
  imageFile
    ([(Reg.sysEnmode0, 0xAAAAAAA9#32), (Reg.chCfg 0, 1#32), (Reg.chScanCfg, w32 10000),
      (Reg.chWetCfg, 0x0A100100#32), (Reg.stackUcfg, 0x01F40A00#32), (Reg.stackBalPer, w32 1000)] ++
     (List.range 16).map (fun i => (Reg.chCfg (i + 1), 0x00000104#32)) ++
     (List.range 17).map (fun i => (Reg.chFilt i, 0x0000000F#32)) ++
     (List.range 17).map (fun i => (Reg.chWetLim i, 0xFFFF0000#32)))

/-- The configuration values in force: the running image's, the stack defaults, or none. -/
def State.configFile (s : State) : List (Nat × Word) :=
  match s.img.running with
  | some g => g.vals
  | none => if s.role.stkDflt then stackDefaults else []

/-- A register the image sets, or a LIVE one. -/
def imageReg (a : Nat) : Bool :=
  match regRow? a with
  | some r => r.img || decide (r.acc = .live)
  | none => false

/-- Every configuration register takes the value of the configuration in force; other registers keep theirs. -/
def State.loadConfig (s : State) : State :=
  let kept := s.regs.filter fun e => !imageReg (e.1 % 0x10000)
  { s with regs := s.configFile.foldl (fun m e => Store.write regDflt m e.1 e.2) kept, live := [], liveImg := none }

/-- `SYS_IRQ_EN` takes `IRQ_INIT` of the configuration in force (Table 15-9). -/
def State.loadIrq (s : State) : State := s.setReg Reg.sysIrqEn (w32 (s.regFld Reg.sysHifCfg 16 15))

/-- What a reset level does to the register file and the pending LIVE writes (R180). -/
def State.resetRegs (s : State) (l : Level) : State :=
  let keep := s.regs.filter fun e =>
    match regRow? (e.1 % 0x10000) with
    | some r => !resetRow l r
    | none => true
  match l with
  | .l0 | .l1 => { s with regs := [], live := [], liveImg := none }
  | .l2 => ({ s with regs := keep } : State).loadConfig.loadIrq
  | .l3 => { s with regs := keep }

/-- `IMG_STAT` (Table 5-6). -/
def State.imgStatW (s : State) : Word :=
  let g := s.img
  let op := match g.op with | .none => 0 | .verify => 1 | .live => 2 | .full => 3
  let dev := match g.running with | some i => i.devKey | none => false
  pack [(g.err.toNat, 24, 4), (g.vrej.toNat, 20, 4), (op, 16, 3), (b2n dev, 11, 1), (b2n g.liveOk, 10, 1),
    (b2n g.verified, 9, 1), (b2n g.vslot, 8, 1), (b2n g.fallback, 2, 1), (b2n g.running.isSome, 1, 1), (b2n g.runSlot, 0, 1)]

/-- `IMG_SLOTSTAT` (Table 5-8). -/
def State.imgSlotW (s : State) : Word :=
  pack [(s.img.rejB.toNat, 20, 4), (s.img.rejA.toNat, 16, 4), (b2n (decide (s.img.rejB = 0)), 1, 1),
    (b2n (decide (s.img.rejA = 0)), 0, 1)]

/-- The IMG bank after L0 or L1 and before stage 5: the reject codes keep their last values (R175). -/
def Img.toReset (g : Img) : Img := { Img.init with rejA := g.rejA, rejB := g.rejB }

/-- The IMG bank at a reset level L0 to L2 (R175). At L3 a VERIFY goes on; `cancelOps` ends what R150 and R179 end at every level. -/
def State.resetImg (s : State) (l : Level) : State :=
  match l with
  | .l3 => s
  | .l2 => s.modImg fun g => { g with verified := false, liveOk := false, op := .none, err := 0, vrej := 0xF, bgchk := 0, reload := 0 }
  | .l1 | .l0 =>
    s.modImg fun g =>
      { g with verified := false, liveOk := false, op := .none, err := 0, vrej := 0xF, bgchk := 0, reload := 0 }

/-- A write of a word into the slot under VSLOT (R176): the verification no longer holds, and a VERIFY of it ends. -/
def State.imgSlotWritten (s : State) (a : Nat) : State :=
  if a < 0x10000 ∧ a / 0x8000 = b2n s.img.vslot then
    let ends := decide (s.img.op = .verify)
    let s := s.modImg fun g =>
      { g with verified := false, liveOk := false, vrej := if ends then 0xF else g.vrej, op := if ends then .none else g.op }
    if ends then s.modHif fun h => { h with irqImg := true } else s
  else s

/-- R178: the verified image differs from the running one in LIVE sections only. -/
def liveOkOf (run g : ImageInfo) : Bool :=
  let fixed (i : ImageInfo) := i.secs.filter fun x => !x.live
  decide (run.role = g.role) && (run.pair == g.pair) &&
  decide ((run.secs.filter (·.live)).map (·.tag) = (g.secs.filter (·.live)).map (·.tag)) &&
  decide ((fixed run).map (fun x => (x.tag, x.len, x.crc)) = (fixed g).map (fun x => (x.tag, x.len, x.crc)))

/-- A section of an image, by tag. -/
def ImageInfo.section? (g : ImageInfo) (t : Nat) : Option (Nat × Word) :=
  (g.secs.find? fun x => decide (x.tag = t)).map fun x => (x.len, x.crc)

/-- End of an `IMG_CTRL` operation: the IMG interrupt group latches (Table 15-5). -/
def State.imgOpEnd (s : State) : State := s.modHif fun h => { h with irqImg := true }

/-- The result of a command on `IMG_CTRL`. -/
def State.imgErr (s : State) (e : Nat) : State := s.modImg fun g => { g with err := BitVec.ofNat 4 e }

/-- VERIFY_DONE (R177): the VERIFY in progress completes. -/
def execVerifyDone (s : State) : Out :=
  if s.img.op ≠ .verify then ok s
  else
    let b := s.img.vslot
    let (c, g) := s.checkSlot b
    let lok := match g, s.img.running with | some i, some r => liveOkOf r i | _, _ => false
    let s := s.setRej b c
    let s := s.modImg fun x =>
      { x with vrej := BitVec.ofNat 4 c, verified := g.isSome, liveOk := lok, op := .none }
    ok s.imgOpEnd

/-- A VERIFY is accepted (R177). -/
def State.imgVerify (s : State) (b : Bool) : State :=
  if s.img.running.isSome ∧ s.img.runSlot = b then s.imgErr 3
  else s.modImg fun g => { g with err := 0, vslot := b, verified := false, liveOk := false, vrej := 0xF, op := .verify }

end Sys2Proof.Machine
end

