-- ==== Sys2Proof/Machine/Fabric.lean ====
section
/-! DEFINITION. The thatch fabric: sources, reed cells, sinks and their edges
(spec/05_configuration_image_and_thatch_fabric.md R184 to R197, R585). -/

namespace Sys2Proof.Machine

/-! ### Pins and sources (R187, Table 5-12) -/

/-- The GPIOs have their configured function: a role runs or is refused, stage 6 being complete (R39, R40); without VDDIO no output
drives (R70). -/
def State.gpioOn (s : State) : Bool :=
  s.supply.vddioOk && (s.running || decide (s.role.state = .refused))

/-- Level of GPIO n as `SYS_GPIO_IN` samples it: what the device drives, or the board's level (Table 2-13). -/
def State.gpioLevel (s : State) (n : Nat) : Bool :=
  let board := s.pins.gpio.getLsbD n
  if !s.gpioOn then board
  else
    match s.gpioFn n with
    | 2 => s.regBit Reg.sysGpioOut n
    | 3 => s.regBit Reg.sysGpioOut n && board
    | 4 => s.sinkBit (0x28 + n)
    | 5 => s.sinkBit (0x28 + n) && board
    | 6 => if n = 6 then s.pair.gpio6 else board
    | _ => board

/-- The partner is present: its last heartbeat ended at most 300 µs ago (13.1). -/
def State.partnerPresent (s : State) : Bool :=
  match s.pair.lastHb with
  | some t => decide (s.ticks ≤ t + 300)
  | none => false

/-- Any margin is active. -/
def State.anyMargin (s : State) : Bool := s.mrg.dacs.any fun d => decide (d.state ≠ .nominal)

/-- Present value of a level source below 0xC0; pulse sources read 0 here. -/
def State.srcLevel (s : State) (i : Nat) : Bool :=
  let paired := s.paired
  if i = 0x00 then false
  else if i = 0x01 then true
  else if i = 0x02 then s.srcFault
  else if i = 0x03 then decide (s.role.state ≠ .starting) && !s.supply.vddioOk
  else if i = 0x04 then s.clk.fallback
  else if i = 0x05 then !s.isRole .slv && s.pins.zx
  else if i = 0x07 then decide (s.reg Reg.schedPo ≠ 0)
  else if 0x08 ≤ i ∧ i ≤ 0x0E then decide (s.seq.state.code = i - 0x08)
  else if 0x10 ≤ i ∧ i ≤ 0x27 then s.cmpOut (i - 0x10) false
  else if 0x28 ≤ i ∧ i ≤ 0x3F then s.cmpOut (i - 0x28) true
  else if 0x40 ≤ i ∧ i ≤ 0x57 then
    let c := s.cmpCh (i - 0x40)
    c.wl && !(c.masked || s.marginOn (i - 0x40))
  else if 0x58 ≤ i ∧ i ≤ 0x6F then
    let c := s.cmpCh (i - 0x58)
    c.wh && !(c.masked || s.marginOn (i - 0x58))
  else if 0x70 ≤ i ∧ i ≤ 0x87 then decide (s.rstate (i - 0x70) = .on)
  else if 0x88 ≤ i ∧ i ≤ 0x9F then decide (s.rstate (i - 0x88) = .faulted)
  else if 0xA0 ≤ i ∧ i ≤ 0xA7 then s.gpioLevel (i - 0xA0)
  else if i = 0xA8 then !s.pins.wakeN
  else if i = 0xA9 then decide (s.reg Reg.cmpChkFail ≠ 0)
  else if i = 0xAA then s.anyMargin
  else if i = 0xAC then paired && (decide (s.pairShown = .solo) || decide (s.pairShown = .primary))
  else if i = 0xAD then
    paired && (decide (s.pairShown = .solo) || (decide (s.pairShown = .orphan) && !s.partnerPresent))
  else if i = 0xAE then s.isRole .slv && s.ridge.mlost
  else if i = 0xAF then s.isRole .mst && nodeNums.any fun n => (s.node n).bound && (s.node n).absent
  else false

/-- The fabric runs in this microsecond (R186, R196). -/
def State.fabRuns (s : State) : Bool := s.fab.run && !s.clk.gated && !s.pwr.doze

/-- The level sources as one number, bit i for source i. -/
def State.srcLevels (s : State) : Nat := (List.range 192).foldl (fun a i => if s.srcLevel i then a + 2 ^ i else a) 0

/-- A pulse-source event waits for the fabric's next cycle (R188); one within a stop of `CLK_FAB` is lost (R186). -/
def State.pulse (s : State) (i : Nat) : State := if s.fabRuns then s.modFab fun f => { f with pulses := f.pulses ++ [i] } else s

/-! ### Reed cells (R184, R185) -/

/-- Value of a cell's output by `OUT_SEL`. -/
def cellOut (sel : Nat) (c : Cell) : Bool := match sel with | 1 => c.ff | 2 => c.tout | _ => c.q

/-- Cell c of the fabric. -/
def State.cell (s : State) (c : Nat) : Cell := s.fab.cells.getD c Cell.init

/-- `TIMER_VAL`. -/
def State.cellN (s : State) (c : Nat) : Nat := s.regFld (Reg.fabCellTmr c) 0 16

/-- One cycle of the timer (R185). -/
def timerCycle (mode n : Nat) (l : Bool) (c : Cell) : Cell :=
  match mode with
  | 1 => if !l then { c with tcnt := 0, tout := false } else if n = 0 then { c with tout := true } else c
  | 2 => if n = 0 then { c with tout := l, tcnt := 0 } else if l then { c with tout := true, tcnt := 0 } else c
  | 3 =>
    if n = 0 then { c with tout := l && !c.l && !c.tout, tcnt := 0 }
    else if l && !c.l && !c.tout then { c with tout := true, tcnt := 0 } else c
  | _ => { c with tcnt := 0, tout := false }

/-- One cycle of cell k on the source values v. -/
def State.cellCycle (s : State) (v : BitVec 256) (k : Nat) : Cell :=
  let c := s.cell k
  let i (n : Nat) : Bool := v.getLsbD (s.cellIn k n)
  let cfg := s.reg (Reg.fabCellCfg k)
  let l := bit cfg (16 + 8 * b2n (i 3) + 4 * b2n (i 2) + 2 * b2n (i 1) + b2n (i 0))
  let en := match fld cfg 8 3 with | 0 => true | e => if e ≤ 4 then i (e - 1) else false
  { timerCycle (s.cellMode k) (s.cellN k) l c with q := l, ff := if en then l else c.ff, l := l }

/-- Value of sink k on the source values v, after `INV`. -/
def State.sinkValue (s : State) (v : BitVec 256) (k : Nat) : Bool := v.getLsbD (s.sinkSrc k) != s.sinkInv k

/-- A sink that acts on the rising edge (Table 5-13). -/
def edgeSink (k : Nat) : Bool := decide (k ≤ 0x22) || within k 0x30 0x47 || decide (k = 0x49)

/-- The edges of one cycle after R193: SYS_RESET discards the others, START with STOP gives STOP. -/
def settleEdges (l : List Nat) : List Nat :=
  if l.contains 0x20 then [0x20]
  else if l.contains 0x22 then l.filter (· ≠ 0x21)
  else l

/-- One `CLK_FAB` cycle on the level sources of the microsecond. -/
def State.fabCycle (s : State) (levels : Nat) : State :=
  let f := s.fab
  let now := f.pulses.filter fun i => !f.src.getLsbD i
  let take := now.eraseDups
  let rest := take.foldl (fun l i => l.erase i) f.pulses
  let outs := (List.range 64).foldl (fun a k => if cellOut (s.cellSel k) (s.cell k) then a + 2 ^ (192 + k) else a) 0
  let v := BitVec.ofNat 256 (levels + take.foldl (fun a i => a + 2 ^ i) 0 + outs)
  let cells := (List.range 64).map (s.cellCycle v)
  let sink := BitVec.ofNat 80 ((List.range 80).foldl (fun a k => if s.sinkValue v k then a + 2 ^ k else a) 0)
  let before (k : Nat) : Bool := if f.first then (if k < 0x20 then false else sink.getLsbD k) else f.sink.getLsbD k
  let up := settleEdges ((List.range 80).filter fun k => edgeSink k && sink.getLsbD k && !before k && s.sinkUsed k)
  s.modFab fun g =>
    { g with cells := cells, src := v, sink := sink, pulses := rest, first := false,
             edges := if up.isEmpty then g.edges else g.edges ++ [up] }

/-- Up to n cycles, ended early once a cycle changes nothing. -/
def State.fabCycles (levels : Nat) : Nat → State → State
  | 0, s => s
  | n + 1, s =>
    let t := s.fabCycle levels
    if t.fab = s.fab then s else State.fabCycles levels n t

/-- The stretch of comparator pulses has ended (R239). -/
def State.endStretch (s : State) : State :=
  s.modCmp fun c =>
    { c with ch := c.ch.map fun x => { x with fl := { x.fl with stretch := false }, fh := { x.fh with stretch := false } } }

/-- The 48 cycles of one microsecond; a stretched comparator pulse is seen once (R239). -/
def State.fabTick (s : State) : State :=
  if !s.fabRuns then s.endStretch
  else
    let levels := s.srcLevels
    let t := (s.fabCycle levels).endStretch
    State.fabCycles t.srcLevels 47 t

/-- A tick of the timers: each one whose base ticks now counts up to `TIMER_VAL` (R185). -/
def State.timerTick (s : State) (ms : Bool) : State :=
  if !s.fabRuns then s
  else s.modFab fun f =>
    { f with cells := f.cells.zipIdx.map fun (c, k) =>
        let n := s.cellN k
        let counts := match s.cellMode k with
          | 1 => c.l && decide (n ≠ 0)
          | 2 => c.tout && !c.l && decide (n ≠ 0)
          | 3 => c.tout && decide (n ≠ 0)
          | _ => false
        if counts && (ms || !s.regBit (Reg.fabCellCfg k) 11) then { c with tcnt := min n (c.tcnt + 1) } else c }

/-- FAB_TIMER_EXPIRY (R185): the timer of a cell has counted its N ticks, and its output changes. -/
def execFabTimerExpiry (k : Nat) (s : State) : Out :=
  let c := s.cell k
  let n := s.cellN k
  if !s.fabRuns || 64 ≤ k || n = 0 || c.tcnt ≠ n then ok s
  else
    ok (s.modFab fun f =>
      { f with cells := modAt f.cells k fun c =>
          match s.cellMode k with
          | 1 => { c with tout := true }
          | 2 | 3 => { c with tout := false, tcnt := 0 }
          | _ => c })

/-- A timer is running (R186). -/
def State.timerRuns (s : State) (k : Nat) : Bool :=
  let c := s.cell k
  decide (c.tcnt ≠ 0) || ((decide (s.cellMode k = 2) || decide (s.cellMode k = 3)) && c.tout)

/-! ### Starts and resets (R182, R197, R585) -/

/-- A rail-role image is loaded, so that the fabric has a configuration to run (R23). -/
def State.fabImage (s : State) : Bool := match s.img.running with | some g => decide (g.role ≠ .stk) | none => false

/-- The fabric starts or restarts: cells at their reset values, the next cycle a first cycle. The earlier L of a PULSE timer counts as
0, so that L = 1 in the first cycle is a rising edge (R185; DESIGN CHOICE, log entry 13). -/
def State.fabStart (s : State) : State :=
  s.modFab fun f =>
    { f with run := s.fabImage, guard := false, first := true, pulses := [], edges := [],
             cells := (List.range 64).map fun k => { Cell.init with ff := s.regBit (Reg.fabCellCfg k) 7 } }

/-- The fabric stops; sinks keep their levels (R183). -/
def State.fabStop (s : State) : State := s.modFab fun f => { f with run := false, pulses := [], edges := [] }

/-- The fabric in reset: everything 0. -/
def State.fabReset (s : State) : State := s.modFab fun f => { Fab.init with div := f.div }

/-! ### Edges waiting for their step -/

/-- Take the edges that pass p out of the first recorded cycle that has one. -/
def takeFrom (p : Nat → Bool) : List (List Nat) → Option (List Nat × List (List Nat))
  | [] => none
  | l :: t =>
    if l.any p then
      let rest := l.filter fun k => !p k
      some (l.filter p, if rest.isEmpty then t else rest :: t)
    else
      match takeFrom p t with
      | some (x, t') => some (x, l :: t')
      | none => none

/-- The edges due, and the state without them. -/
def State.takeEdges (s : State) (p : Nat → Bool) : Option (List Nat × State) :=
  match takeFrom p s.fab.edges with
  | some (l, t) => some (l, s.modFab fun f => { f with edges := t })
  | none => none

/-- FAB_IRQ_EDGE (R189): sets fabric interrupt bit n (R497). -/
def execFabIrqEdge (n : Nat) (s : State) : Out :=
  match s.takeEdges (· = 0x30 + n % 8) with
  | some (_, t) => ok (t.raise Reg.sysFabirq (n % 8))
  | none => ok s

/-! ### Status (Table 5-15) -/

/-- `FAB_CELLn_STAT`. -/
def State.cellStatW (s : State) (k : Nat) : Word :=
  let c := s.cell k
  pack [(c.tcnt, 16, 16), (b2n c.tout, 2, 1), (b2n c.ff, 1, 1), (b2n (cellOut (s.cellSel k) c), 0, 1)]

/-- `FAB_SRCVALk`. -/
def State.srcvalW (s : State) (k : Nat) : Word := wordOf 32 fun j => s.fab.src.getLsbD (32 * k + j)

/-- `FAB_SINKVALk`. -/
def State.sinkvalW (s : State) (k : Nat) : Word := wordOf 32 fun j => s.fab.sink.getLsbD (32 * k + j)

/-- `FAB_STAT`. -/
def State.fabStatW (s : State) : Word :=
  let used := ((List.range 64).filter fun c =>
    decide (s.reg (Reg.fabCellIn c) ≠ 0) || decide (s.reg (Reg.fabCellCfg c) ≠ 0) || decide (s.reg (Reg.fabCellTmr c) ≠ 0)).length
  pack [(used, 16, 8), (s.maxDepth, 8, 4), (b2n s.fab.guard, 1, 1), (b2n s.fabRuns, 0, 1)]

end Sys2Proof.Machine
end

