-- ==== Sys2Proof/Machine/Meas.lean ====
section
/-! DEFINITION. Scans, filters, results, temperatures, snapshots and the wet-board check
(spec/06_ladder_front_end_and_measurement.md R198 to R228). -/

namespace Sys2Proof.Machine

/-! ### Filters (R210 to R212) -/

/-- A channel of the measurement engine. -/
def State.measCh (s : State) (n : Nat) : MeasCh := s.meas.ch.getD n { filt := Filter.init, blank := 0 }

/-- Change a channel of the measurement engine. -/
def State.modMeasCh (s : State) (n : Nat) (f : MeasCh → MeasCh) : State := s.modMeas fun m => { m with ch := modAt m.ch n f }

/-- The filter of channel n restarts (R213); the published word stays. Warning counts return to 0 (R244). -/
def State.restartFilter (s : State) (n : Nat) : State :=
  (s.modMeasCh n fun c => { c with filt := Filter.init }).modCmpCh n fun c => { c with wlCnt := 0, whCnt := 0 }

/-- Every filter restarts. -/
def State.restartFilters (s : State) : State := (List.range 24).foldl State.restartFilter s

/-- `VALID` of channel n clears (R213, R216): the word, its temperature and its warnings. -/
def State.clearValid (s : State) (n : Nat) : State :=
  (((s.restartFilter n).setReg (Reg.resCh n) 0).setReg (Reg.chTemp n) 0).modCmpCh n fun c => { c with wl := false, wh := false }

/-- Samples of channel n are discarded for T_SET from now (R203). -/
def State.blank (s : State) (n : Nat) : State := s.modMeasCh n fun c => { c with blank := s.ticks + s.tSet n }

/-- A corrected code within the converter's limits (R200). -/
def satCode (c : Int) : Int := max (-32768) (min 32767 c)

/-- A sample at the limits is clipped (R200). -/
def clipped (c : Int) : Bool := decide (c ≤ -32768) || decide (32767 ≤ c)

/-- A sample in 2.5 µV, with the rectification of a CT channel (6.4.1). -/
def State.sample (s : State) (n : Nat) (code : Int) : Int :=
  let v := satCode code * attK (s.chAtt n)
  if s.chKind n = 2 ∧ s.regBit (Reg.chCfg n) 18 then max 0 v else v

/-- Boxcar mean A of m samples with sum S (R210). -/
def boxcarMean (sum : Int) (m : Nat) : Int := (8192 * sum + m) / (2 * m)

/-- IIR step with shift k (R211). -/
def iirStep (y : Option Int) (a : Int) (k : Nat) : Int :=
  match y with
  | none => a
  | some y => y + (a - y) / 2 ^ k

/-- Published value in 10 µV, saturated to 24 bits (R211). -/
def publishedValue (y : Int) : Int := max (-(2 ^ 23)) (min (2 ^ 23 - 1) ((y + 8192) / 16384))

/-- One output of a filter. -/
structure FiltOut where
  value  : Int
  settle : Bool
  clip   : Bool
  deriving DecidableEq, Repr

/-- A sample enters a filter with window n and IIR shift k: the filter after it and its output, if it gives one. -/
def Filter.take (f : Filter) (v : Int) (clip : Bool) (n k : Nat) : Filter × Option FiltOut :=
  let sum := f.sum + v
  let m := f.m + 1
  let cl := f.clip || clip
  if m < n ∧ !f.firstW then ({ f with sum := sum, m := m, clip := cl }, none)
  else
    let y := iirStep f.y (boxcarMean sum m) k
    let o : FiltOut := { value := publishedValue y, settle := decide (m < n), clip := cl }
    if m < n then ({ f with sum := sum, m := m, clip := cl, y := some y }, some o)
    else ({ sum := 0, m := 0, firstW := false, y := some y, clip := false }, some o)

/-- The result word after an output (R215, R216). -/
def resultWord (old : Word) (o : FiltOut) : Word :=
  pack [(enc 24 o.value, 8, 24), (1, 7, 1), (1, 6, 1), (b2n o.settle, 5, 1), (b2n o.clip, 4, 1), (fld old 0 4 + 1, 0, 4)]

/-- `VALUE` of a result word. -/
def resValue (w : Word) : Int := sfld w 8 24

/-- `VALUE` of channel n. -/
def State.value (s : State) (n : Nat) : Int := resValue (s.reg (Reg.resCh n))

/-- `VALID` of channel n. -/
def State.valid (s : State) (n : Nat) : Bool := s.regBit (Reg.resCh n) 6

/-! ### Temperature (R204) -/

/-- 2^48 times the natural logarithm of f / 2^48, for f from 2^48 up to 2^49: the series 2 (z + z³/3 + …) with
z = (f − 1) / (f + 1). -/
def lnUnit (f : Nat) : Nat :=
  let one := 2 ^ 48
  let z := (f - one) * one / (f + one)
  let z2 := z * z / one
  2 * ((List.range 32).foldl (fun (a : Nat × Nat) i => (a.1 + a.2 / (2 * i + 1), a.2 * z2 / one)) (0, z)).1

/-- 2^48 times the natural logarithm of a positive number. -/
def lnFix (p : Nat) : Nat :=
  let e := Nat.log2 p
  e * lnUnit (2 ^ 49) + lnUnit (p * 2 ^ 48 / 2 ^ e)

/-- Temperature in 0.1 °C, not yet clamped, for R_NTC / R25 = p / q and constant B: rounded to nearest. A negative bracket gives a
value below absolute zero, which clamps low. None: the bracket rounds to 0 here. The formula's own bracket is never 0, since the
logarithm of a ratio of whole numbers other than 1 is irrational; its sign is then open, and the model clamps high (DESIGN CHOICE, log
entry 15). -/
def ntcTenths (p q b : Nat) : Option Int :=
  let l : Int := (lnFix p : Int) - lnFix q
  let den : Int := 100 * b * 2 ^ 48 + 29815 * l
  if den = 0 then none else some ((298150 * b * 2 ^ 48 : Int) / den - 2731)

/-- `CHn_TEMP` for a published value v and AVDD voltage, both in 10 µV (R204). -/
def tempWord (v avdd : Int) (rBias r25 beta : Nat) (valid clip : Bool) : Word :=
  let t0 : Option Int :=
    if v ≤ 0 ∨ avdd ≤ v then none
    else ntcTenths (rBias * v.toNat) (r25 * (avdd - v).toNat) beta
  let (t, clamp) : Int × Bool :=
    if v ≤ 0 then (2000, true)
    else if avdd ≤ v then (-550, true)
    else
      match t0 with
      | none => (2000, true)
      | some x => if x < -550 then (-550, true) else if 2000 < x then (2000, true) else (x, false)
  let open_ := decide (204000 ≤ v) || clip
  let short := decide (v ≤ 2000)
  pack [(enc 16 t, 16, 16), (b2n (valid && !open_ && !short), 3, 1), (b2n open_, 2, 1), (b2n short, 1, 1), (b2n clamp, 0, 1)]

/-! ### Scans (R205 to R209, R213, R214) -/

/-- Channel n is under wet check. -/
def State.wetOn (s : State) (n : Nat) : Bool :=
  match s.meas.wet with
  | some w => decide (w.step ≠ 0) && decide (w.todo.head? = some n)
  | none => false

/-- A scan instant is now and may be taken (R205, R206, R209). -/
def State.scanDue (s : State) : Bool :=
  let per := s.scanPer
  s.meas.active && s.tb.running && !s.clk.gated && s.meas.scan.isNone && decide (per ≠ 0) &&
    decide (s.tb.now.toNat % per = s.scanPhase) && decide (s.meas.notUntil ≤ s.ticks) &&
    (!s.meas.anyEdge || decide (s.meas.lastAt + 20 ≤ s.ticks))

/-- All sample-and-holds enter hold: the scan in flight takes its codes. -/
def State.takeScan (s : State) (codes : List Int) (avdd : Int) : State :=
  let s := if s.meas.restart then s.restartFilters else s
  let short := s.meas.anyEdge && decide (s.tb.now.toNat < s.meas.lastTs.toNat) && decide (s.ticks < s.meas.lastAt + s.scanPer)
  let take := BitVec.ofNat 24 ((List.range 24).foldl
    (fun a n => if s.chKind n ≠ 0 ∧ (s.measCh n).blank ≤ s.ticks ∧ !s.wetOn n then a + 2 ^ n else a) 0)
  let run : ScanRun :=
    { ts := s.tb.now, codes := codes, avdd := avdd, take := take, short := short, at_ := s.ticks }
  s.modMeas fun m =>
    { m with scan := some run, restart := false, lastAt := s.ticks, lastTs := s.tb.now, anyEdge := true }

/-- Scanning starts again: from 2 µs on, every filter restarting at the first edge (R209, R213). -/
def State.startScan (s : State) : State :=
  s.modMeas fun m => { m with active := true, restart := true, notUntil := s.ticks + 2, anyEdge := false }

/-- No further edge is taken; a scan in flight completes (R209). -/
def State.stopScan (s : State) : State := s.modMeas fun m => { m with active := false }

/-- Scanning goes on after the clocks stood (R213). The first edge keeps the 2 µs that R209 states for a write of `RUN` (DESIGN CHOICE,
log entry 15). -/
def State.scanResume (s : State) : State := if s.meas.active then s.startScan else s

/-- A synchronising reset reaches the engine (R213, R214): the filters restart at the next edge, so that a scan in flight still
counts to the old window. R214 publishes such a scan only where it completes an output: DESIGN CHOICE (log entry 15): this is judged
for each channel, and the scan's time and count advance as for every published scan (R207), and a waiting SNAP_NEXT is served. -/
def State.syncScan (s : State) : State := s.modMeas fun m => { m with restart := true, anyEdge := false }

/-- The state with the register file that governs the samples of a scan (R208). -/
def ScanRun.view (r : ScanRun) (s : State) : State :=
  match r.cfg with
  | some f => { s with regs := f }
  | none => s

/-- Step 4 of a full reload: a scan in flight keeps the values that govern it and goes to the old windows; it gives a channel with a
new `CHn_CFG` nothing, whose word waits for its first output under the new image (R205, R213; DESIGN CHOICE, log entry 15). -/
def State.reloadScan (s : State) (old : List (Nat × Word)) (changed : List Nat) : State :=
  s.modMeas fun m =>
    { m with
        scan := m.scan.map fun r =>
          { r with cfg := some old, take := r.take &&& ~~~(BitVec.ofNat 24 (changed.foldl (fun a n => a + 2 ^ n) 0)) }
        restart := true, anyEdge := false, notUntil := max m.notUntil (m.lastAt + 20) }

/-- Channel n of the scan: its sample enters its filter, and an output publishes its word. -/
def State.publishCh (r : ScanRun) (s : State) (n : Nat) : State :=
  let v := r.view s
  if !r.take.getLsbD n || v.chKind n = 0 || s.wetOn n then s
  else
    let code := r.codes.getD n 0
    let win := v.regFld (Reg.chFilt n) 0 12 + 1
    let (f, o) := (s.measCh n).filt.take (v.sample n code) (clipped code) win (v.regFld (Reg.chFilt n) 16 4)
    let s := s.modMeasCh n fun c => { c with filt := f }
    match o with
    | none => s
    | some o =>
      let s := s.setReg (Reg.resCh n) (resultWord (s.reg (Reg.resCh n)) o)
      if v.chKind n = 3 then
        s.setReg (Reg.chTemp n)
          (tempWord o.value r.avdd (v.regFld (Reg.chNtcR n) 16 16) (v.regFld (Reg.chNtcR n) 0 16)
            (v.regFld (Reg.chNtcB n) 0 16) true o.clip)
      else s

/-- Channels whose word the scan published: `SEQ` moved on. -/
def publishedIn (a b : State) : List Nat :=
  (List.range 24).filter fun n => decide (a.regFld (Reg.resCh n) 0 4 ≠ b.regFld (Reg.resCh n) 0 4)

/-! ### Snapshots (R219, R220) -/

/-- Copy all result words, and clear `FRESH` in the live ones. -/
def State.copySnap (s : State) : State :=
  let s := (List.range 24).foldl
    (fun t n => (t.setReg (Reg.resSnap n) (t.reg (Reg.resCh n))).setReg (Reg.resCh n) (setBit (t.reg (Reg.resCh n)) 7 false)) s
  (s.setReg Reg.resSnapTime (s.reg Reg.resScanTime)).setReg Reg.resSnapStat (pack [(s.regFld Reg.resScanStat 16 16, 16, 16), (1, 0, 1)])

/-- A write of `RES_SNAP_CTRL`. -/
def State.snapWrite (s : State) (v : Word) : State :=
  if bit v 0 then s.copySnap
  else if bit v 1 then (s.setRegBit Reg.resSnapStat 0 false).setRegBit Reg.resSnapStat 1 true
  else s

/-- `RES_SCAN_STAT`. -/
def State.scanStatW (s : State) : Word :=
  setBit (s.reg Reg.resScanStat) 0 s.meas.active

/-- The scan in flight is published (R207): results, temperatures, time, count and a waiting snapshot. -/
def State.publishScan (s : State) : State :=
  match s.meas.scan with
  | none => s
  | some r =>
    let s := (List.range 24).foldl (State.publishCh r) s
    let s := s.setReg Reg.resScanTime r.ts
    let s := s.setReg Reg.resScanStat (pack [(s.regFld Reg.resScanStat 16 16 + 1, 16, 16), (b2n r.short, 1, 1)])
    let s := s.modMeas fun m => { m with scan := none }
    if s.regBit Reg.resSnapStat 1 then s.copySnap else s

/-! ### Wet-board check (R221 to R226) -/

/-- Plain mean of M codes in 10 µV, rounded half up (log entry 15). -/
def meanTenMicro (codes : List Int) (k m : Nat) : Int := (2 * codes.sum * k + 4 * m) / (8 * m)

/-- Test current in µA. -/
def State.wetCurrent (s : State) : Nat := match s.regFld Reg.chWetCfg 8 2 with | 0 => 1 | 1 => 10 | _ => 100

/-- R223: R_EXT in Ω from V+ − V− in 10 µV, rounded to the nearest ohm; none when the bracket gives none. The ladder counts
with its nominal 2.0 MΩ (log entry 15). -/
def wetOhms (d : Int) (i att : Nat) : Option Nat :=
  if d ≤ 0 then none
  else
    let num := 10 * d.toNat
    if att = 0 then some ((2 * num + 2 * i) / (4 * i))
    else
      let den : Int := 2 * i * 2000000 - num
      if den ≤ 0 then none else some ((2 * num * 2000000 + den.toNat) / (2 * den.toNat))

/-- The head of the list comes under check: its outputs are held, its first settling starts. It waits in step 0 while a comparator
of the channel is under check (R248). -/
def State.wetBegin (s : State) (todo : List Nat) : State :=
  match todo with
  | [] => s.modMeas fun m => { m with wet := none }
  | n :: _ =>
    let l := s.cmpOut n false
    let h := s.cmpOut n true
    let wait := s.underCheck n false || s.underCheck n true
    let w : WetRun := { todo := todo, step := if wait then 0 else 1, v0 := 0, vPos := 0, clipP := false, clipN := false, tieBad := false,
                        holdFl := l, holdFh := h, settle := s.ticks + s.tSet n }
    s.modMeas fun m => { m with wet := some w }

/-- The results of the channel under check go to their registers, and the channel settles for T_SET (step 6). -/
def State.wetFinish (s : State) (w : WetRun) (n : Nat) (injected : Bool) (vNeg : Int) (clipN : Bool) : State :=
  let lim := s.reg (Reg.chWetLim n)
  let vmax := s.regFld Reg.chWetVmax 0 24
  let vHigh := decide (vmax ≠ 0) && decide ((vmax : Int) < |w.v0|)
  let ohm := if injected && !w.clipP && !clipN then wetOhms (w.vPos - vNeg) s.wetCurrent (s.chAtt n) else none
  let rLow := injected && (match ohm with | some r => decide (fld lim 0 16 ≠ 0) && decide (r < 100 * fld lim 0 16) | none => false)
  let rHigh := injected &&
    (match ohm with | some r => decide (fld lim 16 16 ≠ 0xFFFF) && decide (100 * fld lim 16 16 < r) | none => true)
  let (free, s) := s.takeWord
  let word : Word :=
    if !injected then 0xFFFFFFFE#32
    else match ohm with | none => 0xFFFFFFFF#32 | some r => if r < 2 ^ 32 then w32 r else free
  let pass := !w.tieBad && !vHigh && !rLow && !rHigh
  let s := s.setReg (Reg.chWetR n) word
  let s := s.setReg (Reg.chWetV n)
    (pack [(enc 24 w.v0, 8, 24), (1, 7, 1), (b2n pass, 6, 1), (b2n w.tieBad, 5, 1), (b2n rLow, 4, 1), (b2n rHigh, 3, 1),
      (b2n vHigh, 2, 1), (b2n (!injected), 1, 1)])
  let s := if pass then s else s.setRegBit Reg.chWetStat n true
  s.modMeas fun m => { m with wet := some { w with step := 6, settle := s.ticks + s.tSet n } }

/-- A step of the check ends with its M codes (Table 6-6). While scanning is stopped there are no conversions, and the check waits
(DESIGN CHOICE, log entry 15). -/
def State.wetStep (s : State) (codes : List Int) : State :=
  match s.meas.wet with
  | none => s
  | some w =>
    match w.todo with
    | [] => s
    | n :: _ =>
      let m := s.regFld Reg.chWetCfg 16 6
      if !s.meas.active ∨ s.ticks < w.settle ∨ codes.length ≠ m ∨ m = 0 ∨ w.step = 0 ∨ 6 ≤ w.step then s
      else
        let k := attK (s.chAtt n)
        let codes := codes.map satCode
        let tie (c : Nat) : Bool := decide ((82 * m : Int) < |codes.sum - c * m|)
        let inj := s.tSet n + 100 * s.regFld Reg.chWetCfg 24 8
        let next (w : WetRun) (settle : Nat) : State :=
          s.modMeas fun x => { x with wet := some { w with step := w.step + 1, settle := s.ticks + settle } }
        match w.step with
        | 1 => next { w with tieBad := w.tieBad || tie 8192 } (s.tSet n)
        | 2 => next { w with tieBad := w.tieBad || tie 24576 } (s.tSet n)
        | 3 =>
          let w := { w with v0 := meanTenMicro codes k m }
          if s.srcCh = some n then s.wetFinish w n false 0 false else next w inj
        | 4 => next { w with vPos := meanTenMicro codes k m, clipP := codes.any fun c => decide (c = 32767) } inj
        | _ => s.wetFinish w n true (meanTenMicro codes k m) (codes.any fun c => decide (c = -32768))

/-- `CH_WET_STAT` (Table 6-13). -/
def State.wetStatW (s : State) : Word :=
  let cur := match s.meas.wet with | some w => w.todo.headD 0 | none => 0
  setFld (setBit (s.reg Reg.chWetStat) 31 s.meas.wet.isSome) 24 5 cur

/-! ### Resets (R228) -/

/-- Results, temperatures and filters clear. -/
def State.clearResults (s : State) : State := (List.range 24).foldl State.clearValid s

/-- Blanking of every channel from now (R203). -/
def State.blankAll (s : State) : State := (List.range 24).foldl State.blank s

end Sys2Proof.Machine
end

