-- ==== Sys2Proof/Machine/Cmp.lean ====
section
/-! DEFINITION. The fast comparators, their latches and self-checks, and the warning windows
(spec/07_fast_comparators.md R229 to R254). -/

namespace Sys2Proof.Machine

/-! ### Modes and blindness -/

/-- Channel n is the sense of a rail that ADOPT judges by its sense: every kind but NONE and BUDGETED (R153). -/
def State.isSense (s : State) (n : Nat) : Bool :=
  s.rail && railNums.any fun k => decide (s.rkind k ≠ .none) && decide (s.rkind k ≠ .budg) && decide (s.sense k = n)

/-- The mode a comparator works in: ADOPT powers the sense comparators of the rails continuously (R153, R236). -/
def State.workMode (s : State) (n : Nat) (high : Bool) : Nat :=
  let m := s.cmpMode n high
  if m = 2 ∧ s.rst.adopt.isSome ∧ s.isSense n then 1 else m

/-- Q does not follow the input now: under check, or the channel's outputs held by a wet check (R225, R246). -/
def State.blind (s : State) (n : Nat) (high : Bool) : Bool := s.underCheck n high || (s.wetHolds n).isSome

/-! ### Q and the latching stage (R237 to R241) -/

/-- Set the `_LAT` bit of a comparator. -/
def State.setLat (s : State) (n : Nat) (high b : Bool) : State :=
  s.setRegBit (if high then Reg.cmpFhLat else Reg.cmpFlLat) n b

/-- Q of a comparator takes a value; an assertion latches, and in EDGE the output stretches while `CLK_FAB` runs (R186, R239). -/
def State.setQ (s : State) (n : Nat) (high b : Bool) : State :=
  let rise := b && !(s.comp n high).q
  let s := s.modComp n high fun c => { c with q := b, stretch := c.stretch || (rise && s.coreRuns) }
  if rise then s.setLat n high true else s

/-- The output passes a qualifier (R237). -/
def State.qualified (s : State) (n : Nat) (high : Bool) : Bool := decide (s.dgl n ≠ 0) && decide (s.workMode n high = 1)

/-- A comparator output takes a level. Without a qualifier, and for a strobed value, Q follows at once; a qualifier holds an
assertion back until DEGLITCH_QUALIFY and lets a release through, and keeps Q while `CLK_FAB` is stopped (R237). -/
def State.setOut (s : State) (n : Nat) (high b : Bool) : State :=
  let s := s.modComp n high fun c => { c with out := b }
  if s.qualified n high && (b || !s.coreRuns) then s else s.setQ n high b

/-- A powered comparator's output follows its input, and the interlock of R232 holds the other one released. -/
def State.follow (s : State) (n : Nat) (high : Bool) : State :=
  let c := s.comp n high
  if !s.cmp.armed || c.holdTo.isSome || s.blind n high || decide (s.workMode n high ≠ 1) then s
  else
    let lvl := c.live && !(s.comp n (!high)).out
    let s := if c.out = lvl then s else s.setOut n high lvl
    let d := s.comp n (!high)
    if !lvl && d.live && !d.out && d.holdTo.isNone && !s.blind n (!high) && decide (s.workMode n (!high) = 1)
    then s.setOut n (!high) true else s

/-- A SAMPLED comparator that was powered for a check takes the live value (R246), under the interlock of R232. -/
def State.takeLive (s : State) (n : Nat) (high : Bool) : State :=
  if s.workMode n high = 2 ∧ s.cmp.armed ∧ !s.blind n high then
    (s.setOut n high ((s.comp n high).live && !(s.comp n (!high)).out)).follow n (!high)
  else s.follow n high

/-- Both comparators of a channel follow their inputs. -/
def State.followCh (s : State) (n : Nat) : State := (s.follow n false).follow n true

/-- `CLK_FAB` runs again: a qualifier whose comparator output is released lets Q go (R237). -/
def State.requalify (s : State) : State :=
  (List.range 48).foldl
    (fun t k =>
      let n := k / 2
      let high := decide (k % 2 = 1)
      if t.qualified n high && (t.comp n high).q && !(t.comp n high).out && !t.blind n high then t.setQ n high false else t) s

/-- The input of a continuous comparator crosses its threshold for `width` ns (R231, R238): below 10 ns nothing, up to 30 ns the
outcome is not defined, from 30 ns on the assertion stands until its release. -/
def State.crossing (s : State) (n : Nat) (high : Bool) (width : Nat) : State :=
  if 30 ≤ width then (s.modComp n high fun c => { c with live := true }).follow n high
  else if width < 10 ∨ s.dgl n ≠ 0 ∨ s.workMode n high ≠ 1 ∨ !s.cmp.armed ∨ (s.comp n high).holdTo.isSome ∨ s.blind n high ∨
      (s.comp n high).q ∨ (s.comp n (!high)).out then s
  else
    let (b, s) := s.takeBit
    if b then (s.setLat n high true).modComp n high fun c => { c with stretch := c.stretch || s.coreRuns } else s

/-- The input of a comparator passes its release level (R231). -/
def State.releaseIn (s : State) (n : Nat) (high : Bool) : State :=
  (s.modComp n high fun c => { c with live := false }).follow n high

/-- The qualifying time of an asserted output has passed (R237); the qualifier does not count while `CLK_FAB` stands. -/
def State.qualify (s : State) (n : Nat) (high : Bool) : State :=
  if (s.comp n high).out && s.qualified n high && !s.blind n high && s.coreRuns then s.setQ n high true else s

/-- The 5 µs hold after power-up has ended (R235). -/
def State.armExpiry (s : State) (n : Nat) (high : Bool) : State :=
  match (s.comp n high).holdTo with
  | some t => if t ≤ s.ticks then (s.modComp n high fun c => { c with holdTo := none }).follow n high else s
  | none => s

/-- A strobe is due: 1.8 µs after the tick Tk, so within the microsecond Tk + 1, once, and not at the first tick after the wrap of
`TB_NOW` where the last tick before it lies less than 10 µs back (R206, R236). -/
def State.strobeDue (s : State) (n : Nat) (high : Bool) : Bool :=
  let per := s.regFld (Reg.chCmpCfg n) 16 14
  let last := (s.comp n high).strobed
  let short := 2 ^ 32 % per
  s.cmp.armed && decide (s.workMode n high = 2) && decide (per ≠ 0) && !s.clk.gated && decide (s.tb.now.toNat % per = 1) &&
    decide (last ≠ some s.ticks) &&
    !(decide (s.tb.now = 1) && decide (0 < short) && decide (short < 10) && decide (last.map (· + short) = some s.ticks))

/-- A strobe of a SAMPLED comparator with input code x: it compares with the level its last value selects (R236);
the other comparator, if continuous, then follows the interlock of R232. -/
def State.strobe (s : State) (n : Nat) (high : Bool) (x : Int) : State :=
  if !s.strobeDue n high || s.blind n high then s
  else
    let c := s.comp n high
    let th : Int := s.cmpTh n high
    let h : Int := s.hyst n
    let lvl := if high then (if c.out then decide (th - h ≤ x) else decide (th < x))
               else (if c.out then decide (x ≤ th + h) else decide (x < th))
    let b := lvl && !(s.comp n (!high)).out
    let s := s.modComp n high fun c => { c with live := lvl, strobed := some s.ticks }
    (if c.out = b then s else s.setOut n high b).follow n (!high)

/-- Release a `_LAT` bit unless Q is asserted (R240, R241). -/
def State.clearLat (s : State) (n : Nat) (high : Bool) : State :=
  if (s.comp n high).q then s else s.setLat n high false

/-- Release the latches of the channels in a mask. -/
def State.clearLats (s : State) (high : Bool) (mask : Word) : State :=
  (List.range 24).foldl (fun t n => if bit mask n then t.clearLat n high else t) s

/-- The period start that `HCLR` selects: 1 a scan edge, 2 an accepted half-cycle edge (R240). -/
def State.periodClear (s : State) (code : Nat) : State :=
  (List.range 24).foldl
    (fun t n => if t.latchHold n ∧ t.hclr n = code then (t.clearLat n false).clearLat n true else t) s

/-- Every latch clears, and a Q asserted then is latched again at once (R241). -/
def State.relatch (s : State) : State :=
  (s.setReg Reg.cmpFlLat (wordOf 24 fun n => (s.comp n false).q)).setReg Reg.cmpFhLat (wordOf 24 fun n => (s.comp n true).q)

/-- W1C bits of `CMP_CHn_STAT`: latches, `CHK_FAIL`, and warning flags whose warning is released. -/
def State.cmpStatWrite (s : State) (n : Nat) (v : Word) : State :=
  let s := if bit v 4 then s.clearLat n false else s
  let s := if bit v 5 then s.clearLat n true else s
  let s := if bit v 6 then s.setRegBit Reg.cmpChkFail n false else s
  s.modCmpCh n fun c =>
    { c with wlFlag := c.wlFlag && !(bit v 9 && !c.wl), whFlag := c.whFlag && !(bit v 10 && !c.wh) }

/-- W1C bits of `CMP_STAT`. -/
def State.cmpGlobalWrite (s : State) (v : Word) : State :=
  s.modCmp fun c =>
    { c with chkRefused := c.chkRefused && !bit v 30, chkAbort := c.chkAbort && !bit v 29, pskip := c.pskip && !bit v 28,
             thRej := c.thRej && !bit v 27, limRej := c.limRej && !bit v 26 }

/-! ### Arming (R235, R254) -/

/-- Arm one comparator: from OFF or unpowered, its output stays released for 5 µs. -/
def State.armOne (s : State) (n : Nat) (high : Bool) : State :=
  s.modComp n high fun c =>
    { c with out := false, q := false, stretch := false, holdTo := if s.cmpMode n high = 1 then some (s.ticks + 5) else none }

/-- Arm every comparator from the configuration. -/
def State.armAll (s : State) : State :=
  (List.range 24).foldl (fun t n => (t.armOne n false).armOne n true) (s.modCmp fun c => { c with armed := true })

/-- ADOPT powers the SAMPLED sense comparators of the rails: the last strobed value stands for 5 µs (R153, R235). -/
def State.adoptPower (s : State) : State :=
  let one (t : State) (n : Nat) (high : Bool) : State :=
    if t.cmpMode n high = 2 ∧ t.isSense n then t.modComp n high fun c => { c with holdTo := some (t.ticks + 5) } else t
  (List.range 24).foldl (fun t n => one (one t n false) n true) s

/-- Step 4 of a full reload: new thresholds and modes, latches cleared; a comparator powered up from OFF is held for 5 µs. The
state `old` has the modes before. -/
def State.cmpReload (s old : State) : State :=
  let one (t : State) (n : Nat) (high : Bool) : State :=
    if t.cmpMode n high = 0 then t.modComp n high fun c => { c with out := false, q := false, stretch := false, holdTo := none }
    else if old.cmpMode n high ≠ 1 ∧ t.cmpMode n high = 1 then t.armOne n high
    else t
  ((List.range 24).foldl (fun t n => one (one t n false) n true) s).relatch

/-! ### The wet-board check's start and end (R221, R225, R226) -/

/-- The channel under check is released: its filter restarts after blanking, its outputs follow their inputs again, and the next
channel begins (R225). -/
def State.wetRelease (s : State) : State :=
  match s.meas.wet with
  | some w =>
    match w.todo with
    | n :: rest => (((s.restartFilter n).blank n).wetBegin rest).followCh n
    | [] => s.modMeas fun m => { m with wet := none }
  | none => s

/-- A running check aborts (R226): the channel under check is released, and the end of the check blanks it (R203). -/
def State.wetAbort (s : State) : State :=
  match s.meas.wet with
  | some w =>
    let s := s.setRegBit Reg.chWetStat 29 true
    let s := s.modMeas fun m => { m with wet := none }
    match w.todo with
    | n :: _ => ((s.restartFilter n).blank n).followCh n
    | [] => s
  | none => s

/-- Balancing is entirely off. -/
def State.balanceOff (s : State) : Bool := decide (s.reg Reg.stackBalEn = 0) && s.unit.sched.isEmpty

/-- R221: a start is refused. -/
def State.wetRefused (s : State) : Bool :=
  (s.rail && decide (s.seq.state ≠ .idle)) || (s.isRole .stk && !s.balanceOff) || !s.meas.active || s.meas.wet.isSome ||
    s.boot.bench

/-- A write of `CH_WET_CTRL` (R221). -/
def State.wetWrite (s : State) (v : Word) : State :=
  let mask := fld v 0 24
  if !bit v 24 then s
  else if mask = 0 then s.wetAbort
  else if s.wetRefused then s.setRegBit Reg.chWetStat 30 true
  else
    let s := s.setRegFld Reg.chWetStat 0 24 0
    let todo := (List.range 24).filter fun n => bit v n && decide (s.chKind n ≠ 0)
    let s := todo.foldl (fun t n => t.setRegBit (Reg.chWetV n) 7 false) s
    s.wetBegin todo

/-- The T_SET after the last step has passed: the channel is released (R225). A channel that waited for a comparator's check
begins (R248). -/
def State.wetTick (s : State) : State :=
  match s.meas.wet with
  | some w => if w.step = 6 ∧ w.settle ≤ s.ticks then s.wetRelease else if w.step = 0 then s.wetBegin w.todo else s
  | none => s

/-- The measurement engine at L0, L1 or L2, which ends a wet check; the register file clears the words of the map. -/
def State.resetMeas (s : State) : State :=
  let t := s.modMeas fun _ => Meas.init
  match s.meas.wet with
  | some w => (match w.todo.head? with | some n => t.followCh n | none => t)
  | none => t

/-! ### Self-checks (R245 to R249) -/

/-- The head of the list comes under check at Tc = `since`. A comparator in OFF is passed over with its step bits clear and `_NJ` set,
one on a channel under wet check with `_NJ` set (R246, R248). Ending the list ends the check. -/
def State.chkBegin (s : State) (periodic : Bool) (since : Nat) : List Nat → State
  | [] => s.modCmp fun c => { c with chk := none, passes := if periodic then min 0xFFFF (c.passes + 1) else c.passes }
  | k :: rest =>
    let n := k / 2
    let high := decide (k % 2 = 1)
    if s.wetOn n then (s.modComp n high fun c => { c with nj := true }).chkBegin periodic since rest
    else if s.cmpMode n high = 0 then (s.modComp n high fun c => { c with chk := 0, nj := true }).chkBegin periodic since rest
    else
      let q := (s.comp n high).q
      (s.modComp n high fun c => { c with chk := 0, nj := false }).modCmp fun c =>
        { c with chk := some { todo := k :: rest, step := 0, n := q, since := since, periodic := periodic } }

/-- No check may start now (R247). -/
def State.chkBlocked (s : State) : Bool :=
  s.cmp.chk.isSome || !s.running || s.rst.adopt.isSome || decide (s.img.op = .full)

/-- The comparators of the channels that pass p, FL then FH, ascending. -/
def compsOf (p : Nat → Bool) : List Nat := ((List.range 24).filter p).flatMap fun n => [2 * n, 2 * n + 1]

/-- A running check aborts: the comparator under check is released at once (R248). -/
def State.chkAbortNow (s : State) : State :=
  match s.cmp.chk with
  | none => s
  | some c =>
    let s := s.modCmp fun x => { x with chk := none, chkAbort := true }
    match c.todo with
    | k :: _ => s.takeLive (k / 2) (decide (k % 2 = 1))
    | [] => s

/-- A write of `CMP_CHK_CTRL` that starts a check of the channels it names (R247). -/
def State.chkStart (s : State) (v : Word) : State :=
  if s.chkBlocked || s.clk.gated || s.pwr.doze then s.modCmp fun c => { c with chkRefused := true }
  else s.chkBegin false s.ticks (compsOf (bit v))

/-- SELF_CHECK_PERIODIC (R247): `CHK_PER` ticks of the 1 ms divider have passed. -/
def execSelfCheckPeriodic (s : State) : Out :=
  let per := s.regFld Reg.cmpChkCfg 0 16
  if per = 0 ∨ s.cmp.perCnt < per ∨ s.clk.gated ∨ s.pwr.doze ∨ s.boot.bench then ok s
  else
    let s := s.modCmp fun c => { c with perCnt := c.perCnt - per }
    if s.chkBlocked then ok (s.modCmp fun c => { c with pskip := true })
    else ok (s.chkBegin true s.ticks (compsOf fun n => s.regBit (Reg.chCmpCfg n) 14))

/-- Judgement of a strobed step of comparator (n, high): none when it is not judged, else whether it passes (Table 7-4). -/
def State.chkJudge (s : State) (n : Nat) (high : Bool) (step : Nat) (before strobed : Bool) : Option Bool :=
  let c : Int := s.cmpTh n high
  let h : Int := s.hyst n
  let u : Int := attU (s.chAtt n)
  let tie (level : Int) : Option Bool :=
    if h + 16 < |level - c| then
      let want := if high then decide (c < level) else decide (level < c)
      some (strobed == want)
    else none
  match step with
  | 0 => if s.valid n ∧ (h + 32) * u < |s.value n - c * u| then some (strobed != before) else none
  | 1 => tie 1024
  | _ => tie 3072

/-- One step of the comparator under check, at its instant of Table 7-4: a step strobed 1.5 µs after it begins and judged, or the end
of the blind interval at Tc + 7 µs, at which the next comparator's check begins. No check goes on while the clocks are gated (R247). -/
def State.chkStep (s : State) (strobed : Bool) : State :=
  match s.cmp.chk with
  | none => s
  | some c =>
    match c.todo with
    | [] => s.chkBegin c.periodic s.ticks []
    | k :: rest =>
      let n := k / 2
      let high := decide (k % 2 = 1)
      if !s.coreRuns || !s.passed c.since (if c.step < 3 then 2 * c.step + 1 else 7) then s
      else if c.step < 3 then
        let s := s.modCmp fun x => { x with chk := some { c with step := c.step + 1 } }
        match s.chkJudge n high c.step c.n strobed with
        | none => s.modComp n high fun x => { x with nj := true }
        | some true => s
        | some false => (s.modComp n high fun x => { x with chk := x.chk ||| BitVec.ofNat 3 (2 ^ c.step) }).setRegBit Reg.cmpChkFail n true
      else
        let s := s.modCmp fun x => { x with chk := none }
        (s.takeLive n high).chkBegin c.periodic (c.since + 7) rest

/-! ### Warning windows (R242 to R244) -/

/-- New count and state of one warning at an evaluated publication. -/
def warnNext (en beyond back : Bool) (pers cnt : Nat) (w : Bool) : Nat × Bool :=
  if !en then (0, false)
  else
    let cnt := if beyond then min (pers + 1) (cnt + 1) else 0
    (cnt, if w then !back else decide (pers + 1 ≤ cnt))

/-- A masked assertion is counted on the margin DAC of the channel, held at 0xFF (R323). -/
def State.countMasked (s : State) (n : Nat) (high : Bool) : State :=
  match s.dacOf n with
  | some m =>
    s.modDac m fun d =>
      if high then { d with wcntH := min 0xFF (d.wcntH + 1) } else { d with wcntL := min 0xFF (d.wcntL + 1) }
  | none => s

/-- The warning comparisons of channel n at an evaluated publication of scan r, under the limits that governed its samples (R242); an
unmasked assertion sets its flag and counts (R343). -/
def State.warnEval (r : ScanRun) (s : State) (n : Nat) : State :=
  let w := s.reg (Reg.resCh n)
  let lo := (r.view s).reg (Reg.chWarnLo n)
  let hi := (r.view s).reg (Reg.chWarnHi n)
  if !bit w 6 || (bit w 5 && !bit lo 4) || s.wetOn n then s
  else
    let v := resValue w
    let h : Int := 1024 * fld hi 0 7
    let pers := fld lo 0 4
    let c := s.cmpCh n
    let (lc, l) := warnNext (bit lo 7) (decide (v < sfld lo 8 24)) (decide (sfld lo 8 24 + h ≤ v)) pers c.wlCnt c.wl
    let (hc, hh) := warnNext (bit hi 7) (decide (sfld hi 8 24 < v)) (decide (v ≤ sfld hi 8 24 - h)) pers c.whCnt c.wh
    let m := s.marginOn n
    let upL := l && !c.wl
    let upH := hh && !c.wh
    let s := s.modCmpCh n fun c =>
      { c with wl := l, wh := hh, wlCnt := lc, whCnt := hc, masked := m,
               wlFlag := c.wlFlag || (upL && !m), whFlag := c.whFlag || (upH && !m) }
    let s := if upL then (if m then s.countMasked n false else s.countEvent n .warn) else s
    if upH then (if m then s.countMasked n true else s.countEvent n .warn) else s

/-! ### Resets (R254) -/

/-- The comparators at a reset level, before the register file is reset: L0 and L1 disarm, L2 keeps them armed with the latches
cleared, L3 keeps everything. -/
def State.resetCmp (s : State) (l : Level) : State :=
  let drop (c : Comp) : Comp := { c with chk := 0, nj := false, stretch := false }
  let quiet (c : CmpCh) : CmpCh :=
    { c with wl := false, wh := false, wlFlag := false, whFlag := false, wlCnt := 0, whCnt := 0, masked := false }
  match l with
  | .l3 => s
  | .l2 =>
    let s := s.chkAbortNow
    (s.modCmp fun c =>
      { Cmp.init with armed := c.armed, perCnt := c.perCnt,
                      ch := c.ch.map fun x => { quiet x with fl := drop x.fl, fh := drop x.fh } })
  | .l1 | .l0 =>
    s.modCmp fun c =>
      { Cmp.init with
          ch := c.ch.map fun x =>
            { CmpCh.init with fl := { Comp.init with live := x.fl.live }, fh := { Comp.init with live := x.fh.live } } }

end Sys2Proof.Machine
end

