-- ==== Sys2Proof/Machine/Seq.lean ====
section
/-! DEFINITION. The rail sequencer, its groups and its source pair, the fault reactions and the margin DACs: the operations
(spec/08_rail_sequencer.md R255 to R298; spec/09_fault_reactions_and_margining.md R299 to R326). -/

namespace Sys2Proof.Machine

/-! ### Who drives the pins -/

/-- The sequencer runs: a rail role, and a pair unit only while it drives (13.4). -/
def State.seqRuns (s : State) : Bool := s.rail && (!s.role.pair || s.pair.pstate.drives)

/-- EN n as the role drives it for rail on or off (R48, R51); a GATE pin stays inactive until `CP_OK` (R72). -/
def State.enDrive (s : State) (n : Nat) (b : Bool) : EnDrive :=
  .role (s.enMode n) ((b != s.enPol n) && (s.supply.cpOk || decide ((s.enMode n).toNat ≠ 3)))

/-- The sequencer drives EN n; a MONITOR rail moves no pin (R263). -/
def State.setEn (s : State) (n : Nat) (b : Bool) : State :=
  if s.hasEn n then
    (s.modRail n fun r => { r with en := b }).modPins fun p => { p with en := p.en.set n (s.enDrive n b) }
  else s

/-- An edge at sink k has been taken whose effect is still due. -/
def State.edgeWaits (s : State) (k : Nat) : Bool := s.fab.edges.any fun l => l.contains k

/-- A rail may turn its EN on: a GATE-mode pin waits for `CP_OK` (R266). -/
def State.canTurnOn (s : State) (n : Nat) : Bool :=
  s.supply.cpOk || !(decide (n < 12) && s.hasEn n && decide ((s.enMode n).toNat = 3))

/-- An event of `SEQ_EVT`. -/
def State.seqEvt (s : State) (i : Nat) : State := s.raise Reg.seqEvt i

/-- An event of `REACT_EVT`. -/
def State.reactEvt (s : State) (i : Nat) : State := s.raise Reg.reactEvt i

/-- `CMD_ERR` takes a code (Table 8-14). -/
def State.setCmdErr (s : State) (c : Nat) : State := s.modSeq fun q => { q with cmdErr := BitVec.ofNat 4 c }

/-- A command refused at its launch instant (R277). -/
def State.refuseLaunch (s : State) (c : Nat) : State := (s.setCmdErr c).seqEvt 5

/-! ### Cascade commands of the master (R291, R372 to R374) -/

/-- Broadcast address of a Ridge command. -/
def dstAll : Nat := 0x3F

/-- A pending command of the master's own sequencer, dropped with its cascade command (R372). -/
def State.cancelOwn (s : State) (c : RidgeCmd) : State :=
  if c.dst ≠ dstAll then s
  else s.modSeq fun q =>
    match c.op with
    | 1 =>
      { q with
          pendStart := match q.pendStart with | some (t, b) => if t = c.arg0 then none else some (t, b) | none => none
          restartT := if q.restartT = some c.arg0 then none else q.restartT }
    | 2 => { q with pendStop := if q.pendStop = some c.arg0 then none else q.pendStop }
    | 3 => { q with pendGrp := q.pendGrp.erase { stop := false, g := fld c.arg1 0 3, t := c.arg0 } }
    | 4 => { q with pendGrp := q.pendGrp.erase { stop := true, g := fld c.arg1 0 3, t := c.arg0 } }
    | _ => q

/-- A queued command is dropped: it goes to no node and is executed on none (R372, R374, R393, R411). -/
def State.dropCmd (s : State) (q : QueueCmd) : State :=
  let s := s.raise Reg.ridgeEvt 8
  let s := if 1 ≤ q.cmd.op ∧ q.cmd.op ≤ 4 then (s.cancelOwn q.cmd).setCmdErr 1 else s
  let s := if q.cmd.op = 5 then (s.count Reg.schedGcnt 16 16 1).raise Reg.schedEvt 6 else s
  let s := if q.hcmd then (s.setRegFld Reg.ridgeHcmdStat 0 4 5).setRegBit Reg.ridgeHcmdStat 15 false else s
  let s := if q.cmd.op = 0x23 ∧ !q.proxy then s.modSched fun c => { c with polls := c.polls.filter fun p => decide (p.1 ≠ q.cmd.dst) } else s
  if q.proxy then ((s.setRegFld Reg.ridgePxStat 0 4 7).setRegBit Reg.ridgePxStat 31 false).modRidge fun r =>
    { r with m := { r.m with pxRead := none } } else s

/-- A command is offered to the master queue of 64 (R374). -/
def State.offerCmd (s : State) (q : QueueCmd) : State :=
  if 64 ≤ s.ridge.m.queue.length then s.dropCmd q
  else s.modRidge fun r => { r with m := { r.m with queue := r.m.queue ++ [q] } }

/-- The master sends a sequence command to every node; without a launch time it takes the earliest one (R291, R373). -/
def State.cascade (s : State) (op : Nat) (t : Option (BitVec 32)) (arg1 : Word) : State :=
  s.offerCmd { cmd := { op := op, dst := dstAll, cseq := 0, arg0 := t.getD 0, arg1 := arg1 }, chooseT := t.isNone, tries := 0,
               hcmd := false, proxy := false }

/-- A cascade reaction (R313). -/
def State.cascadeReaction (s : State) (op : Nat) (arg1 : Word) : State := (s.cascade op none arg1).reactEvt 5

/-- Commands of an opcode that the link brought and that wait for T give way to a replacement (R276). -/
def State.dropKept (s : State) (op : Nat) : State :=
  s.modRidge fun r => { r with s := { r.s with timed := r.s.timed.filter fun c => decide (c.op ≠ op) } }

/-- A START or STOP still waiting in the queue gives way to its replacement (R276). -/
def State.unqueue (s : State) (op : Nat) : State :=
  s.modRidge fun r =>
    { r with m := { r.m with queue := r.m.queue.filter fun q => !(decide (q.cmd.op = op) && decide (q.cmd.dst = dstAll) && !q.chooseT) } }

/-! ### Margin DACs (R319 to R322) -/

/-- A DAC returns to code 0 at once. -/
def State.mrgNominal (s : State) (m : Nat) : State := s.modDac m fun d => { d with state := .nominal, cur := 0 }

/-- An active DAC slews back. -/
def State.mrgBack (s : State) (m : Nat) : State :=
  s.modDac m fun d =>
    if d.state = .nominal then d
    else if d.cur = 0 then { d with state := .nominal }
    else { d with state := .slewBack, goal := 0, stepAt := s.ticks }

/-- Every active DAC slews back. -/
def State.mrgBackAll (s : State) : State := (List.range 8).foldl State.mrgBack s

/-! ### Rails (R262 to R267) -/

/-- A grant interval that ends at t without being judged (R413). -/
def PhaseSup.closed (x : PhaseSup) (t : Nat) : PhaseSup :=
  if x.open_ then { x with open_ := false, prevFrom := x.since, prevTo := t } else x

/-- A rail takes a state. Leaving ON ends its margin at once (R322) and its grant interval; entering ON starts its `FORGIVE` time
(R304). -/
def State.goRail (s : State) (n : Nat) (st : RailState) : State :=
  let old := s.rstate n
  let s := s.modRail n fun r => { r with state := st, onAt := if st = .on ∧ old ≠ .on then s.ticks else r.onAt }
  if old = .on ∧ st ≠ .on then
    let s := s.modSched fun c => { c with sup := modAt c.sup n fun x => x.closed s.ticks }
    match s.dacOf n with
    | some m => s.mrgNominal m
    | none => s
  else s

/-- A rail off: EN off and the state given. -/
def State.offRail (s : State) (n : Nat) (st : RailState) : State := (s.setEn n false).goRail n st

/-- RAMP begins: EN on and `RAMP_TIMEOUT` starts. -/
def State.enterRamp (s : State) (n : Nat) : State :=
  ((s.setEn n true).goRail n .ramp).modRail n fun r =>
    { r with since := s.ticks, tmo := s.rampTmo n, inWin := if s.inside (s.sense n) then some s.ticks else none }

/-- A rail enters ON and counts (R343). -/
def State.enterOn (s : State) (n : Nat) : State := (s.goRail n .on).countEvent n .on

/-- The end of a ramp clears the latches of the sense channel (Table 8-3). -/
def State.rampDone (s : State) (n : Nat) : State :=
  let ch := s.sense n
  (((s.modRail n fun r => { r with inWin := none }).enterOn n).clearLat ch false).clearLat ch true

/-- DISCHARGE begins: EN off; without a timeout the rail is OFF (Table 8-3). -/
def State.enterDischarge (s : State) (n : Nat) : State :=
  if s.dischTmo n = 0 then s.offRail n .off
  else (s.offRail n .discharge).modRail n fun r => { r with since := s.ticks, tmo := s.dischTmo n }

/-- Time t lies before u on the timebase (R88). -/
def before (t u : BitVec 32) : Bool := decide (0 < (u - t).toNat) && decide ((u - t).toNat ≤ 2 ^ 31)

/-- A stop with origin `o` reaches a rail of kind SEQUENCED, MONITOR or BUDGETED. A group stop leaves WAIT_OFF alone; a STOP
overrides it with an earlier off instant (R282). -/
def State.stopRail (s : State) (o : BitVec 32) (all : Bool) (n : Nat) : State :=
  let off := o + s.offDelay n
  if s.rkind n = .budg then
    match s.rstate n with
    | .on => s.offRail n .off
    | .retryWait => s.goRail n .off
    | _ => s
  else
    match s.rstate n with
    | .waitOn | .retryWait => s.goRail n .off
    | .ramp | .on => (s.goRail n .waitOff).modRail n fun r => { r with inst := off }
    | .waitOff => if all && before off (s.railAt n).inst then s.modRail n fun r => { r with inst := off } else s
    | _ => s

/-- A rail of one of the kinds that have a group. -/
def State.grouped (s : State) (n : Nat) : Bool := s.slotted n || decide (s.rkind n = .budg)

/-! ### Leaving device states -/

/-- Every budgeted rail goes off at once (R267). A grant in force stays so until its end (R408). -/
def State.budgetOff (s : State) : State :=
  railNums.foldl (fun t n => if t.rkind n = .budg ∧ t.rstate n = .on then t.offRail n .off else t) s

/-- The grants are discarded with the rails that they held on (R386, Table 11-10). -/
def State.dropGrants (s : State) : State := s.budgetOff.modSched fun c => { c with cur := none, pend := [] }

/-- What leaving a device state for another one does: from UP the margins slew back and the budgeted rails go off; from IDLE a
wet check aborts (R322, R267, R226). -/
def State.leaveState (s : State) : State :=
  match s.seq.state with
  | .up => s.mrgBackAll.budgetOff
  | .idle => s.wetAbort
  | _ => s

/-- Clear the PHASE_OPEN bit of a rail (R414). -/
def State.clearPo (s : State) (n : Nat) : State := s.setRegBit Reg.schedPo n false

/-- UP is entered. -/
def State.enterUp (s : State) : State := (s.modSeq fun q => { q with state := .up, upAt := s.ticks }).seqEvt 0

/-- IDLE is entered. -/
def State.enterIdle (s : State) : State := (s.modSeq fun q => { q with state := .idle }).seqEvt 1

/-- DOWN_HOLD is entered: FAULTED rails become OFF, groups UP, retries return (R270, R304, R414). -/
def State.enterDownHold (s : State) : State :=
  let s := railNums.foldl (fun t n => if t.rstate n = .faulted then t.offRail n .off else t) s
  let s := s.modReact fun r => { r with rails := r.rails.map fun x => { x with used := 0 } }
  let s := s.setReg Reg.schedPo 0
  s.modSeq fun q =>
    { q with state := .downHold, grpDown := 0, grpStop := 0, downAt := s.ticks, minOff := (s.reg Reg.seqMinOff).toNat,
             downTd := none, restartT := none }

/-! ### The source pair (R284 to R290) -/

/-- The image has a source pair. -/
def State.hasPair (s : State) : Bool := (s.railOf .mains).isSome

/-- `HOLD_BATT`. -/
def State.holdBatt (s : State) : Bool := s.regBit Reg.seqSrcCtrl 0

/-- The source rail the pair selects. -/
def State.srcRail (s : State) : Option Nat :=
  match s.seq.src with
  | .mains => s.railOf .mains
  | .batt => s.railOf .batt
  | .none | .gapToBatt | .gapToMains => none

/-- The selected source rail goes off and a gap starts (R286, R305). -/
def State.srcLeave (s : State) (toBatt : Bool) : State :=
  let s := match s.srcRail with
    | some n => (s.offRail n .off).modRail n fun r => { r with deferred := none }
    | none => s
  s.modSeq fun q =>
    { q with src := if toBatt then .gapToBatt else .gapToMains, srcAt := s.ticks, srcTmo := s.regFld Reg.seqCfg 0 17, dwell := false,
             dwellAcc := 0 }

/-- The dwell of BATT runs while mains is good and `HOLD_BATT` is 0 (R286). Only a loss of mains restarts it from zero; `HOLD_BATT` holds
it up. The length is captured when it starts from zero (R261). -/
def State.dwellJudge (s : State) : State :=
  if !s.sourceGood .mains then s.modSeq fun q => { q with dwell := false, dwellAcc := 0 }
  else if s.holdBatt then
    (if s.seq.dwell then s.modSeq fun q => { q with dwell := false, dwellAcc := s.ticks - q.srcAt } else s)
  else if s.seq.dwell then s
  else s.modSeq fun q =>
    { q with dwell := true, srcAt := s.ticks - q.dwellAcc, dwellAcc := 0,
             srcTmo := if q.dwellAcc = 0 then (s.reg Reg.seqSrcDwell).toNat else q.srcTmo }

/-- R286 applied to the status of this instant; the pair does not move in HOLD and ADOPT, and a loss of mains in HOLD restarts the dwell
all the same (R278, R279, R286). -/
def State.srcJudge (s : State) : State :=
  if !s.seqRuns || decide (s.seq.state = .adopt) then s
  else
    match s.seq.src with
    | .mains => if decide (s.seq.state ≠ .hold) && (!s.sourceGood .mains || s.holdBatt) then s.srcLeave true else s
    | .batt => s.dwellJudge
    | _ => s

/-- The pair enters MAINS or BATT: the rail ramps; every entry but the first after T0 counts as a hand-over (R286, R287). -/
def State.srcEnter (s : State) (batt first : Bool) : State :=
  match s.railOf (if batt then .batt else .mains) with
  | none => s
  | some n =>
    let s := s.enterRamp n
    let s := s.modSeq fun q => { q with src := if batt then .batt else .mains, dwell := false, dwellAcc := 0, srcFirst := true }
    let s := if first then s
      else (s.modSeq fun q => { q with handovers := min 0xFFFF (q.handovers + 1) }).seqEvt 4
    s.srcJudge

/-- The first selection at T0 + `ON_DELAY` (R285). -/
def State.srcSelect (s : State) : State :=
  let batt := !s.sourceGood .mains || s.holdBatt
  match s.railOf (if batt then .mains else .batt) with
  | some other => (s.goRail other .off).srcEnter batt true
  | none => s

/-- The pair's off instant: the selected rail is OFF, a gap ends, the pair is NONE (R289). -/
def State.srcStop (s : State) : State :=
  let s := match s.srcRail with
    | some n => if s.rstate n = RailState.faulted then s else s.offRail n .off
    | none => s
  s.modSeq fun q => { q with src := .none, srcOff := none, dwell := false, dwellAcc := 0 }

/-! ### Settling after a change (R269, R282) -/

/-- Every rail of a group is OFF or FAULTED. -/
def State.groupOff (s : State) (g : Nat) : Bool :=
  railNums.all fun n => !(s.grouped n && decide (s.group n = g)) || decide (s.rstate n = .off) || decide (s.rstate n = .faulted)

/-- Groups whose stop has ended are DOWN. -/
def State.settleGroups (s : State) : State :=
  (List.range 8).foldl
    (fun t g =>
      if t.seq.grpStop.getLsbD g && t.groupOff g then
        t.modSeq fun q => { q with grpStop := q.grpStop &&& ~~~(BitVec.ofNat 8 (2 ^ g)), grpDown := q.grpDown ||| BitVec.ofNat 8 (2 ^ g) }
      else t) s

/-- Every expected rail is ON or in a group that is DOWN (R269, R285). -/
def State.allUp (s : State) : Bool :=
  (railNums.all fun n => !s.slotted n || decide (s.rstate n = .on) || s.seq.grpDown.getLsbD (s.group n)) &&
    (!s.hasPair || (match s.srcRail with | some n => decide (s.rstate n = .on) | none => false))

/-- Every rail is OFF or FAULTED, and the pair is NONE. -/
def State.allOff (s : State) : Bool :=
  (railNums.all fun n => decide (s.rstate n = .off) || decide (s.rstate n = .faulted)) && decide (s.seq.src = .none)

/-- Every admitted node has reported DOWN_HOLD (R273). A node counts from its report until it reports RISING or UP, so that one whose own
DOWN_HOLD has ended before the master's keeps counting (DESIGN CHOICE, log entry 17). -/
def State.nodesDown (s : State) : Bool := nodeNums.all fun n => !(s.node n).admitted || s.seq.downSeen.getLsbD n

/-- A cascade START whose launch time the master has still to choose waits in the queue. -/
def State.startQueued (s : State) : Bool :=
  s.ridge.m.queue.any fun q => decide (q.cmd.op = 1) && decide (q.cmd.dst = dstAll) && q.chooseT

/-- The master's restart: at Td, which is its own entry into DOWN_HOLD where every node reported before it, and with `START_REQ` set, the
cascade START goes out with T0 = Td + `MIN_OFF` (R273). Where a later START leaves less than 2,000 µs for that, the master chooses the
earliest launch time (R373; DESIGN CHOICE, log entry 17). -/
def State.masterRestart (s : State) : State :=
  if !s.isRole .mst || s.seq.state ≠ .downHold then s
  else
    let s := if s.seq.downTd.isNone && s.nodesDown then s.modSeq fun q => { q with downTd := some s.ticks } else s
    match s.seq.downTd with
    | some td =>
      if !s.seq.startReq || s.seq.restartT.isSome || s.startQueued then s
      else if s.ticks + 2000 ≤ td + s.seq.minOff then
        let t := s.after (td + s.seq.minOff - s.ticks)
        (s.modSeq fun q => { q with restartT := some t }).cascade 1 (some t) 0
      else s.cascade 1 none 0
    | none => s

/-- The automatic device transitions after a change of rails. At the end of a SYSTEM FALLING the device waits for the record (R308). -/
def State.settle (s : State) : State :=
  let s := s.settleGroups
  match s.seq.state with
  | .rising => if s.allUp then s.enterUp else s
  | .falling =>
    if !s.allOff then s
    else if s.seq.sysFall then (if s.react.sysEnd.isSome then s else s.modReact fun r => { r with sysEnd := some s.ticks })
    else s.enterDownHold.masterRestart
  | _ => s

/-! ### Sequences (R257, R261, R263, R269) -/

/-- RISING begins with origin T0. -/
def State.enterRising (s : State) (t0 : BitVec 32) : State :=
  let s := s.leaveState
  let s := ((s.setReg Reg.seqT0 t0).setReg Reg.reactFirst 0).setReg Reg.reactFirstT 0
  let pairOn := match s.railOf .mains with | some m => s.onDelay m | none => 0
  let s := railNums.foldl
    (fun t n =>
      if (t.slotted n || t.isSource n) && (decide (t.rstate n = .off) || decide (t.rstate n = .faulted)) then
        (t.offRail n .waitOn).modRail n fun r => { r with inst := t0 + (if t.isSource n then pairOn else t.onDelay n) }
      else t) s
  (s.modSeq fun q => { q with state := .rising, src := .none, srcFirst := false, srcOff := none, restartT := none }).settle

/-- A source rail at Ts: out of WAIT_ON and RETRY_WAIT it is OFF, and out of RAMP it waits in WAIT_OFF for the pair's off instant
(Table 8-3, R288, R289). -/
def State.stopSource (s : State) (n : Nat) : State :=
  match s.rstate n with
  | .waitOn | .retryWait => s.goRail n .off
  | .ramp => s.goRail n .waitOff
  | _ => s

/-- FALLING begins with origin Ts, or a FALLING in progress becomes a SYSTEM one. -/
def State.enterFalling (s : State) (ts : BitVec 32) (system : Bool) : State :=
  if s.seq.state = .falling then (s.modSeq fun q => { q with sysFall := q.sysFall || system }).settle
  else
    let s := (s.leaveState.setReg Reg.seqTstop ts).seqEvt 6
    let s := railNums.foldl
      (fun t n =>
        if t.isSource n then t.stopSource n else t.stopRail ts true n) s
    let off := match s.railOf .mains with | some m => some (ts + s.offDelay m) | none => none
    (s.modSeq fun q =>
      { q with state := .falling, sysFall := system, srcOff := if q.src = .none then none else off }).settle

/-- A group stop with origin `o` (R282): ignored for a group already stopping or DOWN. -/
def State.groupStop (s : State) (o : BitVec 32) (g : Nat) : State :=
  if s.seq.grpStop.getLsbD g || s.seq.grpDown.getLsbD g then s
  else
    let s := s.modSeq fun q => { q with grpStop := q.grpStop ||| BitVec.ofNat 8 (2 ^ g) }
    (railNums.foldl (fun t n => if t.grouped n ∧ t.group n = g then t.stopRail o false n else t) s).settle

/-- A rise of a DOWN group at T (R283, R304, R414). -/
def State.groupRise (s : State) (t0 : BitVec 32) (g : Nat) : State :=
  let s := railNums.foldl
    (fun t n =>
      if t.grouped n ∧ t.group n = g then
        let t := (t.modReactAt n fun r => { r with used := 0 }).clearPo n
        if t.rstate n = .off ∨ t.rstate n = .faulted then
          if t.slotted n then (t.offRail n .waitOn).modRail n fun r => { r with inst := t0 + t.onDelay n }
          else t.offRail n .off
        else t
      else t) s
  (s.modSeq fun q => { q with grpDown := q.grpDown &&& ~~~(BitVec.ofNat 8 (2 ^ g)) }).settle

/-! ### START and STOP at their launch instants (R273, R277) -/

/-- A slave that has not been admitted since its role started raises no rail (R157, R384). -/
def State.unjoined (s : State) : Bool := s.isRole .slv && !s.ridge.s.once

/-- Launch of a START (Table 8-6). `fab`: from the fabric; `ridge`: from the Ridge link. Before its first admission a slave refuses it. -/
def State.startAt (s : State) (t : BitVec 32) (fab ridge : Bool) : State :=
  if s.unjoined then s.refuseLaunch 2 else
  let s := if fab || decide (s.seq.state = .hold) || decide (s.seq.state = .adopt) then s
    else s.modReact fun r => { r with sysCnt := 0, lockout := false }
  let req := s.modSeq fun q => { q with startReq := true }
  match s.seq.state with
  | .idle => req.enterRising t
  | .rising | .up | .falling => req
  | .downHold => if ridge && s.isRole .slv then req.enterRising t else req.masterRestart
  | .hold => s.refuseLaunch 2
  | .adopt => s.modSeq fun q => { q with heldStart := some fab }

/-- Launch of a STOP (Table 8-6). -/
def State.stopAt (s : State) (t : BitVec 32) : State :=
  let noReq := s.modSeq fun q => { q with startReq := false }
  match s.seq.state with
  | .idle | .falling => noReq
  | .downHold => noReq.modSeq fun q => { q with restartT := none }
  | .rising | .up => noReq.enterFalling t false
  | .hold | .adopt => s.modSeq fun q => { q with heldStop := true }

/-- Launch of a GRP_START (Table 8-6). -/
def State.grpStartAt (s : State) (t : BitVec 32) (g : Nat) : State :=
  match s.seq.state with
  | .rising | .up => if s.seq.grpDown.getLsbD g then s.groupRise t g else s.refuseLaunch 5
  | .adopt => s.modSeq fun q => { q with heldGrp := q.heldGrp ++ [{ stop := false, g := g, t := t }] }
  | .idle | .falling | .downHold | .hold => s.refuseLaunch 2

/-- Launch of a GRP_STOP (Table 8-6). -/
def State.grpStopAt (s : State) (t : BitVec 32) (g : Nat) : State :=
  match s.seq.state with
  | .rising | .up => s.groupStop t g
  | .adopt => s.modSeq fun q => { q with heldGrp := q.heldGrp ++ [{ stop := true, g := g, t := t }] }
  | .idle | .falling | .downHold | .hold => s.refuseLaunch 2

/-- A group stop asked for by a GRPDN edge: at once in RISING, UP and FALLING, after HOLD or ADOPT else (R279, R282). -/
def State.grpdnAt (s : State) (g : Nat) : State :=
  match s.seq.state with
  | .rising | .up | .falling => s.groupStop s.tb.now g
  | .hold | .adopt => s.modSeq fun q => { q with heldGrp := q.heldGrp ++ [{ stop := true, g := g, t := s.tb.now, edge := true }] }
  | .idle | .downHold => s

/-- Commands held through HOLD or ADOPT act at this instant (R277): groups, then STOP or START. -/
def State.runHeld (s : State) : State :=
  let grp := s.seq.heldGrp
  let stop := s.seq.heldStop
  let start := s.seq.heldStart
  let s := s.modSeq fun q => { q with heldGrp := [], heldStop := false, heldStart := none }
  let s := grp.foldl
    (fun t c => if c.edge then t.grpdnAt c.g else if c.stop then t.grpStopAt t.tb.now c.g else t.grpStartAt t.tb.now c.g) s
  if stop then s.stopAt s.tb.now
  else match start with
    | some fab => s.startAt s.tb.now fab false
    | none => s

/-! ### Reactions (R299 to R313) -/

/-- One of a node's `RACT` toggles: 3 GROUP, 4 SYSTEM, 5 SRC (R365). -/
def State.toggleRact (s : State) (i : Nat) : State :=
  s.modRidge fun r => { r with s := { r.s with ract := r.s.ract ^^^ BitVec.ofNat 8 (2 ^ i) } }

/-- A GROUP reaction of a rail shows in `RACT` and, on a master, may go to the cascade (R313). -/
def State.reportGroup (s : State) (g : Nat) : State :=
  let s := (s.reactEvt 2).modRidge fun r =>
    { r with s := { r.s with ract := ((r.s.ract >>> 3) <<< 3) ||| BitVec.ofNat 8 (g % 8) } }
  let s := s.toggleRact 3
  if s.isRole .mst && decide (s.regFld Reg.reactCasc 0 2 = 1) then s.cascadeReaction 4 (w32 (g % 8)) else s

/-- `LAST` of a rail. -/
def State.setLast (s : State) (n : Nat) (r : Nat) : State := s.modReactAt n fun x => { x with last := BitVec.ofNat 2 r }

/-- A RETRY reaction escalated (R303). -/
def State.escalated (s : State) (n : Nat) : State := (s.modReactAt n fun x => { x with esc := true }).reactEvt 3

/-- A rail under RETRY enters RETRY_WAIT (R303). -/
def State.retryRail (s : State) (n : Nat) : State :=
  let s := (s.modReactAt n fun x => { x with used := min 15 (x.used + 1) }).setLast n 1
  let s := (s.goRail n .retryWait).modRail n fun r => { r with since := s.ticks, tmo := s.retryGap n }
  (s.reactEvt 1).countEvent n .retry

/-- A SYSTEM reaction (R307 to R309, R315): counted, then FALLING with Ts = Tf; in a FALLING in progress it counts all the same. -/
def State.systemReaction (s : State) : State :=
  let cnt := min 0xFF (s.react.sysCnt + 1)
  let again := decide (cnt ≤ s.regFld Reg.reactSys 8 4)
  let s := s.modReact fun r => { r with sysCnt := cnt, sysEvt := true, restart := again, lockout := r.lockout || !again }
  let s := s.toggleRact 4
  let s := if s.isRole .mst && decide (s.regFld Reg.reactCasc 4 2 = 2) then s.cascadeReaction 2 0 else s
  s.enterFalling s.tb.now true

/-- What R303 decides for a rail: the reaction to run, and whether it is an escalation. -/
def State.decided (s : State) (n : Nat) : Reaction × Bool :=
  match s.reaction n with
  | .retry =>
    if (s.reactAt n).used < s.retryMax n then (.retry, false)
    else (if s.escSystem n then .system else .group, true)
  | r => (r, false)

/-- The SRC reaction asked for in a set, if an SRC edge is in it: `REACT_SRC.ACT`. -/
def State.srcAct (s : State) (src : Bool) : Option Nat := if src then some (s.regFld Reg.reactSrc 0 2) else none

/-- `REACT_FIRST` and `REACT_FIRST_T` take an event (R312). -/
def State.setFirst (s : State) (e : FaultEv) : State :=
  ((s.setReg Reg.reactFirst
    (pack [(1, 31, 1), (e.rail, 16, 5), (s.regFld (Reg.reactRailCfg e.rail) 0 2, 8, 2), (e.st.code, 0, 3)])).setReg
      Reg.reactFirstT s.tb.now).modReact fun r => { r with firstAt := s.ticks }

/-- The faults of a set are counted, recorded and captured (R312, R330, R338, R343). `pre`: the state before the set. A later set with
the same Tf and a lower rail takes the place of the first fault in `REACT_FIRST`. -/
def State.countFaults (s pre : State) (evs : List FaultEv) : State :=
  let s := evs.foldl (fun t e => t.countEvent e.rail .fault) s
  match evs with
  | [] => s
  | e :: rest =>
    if s.regBit Reg.reactFirst 31 then
      let s := if s.react.firstAt = s.ticks ∧ e.rail < s.regFld Reg.reactFirst 16 5 then s.setFirst e else s
      evs.foldl (fun t x => t.captureHistory pre x) s
    else
      let s := s.setFirst e
      rest.foldl (fun t x => t.captureHistory pre x) (s.captureRecord pre e rest.length)

/-- Steps 2 to 5 of R311 for the rails of `react` (FAULTED, ascending), GRPDN groups and an SRC edge. `late`: the set is
processed at an ADOPT exit, where no rail retries outside RISING and UP. -/
def State.runReactions (s : State) (react grpdn : List Nat) (src late : Bool) : State :=
  let dec := react.map fun n => (n, s.decided n)
  let sys := dec.filter fun d => decide (d.2.1 = .system)
  let live := decide (s.seq.state = .rising) || decide (s.seq.state = .up)
  let s := if src then
      let s := (s.modSeq fun q => { q with startReq := false }).reactEvt 4
      let s := s.toggleRact 5
      if s.isRole .mst && s.regBit Reg.reactSrc 2 then s.cascadeReaction 2 0 else s
    else s
  if !sys.isEmpty then
    let s := sys.foldl (fun (t : State) d => let t := t.setLast d.1 3; if d.2.2 then t.escalated d.1 else t) s
    s.systemReaction
  else if s.srcAct src = some 0 ∧ live then s.enterFalling s.tb.now false
  else if s.srcAct src = some 0 ∧ s.seq.state = .hold then s.modSeq fun q => { q with heldStop := true }
  else
    let grp := dec.filter fun d => decide (d.2.1 = .group)
    let s := grp.foldl
      (fun (t : State) d => let t := (t.setLast d.1 2).reportGroup (t.group d.1); if d.2.2 then t.escalated d.1 else t) s
    let mask := if s.srcAct src = some 1 ∧ live then s.regFld Reg.reactSrc 8 8 else 0
    let named := (List.range 8).filter fun g =>
      (grp.any fun d => decide (s.group d.1 = g)) || grpdn.contains g || decide (mask / 2 ^ g % 2 = 1)
    let s := named.foldl
      (fun (t : State) g => if grpdn.contains g && !(grp.any fun d => decide (s.group d.1 = g)) && !decide (mask / 2 ^ g % 2 = 1)
        then t.grpdnAt g
        else match t.seq.state with | .rising | .up | .falling => t.groupStop t.tb.now g | _ => t) s
    dec.foldl
      (fun (t : State) (d : Nat × Reaction × Bool) =>
        if d.2.1 ≠ .retry ∨ (t.grouped d.1 ∧ named.contains (t.group d.1)) ∨
           (late ∧ t.seq.state ≠ .rising ∧ t.seq.state ≠ .up) ∨ t.rstate d.1 ≠ .faulted then t
        else t.retryRail d.1) s

/-- Step 1 of R311 for one rail: the state after it, whether the event counts, and whether its reaction is to run. -/
def State.takeFault (s : State) (e : FaultEv) : State × Bool × Bool :=
  let n := e.rail
  if s.rkind n = .none then (s, false, false)
  else
    let ign := decide (s.reaction n = .ignore)
    match s.rstate n with
    | .ramp =>
      let s := (s.modRail n fun r => { r with rampFail := true, inWin := none }).seqEvt 2
      if ign then ((((s.setEn n true).enterOn n).reactEvt 0).setLast n 0, true, false)
      else (s.offRail n .faulted, true, true)
    | .on =>
      if ign then ((s.reactEvt 0).setLast n 0, true, false)
      else if s.seq.state = .hold then
        ((s.offRail n .faulted).modRail n fun r => { r with deferred := some e.code.code, deferSt := .on }, false, false)
      else (s.offRail n .faulted, true, true)
    | .waitOff => ((s.modRail n fun r => { r with waitFault := true }).enterDischarge n, true, false)
    | _ => (s, false, false)

/-- R311: the fault events of one cycle, in ascending rail order, with its GRPDN edges and an SRC edge. -/
def State.faultSet (s : State) (evs : List FaultEv) (grpdn : List Nat) (src : Bool) : State :=
  let pre := s
  let r := evs.foldl
    (fun (a : State × List FaultEv × List Nat) e =>
      let e := { e with st := a.1.rstate e.rail }
      let (t, cnt, act) := a.1.takeFault e
      (t, if cnt then a.2.1 ++ [e] else a.2.1, if act then a.2.2 ++ [e.rail] else a.2.2))
    (s, [], [])
  ((r.1.countFaults pre r.2.1).runReactions r.2.2 grpdn src false).settle

/-- IGNORE for a rail found FAULTED at an ADOPT exit: counted only; it stays or becomes ON while the device is UP, unless it is a
budgeted rail or a source rail the pair does not select (R154, R264), and counts as an entry into ON (R343). -/
def State.ignoreAdopted (s : State) (n : Nat) : State :=
  let s := (s.reactEvt 0).setLast n 0
  if s.seq.state ≠ .up then s
  else if s.rkind n = .budg ∨ (s.isSource n ∧ s.srcRail ≠ some n) then s.offRail n .off
  else (s.setEn n true).enterOn n

/-- The faults deferred by HOLD or found by ADOPT are taken now (R153, R279, R280): the state without their marks. Their
Tf is this instant (R333). `pre`: the state before the event, for the captures (R331). -/
def State.runDeferred (s pre : State) (late : Bool) : State :=
  let codeOf (c : Nat) : FaultCode :=
    match c with | 1 => .edge | 2 => .rampTimeout | 4 => .guard | 5 => .phaseOpen | _ => .adopt
  let evs := railNums.filterMap fun n =>
    match (s.railAt n).deferred with
    | some c => some ({ rail := n, code := codeOf c, st := (s.railAt n).deferSt } : FaultEv)
    | none => none
  let s := evs.foldl (fun t e => t.modRail e.rail fun r => { r with deferred := none }) s
  let s := s.countFaults pre evs
  let due := (evs.map fun e => e.rail).filter fun n => decide (s.rstate n = .faulted)
  let s := due.foldl (fun t n => if t.reaction n = .ignore then t.ignoreAdopted n else t) s
  (s.runReactions (due.filter fun n => decide (s.reaction n ≠ .ignore)) [] false late).settle

/-! ### What follows a change of a comparator (R77, R182, R263, R279, R286) -/

/-- A ramping rail notes when its sense came inside its window (Table 8-3). -/
def State.trackRamp (s : State) (n : Nat) : State :=
  if s.rstate n ≠ .ramp then s
  else if s.inside (s.sense n) then
    (if (s.railAt n).inWin.isSome then s else s.modRail n fun r => { r with inWin := some s.ticks })
  else s.modRail n fun r => { r with inWin := none }

/-- The reload guard acts on the level of the sense outputs of every ON rail whose reaction is not IGNORE (R182, R183). -/
def State.guardTrip (s : State) : State :=
  if !s.fab.guard then s
  else railNums.foldl
    (fun t n =>
      if t.rstate n = .on ∧ t.rkind n ≠ .none ∧ t.reaction n ≠ .ignore ∧
         (t.cmpOut (t.sense n) false || t.cmpOut (t.sense n) true) then
        (t.offRail n .faulted).modRail n fun r => { r with deferred := some FaultCode.guard.code, deferSt := .on }
      else t) s

/-- In HOLD a loss of the selected source, against the state `old`, is a fault of that rail (R279). -/
def State.holdSource (s old : State) : State :=
  if s.seq.state ≠ .hold then s
  else
    match s.srcRail with
    | some n =>
      if s.inside (s.sense n) || !old.inside (s.sense n) || decide (s.rstate n ≠ .on) then s
      else
        let pre := s
        let e : FaultEv := { rail := n, code := .edge, st := .on }
        let (t, cnt, _) := s.takeFault e
        if cnt then t.countFaults pre [e] else t
    | none => s

/-- A rising edge of `SRC_FAULT` against the state `old` (R77). -/
def State.watchSrc (s old : State) : State :=
  if s.srcFault && !old.srcFault then s.modSupply fun p => { p with srcEdge := true, srcEvt := true } else s

/-- Everything that watches the comparators judges the state after a change from `old`. -/
def State.watch (s old : State) : State :=
  let s := s.watchSrc old
  if !s.rail then s
  else ((railNums.foldl State.trackRamp s).guardTrip.holdSource old).srcJudge

/-- A write of `CMP_CHK_CTRL` (R247, R248): GO with no channel aborts the running check, with a channel it starts one. -/
def State.chkWrite (s : State) (v : Word) : State :=
  if !bit v 24 then s
  else if fld v 0 24 = 0 then s.chkAbortNow.watch s
  else s.chkStart v

/-! ### Commands of `SEQ_CTRL` (R275 to R280) -/

/-- The minimum lead of a sequence command (R275). -/
def State.minLead (s : State) : Nat := if s.isRole .mst then 2000 else 100

/-- A launch time less than k µs ahead, or past. -/
def State.tooLate (s : State) (t : BitVec 32) (k : Nat) : Bool := decide (s.until t < k) || s.past t

/-- A START becomes the pending one and, on a master, goes to the cascade. -/
def State.acceptStart (s : State) (t : BitVec 32) (fab : Bool) : State :=
  let s := ((s.modSeq fun q => { q with pendStart := some (t, fab) }).dropKept 1).setCmdErr 0
  if s.isRole .mst then (s.unqueue 1).cascade 1 (some t) 0 else s

/-- A STOP becomes the pending one and, on a master, goes to the cascade. -/
def State.acceptStop (s : State) (t : BitVec 32) : State :=
  let s := ((s.modSeq fun q => { q with pendStop := some t }).dropKept 2).setCmdErr 0
  if s.isRole .mst then (s.unqueue 2).cascade 2 (some t) 0 else s

/-- A group command is kept until its launch time. -/
def State.acceptGrp (s : State) (stop : Bool) (t : BitVec 32) (g : Nat) : State :=
  let s := (s.modSeq fun q => { q with pendGrp := q.pendGrp ++ [{ stop := stop, g := g, t := t }] }).setCmdErr 0
  if s.isRole .mst then s.cascade (if stop then 4 else 3) (some t) (w32 g) else s

/-- A rail or hand-over in progress keeps HOLD out (R278). -/
def State.seqBusy (s : State) : Bool :=
  (railNums.any fun n => (s.slotted n || s.isSource n) &&
    (match s.rstate n with | .waitOn | .ramp | .waitOff | .discharge | .retryWait => true | _ => false)) ||
    decide (s.seq.src = .gapToBatt) || decide (s.seq.src = .gapToMains)

/-- HOLD (R278). -/
def State.holdCmd (s : State) : State :=
  if s.seq.state ≠ .idle ∧ s.seq.state ≠ .up then s.setCmdErr 2
  else if s.seqBusy then s.setCmdErr 3
  else
    let from_ := s.seq.state
    (s.leaveState.modSeq fun q => { q with state := .hold, holdFrom := from_ }).setCmdErr 0

/-- RELEASE (R280): the deferred reactions run, then the pair is judged (R286, R305) and held commands act. -/
def State.releaseCmd (s : State) : State :=
  if s.seq.state ≠ .hold then s.setCmdErr 2
  else
    let t := if s.seq.holdFrom = .up then s.enterUp else s.enterIdle
    ((t.setCmdErr 0).runDeferred s false).srcJudge.runHeld

/-- A write of `SEQ_CTRL` (Table 8-13). -/
def State.seqCtrlWrite (s : State) (v : Word) : State :=
  let t := if bit v 7 then s.after s.minLead else s.reg Reg.seqLaunch
  let g := fld v 8 3
  match fld v 0 4 with
  | 0 => s
  | 1 => if s.seq.state = .hold then s.setCmdErr 2 else if s.tooLate t s.minLead then s.setCmdErr 1 else s.acceptStart t false
  | 2 => if s.tooLate t s.minLead then s.setCmdErr 1 else s.acceptStop t
  | 3 => s.holdCmd
  | 4 => s.releaseCmd
  | 5 => if s.tooLate t s.minLead then s.setCmdErr 1 else s.acceptGrp false t g
  | 6 => if s.tooLate t s.minLead then s.setCmdErr 1 else s.acceptGrp true t g
  | _ => s.setCmdErr 4

/-! ### Margin commands (R320) -/

/-- Why DAC m refuses a command; 0: accepted. Edges of the same cycle whose step is still due count (R320). -/
def State.mrgRefuses (s : State) (cmd m : Nat) : Nat :=
  if cmd = 3 then 5
  else
    match s.mrgCh m with
    | none => 3
    | some n =>
      if cmd = 0 then 0
      else if s.seq.state ≠ .up then 1
      else if s.rstate n ≠ .on || (s.edgeWaits n && decide (s.reaction n ≠ .ignore)) then 2
      else if s.sinkBit 0x49 || s.edgeWaits 0x49 then 4
      else 0

/-- An accepted command acts on DAC m; a margin that starts masks the warnings of its channel (R244). -/
def State.mrgAccept (s : State) (cmd m : Nat) : State :=
  if cmd = 0 then s.mrgBack m
  else
    let low := decide (cmd = 2)
    let goal := s.mrgGoal m low
    let s := match s.mrgCh m with | some n => s.modCmpCh n fun c => { c with masked := true } | none => s
    s.modDac m fun d =>
      { d with state := if d.cur = goal then .held else .slewOut, goal := goal, target := low, cmdAt := s.ticks, stepAt := s.ticks,
               wcntH := if d.state = .nominal then 0 else d.wcntH, wcntL := if d.state = .nominal then 0 else d.wcntL }

/-- A margin command for the DACs of a mask; `MRG_ERR` reports it (R320). -/
def State.marginCmd (s : State) (cmd mask : Nat) : State :=
  let named := (List.range 8).filter fun m => decide (mask / 2 ^ m % 2 = 1)
  let bad := named.filter fun m => decide (s.mrgRefuses cmd m ≠ 0)
  let err := match bad with | [] => 0 | m :: _ => s.mrgRefuses cmd m
  let s := (named.filter fun m => !bad.contains m).foldl (fun t m => t.mrgAccept cmd m) s
  s.setReg Reg.mrgErr (pack [((bad.map fun m => 2 ^ m).sum, 8, 8), (err, 0, 4)])

/-- A write of `MRG_CTRL`. -/
def State.mrgCtrlWrite (s : State) (v : Word) : State := s.marginCmd (fld v 8 2) (fld v 0 8)

/-! ### Resets (R298, R326) -/

/-- The sequencer and the reactions at L0, L1 or L2. -/
def State.resetSeq (s : State) : State :=
  (((s.modSeq fun _ => Seq.init).modReact fun r =>
    { React.init with sysCnt := r.sysCnt, lockout := r.lockout, sysEvt := r.sysEvt, restart := r.restart }).modMrg fun _ => Mrg.init).modSupply
      fun p => { p with srcEdge := false }

end Sys2Proof.Machine
end

