-- ==== Sys2Proof/Machine/SeqExec.lean ====
section
/-! DEFINITION. Events of the comparators, the sequencer, the source pair and the margin DACs
(spec/03_supplies_clocks_and_start_up.md R77; spec/07_fast_comparators.md R231 to R238; spec/08_rail_sequencer.md R263 to R290;
spec/09_fault_reactions_and_margining.md R303 to R322). -/

namespace Sys2Proof.Machine

/-! ### Comparator events -/

/-- COMPARATOR_CROSSING (R238): the input crosses its threshold for `width` ns. -/
def execComparatorCrossing (n : Nat) (high : Bool) (width : Nat) (s : State) : Out :=
  if 24 ≤ n then ok s else ok ((s.crossing n high width).watch s)

/-- COMPARATOR_RELEASE (R231). -/
def execComparatorRelease (n : Nat) (high : Bool) (s : State) : Out :=
  if 24 ≤ n then ok s else ok ((s.releaseIn n high).watch s)

/-- DEGLITCH_QUALIFY (R237). -/
def execDeglitchQualify (n : Nat) (high : Bool) (s : State) : Out :=
  if 24 ≤ n then ok s else ok ((s.qualify n high).watch s)

/-- ARM_HOLD_EXPIRY (R235). -/
def execArmHoldExpiry (n : Nat) (high : Bool) (s : State) : Out :=
  if 24 ≤ n then ok s else ok ((s.armExpiry n high).watch s)

/-- NEWT_STROBE (R236). -/
def execNewtStrobe (n : Nat) (high : Bool) (code : Int) (s : State) : Out :=
  if 24 ≤ n then ok s else ok ((s.strobe n high code).watch s)

/-- SRC_RECOVER (R341): the FL input of the SRC channel returns past its release level; logging goes on once `SRC_FAULT` reads 0. -/
def execSrcRecover (s : State) : Out :=
  match s.srcCh with
  | some n => ok ((s.releaseIn n false).watch s)
  | none => ok s

/-! ### Launches (R277) -/

/-- Sequence commands that a slave has from the link and keeps for their T. -/
def State.kept (s : State) (op : Nat) : List RidgeCmd :=
  if s.isRole .slv then s.ridge.s.timed.filter fun c => decide (c.op = op) else []

/-- Launch times of the pending commands, the link's among them. -/
def State.launches (s : State) : List (BitVec 32) :=
  (match s.seq.pendStart with | some (t, _) => [t] | none => []) ++ s.seq.pendStop.toList ++ (s.seq.pendGrp.map fun c => c.t) ++
    ([1, 2, 3, 4].flatMap s.kept).map fun c => c.arg0

/-- A launch is due and no pending command lies earlier (R276). While `CLK_CORE` stands, launches wait (R108, R131; log entry 30). -/
def State.launchDue (s : State) (t : BitVec 32) : Bool := s.coreRuns && s.due t && !(s.launches.any fun u => before u t)

/-- A STOP with launch instant t is pending. -/
def State.stopAtSame (s : State) (t : BitVec 32) : Bool :=
  decide (s.seq.pendStop = some t) || (s.kept 2).any fun c => decide (c.arg0 = t)

/-- The pending STARTs of instant t give way to the STOP of the same instant (R276). -/
def State.dropStarts (s : State) (t : BitVec 32) : State :=
  (s.modSeq fun q =>
    { q with pendStart := match q.pendStart with | some (x, b) => if x = t then none else some (x, b) | none => none }).modRidge fun r =>
    { r with s := { r.s with timed := r.s.timed.filter fun c => !(decide (c.op = 1) && decide (c.arg0 = t)) } }

/-- The launch of a command of this device's own. On a master whose cascade command is still in the queue at its T, no frame can carry
it any more: it is dropped, and the master does not execute it either (R372). -/
def State.launchOwn (s : State) (op : Nat) (t : BitVec 32) (arg1 : Word) (u : State) : Out :=
  match s.ridge.m.queue.find? fun q =>
      decide (q.cmd.op = op) && decide (q.cmd.dst = dstAll) && !q.chooseT && decide (q.cmd.arg0 = t) && decide (q.cmd.arg1 = arg1) with
  | some q => if s.isRole .mst then ok ((s.modRidge fun r => { r with m := { r.m with queue := r.m.queue.erase q } }).dropCmd q) else ok u
  | none => ok u

/-- START_LAUNCH (R277); a STOP of the same instant leaves only the STOP (R276). -/
def execStartLaunch (s : State) : Out :=
  match s.seq.pendStart with
  | some (t, fab) =>
    if !s.launchDue t then ok s
    else
      let u := s.modSeq fun q => { q with pendStart := none }
      s.launchOwn 1 t 0 (if s.stopAtSame t then u else u.startAt t fab false)
  | none => ok s

/-- STOP_LAUNCH (R277). -/
def execStopLaunch (s : State) : Out :=
  match s.seq.pendStop with
  | some t =>
    if !s.launchDue t then ok s
    else
      s.launchOwn 2 t 0 (((s.modSeq fun q => { q with pendStop := none }).dropStarts t).stopAt t)
  | none => ok s

/-- The first pending group command of a kind that is due. -/
def State.grpDue (s : State) (stop : Bool) : Option GrpCmd := s.seq.pendGrp.find? fun c => (c.stop == stop) && s.launchDue c.t

/-- GRP_START_LAUNCH (R283). -/
def execGrpStartLaunch (s : State) : Out :=
  match s.grpDue false with
  | some c => s.launchOwn 3 c.t (w32 c.g) ((s.modSeq fun q => { q with pendGrp := q.pendGrp.erase c }).grpStartAt c.t c.g)
  | none => ok s

/-- GRP_STOP_LAUNCH (R282). -/
def execGrpStopLaunch (s : State) : Out :=
  match s.grpDue true with
  | some c => s.launchOwn 4 c.t (w32 c.g) ((s.modSeq fun q => { q with pendGrp := q.pendGrp.erase c }).grpStopAt c.t c.g)
  | none => ok s

/-! ### Rail events (R263) -/

/-- Delays and timeouts advance: not in HOLD (R278), and not while `CLK_CORE` stands (R108, R131). -/
def State.seqCounts (s : State) : Bool := s.seqRuns && decide (s.seq.state ≠ .hold) && s.coreRuns

/-- A STOP, or a group stop of the rail's group, whose launch instant has come is still to act, and comes before the end of a delay or
timeout of this instant (R265). -/
def State.stopDue (s : State) (n : Nat) : Bool :=
  let mine (g : Nat) : Bool := s.grouped n && decide (s.group n = g)
  (match s.seq.pendStop with | some t => s.due t | none => false) ||
    (s.seq.pendGrp.any fun c => c.stop && mine c.g && s.due c.t) ||
    (s.isRole .slv && s.ridge.s.timed.any fun c =>
      s.due c.arg0 && (decide (c.op = 2) || (decide (c.op = 4) && mine (fld c.arg1 0 3))))

/-- Rail n's on instant has come: its EN turns on, or the pair selects (R263, R285). -/
def State.railOn (s : State) (n : Nat) : State :=
  if !s.seqCounts || s.rstate n ≠ .waitOn || !s.due (s.railAt n).inst || s.stopDue n then s
  else if s.isSource n then
    let batt := !s.sourceGood .mains || s.holdBatt
    match s.railOf (if batt then .batt else .mains) with
    | some m => if s.seq.src = .none ∧ s.canTurnOn m then s.srcSelect else s
    | none => s
  else if s.canTurnOn n then s.enterRamp n else s

/-- RAIL_ON_INSTANT (R263). -/
def execRailOnInstant (n : Nat) (s : State) : Out := ok (s.railOn n)

/-- RAMP_IN_WINDOW (R263): inside the window for 10 µs. -/
def execRampInWindow (n : Nat) (s : State) : Out :=
  match (s.railAt n).inWin with
  | some t =>
    if s.seqCounts && decide (s.rstate n = .ramp) && s.passed t 10 && !s.edgeWaits n && !s.stopDue n
    then ok ((s.rampDone n).settle.watch s) else ok s
  | none => ok s

/-- RAIL_OFF_INSTANT (R263, R289); a REACT edge that still waits comes first (R265). -/
def execRailOffInstant (n : Nat) (s : State) : Out :=
  if !s.seqCounts then ok s
  else if s.edgeWaits n then ok s
  else if s.isSource n then
    match s.seq.srcOff with
    | some t => if s.due t then ok s.srcStop.settle else ok s
    | none => ok s
  else if s.rstate n = .waitOff ∧ s.due (s.railAt n).inst then ok (s.enterDischarge n).settle
  else ok s

/-- DISCH_TIMEOUT (R263). -/
def execDischTimeout (n : Nat) (s : State) : Out :=
  let r := s.railAt n
  if s.seqCounts && decide (r.state = .discharge) && s.passed r.since r.tmo then
    ok (((s.goRail n .off).modRail n fun r => { r with dischFail := true }).seqEvt 3).settle
  else ok s

/-- A publication that shows the sense at or below `DISCH_LEVEL` ends DISCHARGE (R263, R208). -/
def State.dischPublished (s : State) (chans : List Nat) : State :=
  (railNums.foldl
    (fun t n =>
      if t.rstate n = .discharge ∧ chans.contains (t.sense n) ∧ t.valid (t.sense n) ∧
         t.value (t.sense n) ≤ sfld (t.reg (Reg.seqRailDisch n)) 8 24 then t.goRail n .off else t) s).settle

/-- RETRY_GAP_EXPIRY (R303, R305). -/
def execRetryGapExpiry (n : Nat) (s : State) : Out :=
  let r := s.railAt n
  if !(s.seqCounts && decide (r.state = .retryWait) && s.passed r.since r.tmo) || s.stopDue n then ok s
  else if s.rkind n = .budg then ok ((s.goRail n .off).clearPo n)
  else if s.isSource n ∧ s.srcRail ≠ some n then ok (s.goRail n .off)
  else if s.canTurnOn n then ok (s.enterRamp n)
  else ok s

/-- MIN_OFF_EXPIRY (R273). -/
def execMinOffExpiry (s : State) : Out :=
  if !s.seqRuns || s.seq.state ≠ .downHold then ok s
  else if !s.seq.startReq || s.isRole .slv then
    if s.passed s.seq.downAt s.seq.minOff then ok (s.modSeq fun q => { q with restartT := none }).enterIdle else ok s
  else if s.isRole .mst then
    match s.seq.restartT with
    | some t => if s.due t then ok (s.enterRising t) else ok s
    | none => ok s.masterRestart
  else if s.passed s.seq.downAt s.seq.minOff then ok (s.enterRising s.tb.now)
  else ok s

/-- FORGIVE_EXPIRY (R304). -/
def execForgiveExpiry (n : Nat) (s : State) : Out :=
  if s.forgive n ≠ 0 ∧ s.rstate n = .on ∧ s.passed (s.railAt n).onAt (s.forgive n) then
    ok (s.modReactAt n fun r => { r with used := 0 })
  else ok s

/-- SYS_FORGIVE_EXPIRY (R309). -/
def execSysForgiveExpiry (s : State) : Out :=
  let k := 1000000 * s.regFld Reg.reactSys 24 8
  if s.seqRuns ∧ s.seq.state = .up ∧ k ≠ 0 ∧ s.passed s.seq.upAt k then ok (s.modReact fun r => { r with sysCnt := 0 }) else ok s

/-- BBM_GAP_EXPIRY (R286, R287): the other source rail turns on, once its pin may. A STOP whose Ts comes before the end of the gap leaves
both switches open (R289). -/
def execBbmGapExpiry (s : State) : Out :=
  let stops := decide (s.seq.state = .falling) || (match s.seq.pendStop with | some t => s.due t | none => false)
  if !s.seqCounts || !s.passed s.seq.srcAt s.seq.srcTmo || stops then ok s
  else
    let go (batt : Bool) : Out :=
      match s.railOf (if batt then .batt else .mains) with
      | some n => if s.canTurnOn n then ok (s.srcEnter batt false) else ok s
      | none => ok s
    match s.seq.src with
    | .gapToBatt => go true
    | .gapToMains => go false
    | .none | .mains | .batt => ok s

/-- RETURN_DWELL_EXPIRY (R286). -/
def execReturnDwellExpiry (s : State) : Out :=
  if s.seqCounts ∧ s.seq.src = .batt ∧ s.seq.dwell ∧ s.passed s.seq.srcAt s.seq.srcTmo then ok (s.srcLeave false) else ok s

/-! ### Fabric edges of the sequencer (R189, R192, R193) -/

/-- The launch time of a fabric START or STOP (R192). -/
def State.fabLaunch (s : State) : BitVec 32 :=
  let k := s.regFld Reg.fabGcfg 0 16
  s.after (if s.isRole .mst then max 2000 k else k)

/-- FAB_SEQ_START (R192); refused in LOCKOUT (R309). -/
def execFabSeqStart (s : State) : Out :=
  match s.takeEdges (· = 0x21) with
  | some (_, t) =>
    if !t.seqRuns then ok t
    else if t.react.lockout || decide (t.seq.state = .hold) then ok (t.setCmdErr 2)
    else ok (t.acceptStart t.fabLaunch true)
  | none => ok s

/-- FAB_SEQ_STOP (R192). -/
def execFabSeqStop (s : State) : Out :=
  match s.takeEdges (· = 0x22) with
  | some (_, t) => if t.seqRuns then ok (t.acceptStop t.fabLaunch) else ok t
  | none => ok s

/-- GRPDN_EDGE (R189): the group stop of a cycle that has no REACT edge. -/
def execGrpdnEdge (g : Nat) (s : State) : Out :=
  match s.takeEdges (· = 0x18 + g % 8) with
  | some (_, t) => if t.seqRuns then ok (t.grpdnAt (g % 8)) else ok t
  | none => ok s

/-- The fault events of the REACT edges of one set. -/
def reactEvs (l : List Nat) : List FaultEv := (l.filter fun k => decide (k < 24)).map fun k => { rail := k, code := .edge, st := .off }

/-- The groups of the GRPDN edges of one set. -/
def grpdnOf (l : List Nat) : List Nat := (l.filter fun k => within k 0x18 0x1F).map fun k => k - 0x18

/-- The fast-off gate of held and adopted rails: a REACT edge turns the EN pin off and leaves the rail to the classification of
ADOPT (R156, R191). A rail driven off during ADOPT is FAULTED there; one driven off before it reads off to ADOPT. -/
def State.gateEdges (s : State) (l : List Nat) : State :=
  (reactEvs l).foldl
    (fun (t : State) e =>
      if t.hasEn e.rail && decide (t.reaction e.rail ≠ .ignore) && t.enReadsOn e.rail then
        let t := t.setEn e.rail false
        if t.seq.state = .adopt then t.modRail e.rail fun r => { r with deferred := some FaultCode.edge.code, deferSt := .faulted } else t
      else t) s

/-- Rails are held and no sequencer runs yet: stage 6 of a rail role after the release of the FAB domain, and a pair unit that
listens for its partner (R156, R159). -/
def State.heldRails (s : State) : Bool :=
  (decide (s.boot.stage = 6) && !s.boot.bench && decide (2 ≤ s.rst.domains) && s.img.running.isSome) ||
    (s.paired && decide (s.pair.pstate = .listen))

/-- `RAMP_TIMEOUT` of rail n has expired (R263). -/
def State.rampOver (s : State) (n : Nat) : Bool :=
  s.seqCounts && decide (s.rstate n = .ramp) && s.passed (s.railAt n).since (s.railAt n).tmo && !s.stopDue n

/-- The fault events of one cycle in ascending rail order: REACT edges, and expired ramp timeouts of other rails. -/
def State.faultsOf (s : State) (l : List Nat) (tmo : Bool) : List FaultEv :=
  railNums.filterMap fun n =>
    if l.contains n then some { rail := n, code := .edge, st := .off }
    else if tmo && s.rampOver n then some { rail := n, code := .rampTimeout, st := .ramp }
    else none

/-- REACT and GRPDN edges of one cycle, with the ramp timeouts (`tmo`) and an SRC edge (`src`) of the same cycle: outside ADOPT the
reactions of R311, in ADOPT the fast-off gate alone, which leaves the rail to the classification (R156, R191). -/
def State.reactEdges (s : State) (l : List Nat) (tmo src : Bool) : State :=
  if s.seq.state = .adopt then
    let s := (grpdnOf l).foldl State.grpdnAt (s.gateEdges l)
    if src then s.runReactions [] [] true false else s
  else s.faultSet (s.faultsOf l tmo) (grpdnOf l) src

/-- RAMP_TIMEOUT (R263): with every timeout that has expired by this tick (R311), and with the REACT and GRPDN edges of the same cycle
where `co` says so. -/
def execRampTimeout (n : Nat) (s : State) (co : Bool := false) : Out :=
  if !s.rampOver n then ok s
  else if co then
    match s.takeEdges (· < 0x20) with
    | some (l, t) => ok (t.reactEdges l true false)
    | none => ok (s.reactEdges [] true false)
  else ok (s.reactEdges [] true false)

/-- SRC_FAULT_EDGE (R77, R310, R341): log, marker and counters first, also where the comparator arms before the role runs (R342), then
the SRC reaction, together with the REACT and GRPDN edges and the ramp timeouts of the same cycle where `co` says so (R311). In DOZE the edge wakes the device first (R109). -/
def execSrcFaultEdge (co : Bool) (s : State) : Out :=
  if !s.supply.srcEdge || s.pwr.doze then ok s
  else
    let s := s.modSupply fun p => { p with srcEdge := false }
    let s := if s.boot.bench then s else s.logSrcEdge
    if !s.seqRuns then ok s
    else if co then
      match s.takeEdges (· < 0x20) with
      | some (l, t) => ok (t.reactEdges l true true)
      | none => ok (s.reactEdges [] true true)
    else ok (s.reactEdges [] false true)

/-! ### Margin DACs (R321, R322) -/

/-- MARGIN_SLEW_STEP (R321): one code towards the target. -/
def execMarginSlewStep (m : Nat) (s : State) : Out :=
  let step := 2 ^ s.regFld (Reg.mrgCfg m) 16 3
  let d := s.dac m
  if s.coreRuns ∧ (d.state = .slewOut ∨ d.state = .slewBack) ∧ s.passed d.stepAt step then
    ok (s.modDac m fun d =>
      let goal := if d.state = .slewBack then 0 else d.goal
      let c := if d.cur < goal then d.cur + 1 else if goal < d.cur then d.cur - 1 else d.cur
      { d with cur := c, stepAt := d.stepAt + step,
               state := if c ≠ goal then d.state else if d.state = .slewOut then .held else .nominal })
  else ok s

/-- MARGIN_TIMEOUT (R322). -/
def execMarginTimeout (m : Nat) (s : State) : Out :=
  let k := 1000000 * s.regFld (Reg.mrgCfg m) 24 8
  let d := s.dac m
  if s.coreRuns ∧ (d.state = .slewOut ∨ d.state = .held) ∧ k ≠ 0 ∧ s.passed d.cmdAt k then
    ok ((s.modDac m fun d => { d with timeout := true }).mrgBack m)
  else ok s

/-- MARGIN_ABORT_EDGE (R322). -/
def execMarginAbortEdge (s : State) : Out :=
  match s.takeEdges (· = 0x49) with
  | some (_, t) => if t.seqRuns then ok t.mrgBackAll else ok t
  | none => ok s

end Sys2Proof.Machine
end

