-- ==== Sys2Proof/Machine/Reset.lean ====
section
/-! DEFINITION. The reset controller: levels, causes, assertion and release, block resets, and the adoption of running rails
(spec/04_reset_controller.md R114 to R159; spec/03_supplies_clocks_and_start_up.md R113). -/

namespace Sys2Proof.Machine

/-! ### Sources and levels (R114, R120 to R122) -/

/-- Code of a source in `RST_CAUSE.SOURCE` (Table 4-1). -/
def srcCode : RstSource → Nat
  | .por => 0 | .pin => 1 | .wdt => 2 | .host => 3 | .svc => 4 | .ridge => 5 | .fabric => 6 | .parity => 7 | .ecc2 => 8
  | .clkfail => 9 | .image => 10 | .mirror => 11

/-- Level number. -/
def Level.num : Level → Nat
  | .l0 => 0 | .l1 => 1 | .l2 => 2 | .l3 => 3

/-- Level of a number. -/
def levelOf : Nat → Level
  | 0 => .l0 | 1 => .l1 | 2 => .l2 | _ => .l3

/-- `FUSE_RSTMAP` decoded for a source (R120, R121); 0 for POR and without a valid shadow. -/
def State.fuseLevel (s : State) (c : Nat) : Nat :=
  if c = 0 ∨ !s.boot.shadowOk then 0
  else match fld (s.fuseW 6) (2 * c) 2 with | 1 => 2 | 2 => 3 | _ => 1

/-- `RST_MAP` (Table 4-4). -/
def State.rstMapW (s : State) : Word := w32 (((List.range 12).map fun c => s.fuseLevel c * 4 ^ c).sum)

/-- A request for a reset. -/
structure RstReq where
  src       : RstSource
  /-- Minimum level of Table 4-1 for the source and the location of the error. -/
  minL      : Nat
  shadowPar : Bool
  sysreact  : Bool
  deriving DecidableEq, Repr

/-- Minimum level of a source; PARITY in critical state, ECC2 in MRAM (Table 4-1). -/
def minLevel : RstSource → Nat
  | .por => 0
  | .parity => 2
  | .ecc2 => 2
  | .image => 1
  | .pin | .wdt | .host | .svc | .ridge | .fabric | .clkfail | .mirror => 3

/-- A request of a source at its own minimum level. -/
def plainReq (c : RstSource) : RstReq := { src := c, minL := minLevel c, shadowPar := false, sysreact := false }

/-- Level applied, fuse-table level shown, and `FORCE_WHY` of a request (R122). -/
def State.levelFor (s : State) (q : RstReq) : Nat × Nat × Nat :=
  let c := srcCode q.src
  let shown := s.fuseLevel c
  let base := if c = 0 then 0 else if s.boot.shadowOk then shown else 3
  let noTable := !s.boot.shadowOk || decide (s.role.state = .safeIdle)
  let reasons : List (Nat × Nat) :=
    (if q.shadowPar then [(0, 1)] else []) ++ (if noTable then [(0, 2)] else []) ++ (if s.boot.bench then [(0, 5)] else []) ++
      [(q.minL, 3)] ++ (if !s.rst.sramOk || decide (2 ≤ s.img.reload) then [(1, 6)] else [])
  let lvl := reasons.foldl (fun a r => min a r.1) base
  let why := if lvl = base then 0 else match reasons.find? fun r => decide (r.1 = lvl) with | some r => r.2 | none => 0
  (lvl, shown, why)

/-! ### EN pins in reset (R53 to R57, R133) -/

/-- GATE is selected on an EN pin (R49). -/
def State.usesGate (s : State) : Bool := (List.range 12).any fun n => decide ((s.enMode n).toNat = 3)

/-- The charge pump starts where the image in force selects GATE (R49, R72); it is not stopped again below L0. -/
def State.pumpStart (s : State) : State :=
  if s.usesGate then s.modSupply fun p => { p with cpRun := true } else s

/-- The `EN_RST_MAP` state of EN n with HOLD as LOW; LOW without a valid shadow (R53 to R57). -/
def State.mapDrive (s : State) (n : Nat) : EnDrive :=
  if !s.boot.shadowOk then .low
  else match s.enMap n with
    | 0 | 1 => .low
    | 2 => .high
    | _ => .highZ

/-- EN n is HOLD-mapped (R55). -/
def State.enHolds (s : State) (n : Nat) : Bool := s.boot.shadowOk && decide (s.enMap n = 1)

/-- EN pins without a rail under the image in force take their `EN_RST_MAP` state; the others keep their drive (R57, Table 1-4). -/
def State.freePins (s : State) : State :=
  s.modPins fun p => { p with en := p.en.zipIdx.map fun (e, n) => if s.hasEn n then e else s.mapDrive n }

/-- The EN pins at the assertion of a level: `EN_RST_MAP`, or LOW without a valid shadow. A HOLD-mapped pin keeps its drive below
L0, and that drive is remembered (R55, R57). -/
def State.mapPins (s : State) (l : Level) : State :=
  s.modPins fun p =>
    { p with en := p.en.zipIdx.map fun (e, n) => if s.enHolds n && decide (l ≠ .l0) then e else s.mapDrive n,
             held := if l = .l0 then List.replicate 24 .low else p.en }

/-! ### Links and ports at a reset level (Tables 11-13, 14-7, 15-9, 16-13) -/

/-- Preferred node number of `PREF_SRC`; 0: none (R381). -/
def State.prefNode (s : State) : Nat :=
  match s.regFld Reg.ridgeCfg 14 2 with
  | 1 => s.regFld Reg.ridgeCfg 16 5
  | 2 => ((List.range 5).map fun i => if s.gpioLevel i then 2 ^ i else 0).sum
  | _ => 0

/-- Commands of a burst A whose last bit has left o µs after the tick: burst A begins at 30 µs, with seven bytes before the first
command, sixteen bytes a command and 0.8 µs a byte (Table 11-1). -/
def burstSent (o : Nat) : Nat := ((10 * o - 300) / 8 - 7) / 16

/-- A command that the cut frame did not carry goes back to the front of the queue, for the next frame that can carry it (Table 11-13). -/
def State.unplace (s : State) (q : QueueCmd) : State :=
  let c := q.cmd
  let s := if q.chooseT then s.cancelOwn c else s
  let s := s.modRidge fun r =>
    { r with m := { r.m with queue := q :: r.m.queue, resol := r.m.resol.filter (fun x => decide (x.item.cmd.cseq ≠ c.cseq)),
                             pxRead := if c.op = 0x23 ∧ q.proxy then r.m.pxRead.map (fun p => (p.1, none)) else r.m.pxRead },
             s := { r.s with timed := r.s.timed.filter fun x => decide (x.cseq ≠ c.cseq) || decide (x.op ≠ c.op) } }
  if c.op = 0x23 ∧ !q.proxy then
    s.modSched fun x => { x with polls := x.polls.map fun p => if p.1 = c.dst then (p.1, p.2.1, none) else p }
  else s

/-- A reset of the controller cuts the master's frame in progress (R135): what has not left is lost. -/
def State.cutFrame (s : State) : State :=
  match s.ridge.m.lastTick with
  | none => s
  | some tk =>
    let s := (s.ridge.m.burst.drop (burstSent (s.tb.now - tk).toNat)).foldr (fun q t => if t.ridge.m.sentB || t.ridge.m.cut then t else t.unplace q) s
    s.modRidge fun r => { r with m := { r.m with burst := [], cut := true } }

/-- The Ridge controller at a level. -/
def State.resetRidge (s : State) (l : Level) : State :=
  let mst := decide (s.role.role = .mst)
  let p := s.prefNode
  let s := if l = .l3 ∧ mst then s.cutFrame else s
  s.modRidge fun r =>
    let bare (n : Node) : Node := { Node.init with uid := n.uid, puid := n.puid, bound := n.bound }
    match l with
    | .l0 => Ridge.init
    | .l1 => { Ridge.init with session := if mst then r.session + 1 else 0 }
    | .l2 =>
      { Ridge.init with
          session := if mst then r.session + 1 else 0, frame := if mst then r.frame else 0,
          m :=
            { RMaster.init with nodes := r.m.nodes.map bare, nextCseq := r.m.nextCseq, frames := r.m.frames,
                                lastTick := r.m.lastTick } }
    | .l3 =>
      let joined := decide (r.lstate = .admitted) || decide (r.lstate = .joining)
      { r with lstate := if joined then .croaking else r.lstate, node := if mst then r.node else 0,
               m := { r.m with burst := [], croaked := false, pxRead := none },
               s := { r.s with tries := 0, backoff := 0, waitAns := none, slotSel := none, edge := none, joinFr := 0,
                               pref := if joined || decide (r.lstate = .croaking) then p else r.s.pref } }

/-- A host proxy transfer in flight ends with ERR_BLKRST: a read returns 0, and its late answer finds no outstanding read (R142, R143,
R394). Table 11-11 has no code for that error, so `ERR` takes a free value (DESIGN CHOICE, log entry 10). -/
def State.endRidgeProxy (s : State) : State :=
  if !s.regBit Reg.ridgePxStat 31 then s else
  let (w, s) := s.takeWord
  let s := s.setReg Reg.ridgePxStat (pack [(fld w 0 4, 0, 4)])
  let s := if s.ridge.m.pxRead.isSome then s.setReg Reg.ridgePxData 0 else s
  s.modRidge fun r =>
    { r with m := { r.m with pxRead := none,
                             stale := (match r.m.pxRead with | some (n, some f) => [(n, f)] | _ => []) ++ r.m.stale,
                             queue := (r.m.queue.filter fun q => !(q.proxy && decide (q.cmd.op = 0x23))).map fun q => { q with proxy := false },
                             resol := (r.m.resol.filter fun x => !(x.item.proxy && decide (x.item.cmd.op = 0x23))).map fun x =>
                               { x with item := { x.item with proxy := false } } } }

/-- Key of a register in a proxy context. -/
def ctxKey (svc : Bool) (a : Nat) : Nat := if svc then svcKey a else a

/-- An event of `STACK_EVT`. -/
def State.stackEvt (s : State) (i : Nat) : State := s.raise Reg.stackEvt i

/-- Put words into the data registers of a context from the first on. -/
def State.putPxWords (s : State) (svc : Bool) (l : List Word) : State :=
  l.zipIdx.foldl (fun (t : State) e => t.setReg (ctxKey svc (Reg.stackPxData e.2)) e.1) s

/-- A transfer of the stack proxy ends with an error; the data words read 0 (R472). -/
def State.pxFail (s : State) (svc : Bool) (attempts err : Nat) : State :=
  let a := ctxKey svc Reg.stackPxStat
  let w := pack [(s.regFld a 16 8, 16, 8), (attempts, 4, 4), (err, 0, 4)]
  ((s.setReg a w).putPxWords svc (List.replicate 16 0)).stackEvt 0

/-- Both contexts of the stack proxy: a transfer in flight on a port ends with BLKRST (R142, R477). -/
def State.endProxies (s : State) (p : ChainPort) : State :=
  let s := match p.trans with | some x => s.pxFail x.svc x.attempts 7 | none => s
  p.wait.foldl (fun t w => t.pxFail w.1 0 7) s

/-- A chain port after an L3 or block reset: frame state cleared, state and units kept. The command of the transfer it ends is
remembered, since its reply carries the old generation tag (R143). -/
def ChainPort.cleared (p : ChainPort) : ChainPort :=
  { p with trans := none, wait := [], cmds := [], tx := [], tone := false,
           stale := (match p.trans with | some t => [t.frame] | none => []) ++ p.stale }

/-- The chain ports at a level. -/
def State.resetChain (s : State) (l : Level) : State :=
  match l with
  | .l3 => ((s.endProxies s.chain.p0).endProxies s.chain.p1).modChain fun c => { p0 := c.p0.cleared, p1 := c.p1.cleared }
  | _ => s.modChain fun _ => { p0 := ChainPort.init, p1 := ChainPort.init }

/-- The service port detaches, at every level. -/
def State.resetSvc (s : State) (l : Level) : State :=
  s.modSvc fun v =>
    { v with attached := false, suspended := false, configured := false, usbAddr := 0, dtr := false, level := .view,
             devAuth := false, nonce := none, coding := Svc.codingDflt, lastReq := none, lastRsp := [],
             authFail := if l = .l0 then 0 else v.authFail, lockEnd := if l = .l0 then none else v.lockEnd,
             fusePend := if l = .l0 then false else v.fusePend }

/-- The host interface and the watchdog at a level (R499, R503). -/
def State.resetHif (s : State) (l : Level) : State :=
  let s := s.modHif fun h => { Hif.init with txn := h.txn, irqImg := if l = .l3 then h.irqImg else false }
  let s := s.modRst fun r => { r with hifUp := false }
  s.modWdt fun w =>
    if l = .l3 then { w with since := s.ticks, first := false } else { Wdt.init with wcause := w.wcause }

/-- Generation tags (R143): cleared at L0, advanced at the others; at L3 the log writer's is kept. -/
def State.resetGen (s : State) (l : Level) : State :=
  s.modRst fun r =>
    match l with
    | .l0 => { r with genLogw := 0, genSvc := 0, genCh1 := 0, genCh0 := 0, genRidge := 0 }
    | .l1 | .l2 =>
      { r with genLogw := r.genLogw + 1, genSvc := r.genSvc + 1, genCh1 := r.genCh1 + 1, genCh0 := r.genCh0 + 1,
               genRidge := r.genRidge + 1 }
    | .l3 =>
      { r with genSvc := r.genSvc + 1, genCh1 := r.genCh1 + 1, genCh0 := r.genCh0 + 1, genRidge := r.genRidge + 1 }

/-! ### Balance switches (R454, R455) -/

/-- Cell c's switch is on: scheduled, and no pause in force. -/
def State.balOn (s : State) (c : Nat) : Bool := !s.unit.pause && s.unit.sched.any fun e => decide (e.1 = c)

/-- EN0 to EN15 of a stack unit follow the schedule. -/
def State.balPins (s : State) : State :=
  if s.isRole .stk then
    s.modPins fun p => { p with en := p.en.zipIdx.map fun (e, n) => if n < 16 then .role (s.enMode n) (s.balOn n) else e }
  else s

/-! ### The watchdog's start (R498, R499) -/

/-- The watchdog may run: SGL or MST, `PERIOD` not 0, not on a pair unit that does not drive, not in DOZE (R498). -/
def State.wdtOn (s : State) : Bool :=
  (s.isRole .sgl || s.isRole .mst) && decide (s.regFld Reg.sysWdtCfg 16 16 ≠ 0) && (!s.role.pair || s.pair.pstate.drives) && !s.pwr.doze

/-- The watchdog starts with its `FIRST` deadline (R498). -/
def State.wdtStart (s : State) : State := s.modWdt fun w => { w with run := s.wdtOn, since := s.ticks, first := true, par := false }

/-- The watchdog restarts with its `PERIOD` deadline (R499). -/
def State.wdtRestart (s : State) : State := s.modWdt fun w => { w with run := s.wdtOn, since := s.ticks, first := false }

/-! ### Assertion of a level (Table 4-6, Table 3-12) -/

/-- The mirror link at L3: a frame on the line is lost, and its resend follows R430; the role and the mirrored state stay (Table 13-8). -/
def State.resetMirror (s : State) : State := s.modPair fun p => { p with tx := [], busyTo := s.ticks }

/-- What every level does: access paths, block resets, unit address, DOZE; at L3 the registers and the mirror link that Table 4-6
and chapter 18 name for it too. -/
def State.resetPaths (s : State) (l : Level) : State :=
  let s := if l = .l3 then (s.endRidgeProxy.resetRegs .l3).resetMirror else s
  let s := (((((s.resetHif l).resetRidge l).resetChain l).resetSvc l).resetGen l).resetLog l
  let s := (s.modUnit fun _ => { Unit_.init with lastD := s.ticks }).balPins
  let s := s.modRole fun r => { r with addr := 0, addrValid := false }
  let s := s.modPwr fun p => { p with doze := false, waking := false, sleep := false }
  let s := s.modImg fun g => { g with bgchk := 0 }
  s.modRst fun r => { r with busy := [], domains := 0, coreAt := none }

/-- What L0, L1 and L2 clear beside that. -/
def State.resetCore (s : State) (l : Level) : State :=
  let s := ((((s.resetCmp l).resetMeas).resetSeq).fabReset).resetRegs l
  let s := if l = .l2 then s.relatch else s
  let s := s.resetImg l
  let s := s.modSched fun _ => Sched.init
  let s := s.modPair fun p => { Pair.init with gpio6 := p.gpio6 }
  let s := s.modSupply fun p => { p with srcEvt := false, vddioLost := false, srcEdge := false }
  let s := s.modPwr fun _ => Pwr.init
  let s := s.modRst fun r =>
    { r with lateCnt := 0, refused := 0, badKey := false, sysRestart := none, sysArmed := false, adopt := none }
  let s := s.modPins fun p => { p with rstout := true, usbOutAt := none }
  let s := s.modBoot fun b => { b with listenEnd := none }
  s.mapPins l

/-- A reset of any level cancels a live activation that still waits for its boundary, and abandons a full reload that has not begun
to overwrite configuration SRAM, whose old image then goes on (R150, R179; DESIGN CHOICE at L3, where R175 lets an operation
continue, log entry 10). -/
def State.cancelOps (s : State) : State :=
  let s := if s.liveImg.isSome then
      (({ s with liveImg := none } : State).modImg fun i => { i with op := .none }).imgOpEnd
    else s
  if s.img.reload = 1 then (s.modImg fun i => { i with op := .none, reload := 0 }).fabStart.imgOpEnd else s

/-- A level's effect at its assertion. Stage 5 or 6 begins at the release of an L1 or L2 reset, through which FAULT_N keeps its
level (R61); an L0 reset releases it but in bench mode (Table 2-10), and samples TEST (R46). A start that a reset begins is no wake
(R103). -/
def State.assertLevel (s : State) (l : Level) : State :=
  let fault := s.faultAsserted
  match l with
  | .l3 => (s.cancelOps.resetPaths .l3).modPins fun p => { p with held := p.en }
  | .l2 =>
    let s := (s.resetPaths .l2).resetCore .l2
    (s.modRole fun r => { r with saved := if r.state = .starting then r.saved else r.state, state := .starting }).modBoot
      fun b => { b with stage := 0, wakeStart := false, wakeRun := false, faultN := fault }
  | .l1 =>
    let s := (s.resetPaths .l1).resetCore .l1
    ((s.modRole fun _ => RoleRec.init).modImg Img.toReset).modBoot fun b =>
      { b with stage := 0, wakeStart := false, wakeRun := false, faultN := fault }
  | .l0 =>
    let s := (s.resetPaths .l0).resetCore .l0
    let s := ((s.modRole fun _ => RoleRec.init).modImg Img.toReset).modClk fun _ => Clk.init
    let s := s.modTb fun t => { Tb.init with epoch := t.epoch }
    let s := s.modSupply fun p => { p with cpRun := false, cpOk := false }
    let s := s.modReact fun r => { r with sysCnt := 0, lockout := false, sysEvt := false, restart := false }
    let s := s.modPins fun p => { p with strapTest := p.test }
    s.modBoot fun b =>
      { b with stage := 1, stageAt := s.ticks, fuseTry := 0, wakeStart := false, wakeRun := false, epochDone := false,
               faultN := b.bench, retryEnd := none }

/-- A reset ends DOZE (R110): the PLL counts as running again at its assertion, but where the clocks are gated. Scans and the
watchdog go on as after a wake. -/
def State.endDoze (s : State) : State :=
  if s.pwr.doze then
    let s := (s.modPwr fun p => { p with doze := false, waking := false }).modClk fun c => { c with pllLock := !c.gated }
    s.scanResume.wdtRestart
  else s

/-- The start-up logic runs stage 4, from now on: the PLL locks again (R96, R131). -/
def State.relock (s : State) : State := s.modBoot fun b => { b with stage := 4, stageAt := s.ticks }

/-- A reset of a level begins: the level acts at once (R127). While a CLKFAIL reset gates the clocks, stage 4 runs first and the
release waits for the lock; only a CLKFAIL reset below L0 acts after the lock (`wait`, R131). -/
def State.startReset (s : State) (l : Level) (wait : Bool) : State :=
  let s := s.endDoze.modRst fun r =>
    { r with run := some { level := l, asserted := true, since := s.ticks, applied := !(wait && decide (l ≠ .l0)) } }
  if wait && decide (l ≠ .l0) then s.relock
  else if s.clk.gated ∧ l ≠ .l0 then (s.assertLevel l).relock
  else s.assertLevel l

/-! ### Raising resets (R122, R124 to R126, R139) -/

/-- `MERGED` of the reset in progress (R125). -/
def State.markMerged (s : State) : State := s.modRst fun r => { r with cause := setBit r.cause 13 true }

/-- One or more sources raise a reset in one cycle. Without power there is nothing to reset. -/
def State.raiseReset (s : State) (reqs : List RstReq) : State :=
  if !s.supply.aon then s else
  let lv := reqs.map fun q => (q, s.levelFor q)
  let best := lv.foldl (fun a x => min a x.2.1) 3
  match (List.range 12).findSome? fun c => lv.find? fun x => decide (x.2.1 = best) && decide (srcCode x.1.src = c) with
  | none => s
  | some (q, (_, shown, why)) =>
    let begin_ (t : State) (l : Level) : State :=
      let sysr := q.src = .fabric ∧ q.sysreact
      let t := t.modRst fun r =>
        { r with cause := pack [(b2n (decide (2 ≤ reqs.length)), 13, 1), (b2n (decide sysr), 12, 1), (why, 8, 4), (shown, 6, 2),
            (best, 4, 2), (srcCode q.src, 0, 4)] }
      (t.startReset l (decide (q.src = .clkfail) && s.clk.gated)).modRst fun r => { r with sysArmed := decide sysr }
    if s.boot.retryEnd.isSome then begin_ s .l0
    else
      match s.rst.run with
      | some r => if best ≤ r.level.num then begin_ s (levelOf best) else s.markMerged
      | none => begin_ s (levelOf best)

/-- One source raises a reset at its own minimum level. -/
def State.raise1 (s : State) (c : RstSource) : State := s.raiseReset [plainReq c]

/-- The requests of sources that coincide with another (R124). POR and CLKFAIL have rows of their own for it, which name the others. -/
def coReqs (co : List RstSource) : List RstReq :=
  (co.filter fun c => decide (c ≠ .por) && decide (c ≠ .clkfail)).map plainReq

/-- What a coinciding source does beside its request: RESET_N is low, the watchdog notes LATE, the fabric's edge is taken. -/
def State.coEffect (s : State) (c : RstSource) : State :=
  match c with
  | .pin => s.modPins fun p => { p with resetN := false }
  | .wdt => s.modWdt fun w => { w with wcause := 1 }
  | .fabric => match s.takeEdges (· = 0x20) with | some (_, t) => t | none => s
  | .por | .host | .svc | .ridge | .parity | .ecc2 | .clkfail | .image | .mirror => s

/-- A request and the sources that coincide with it raise a reset (R124). -/
def State.raiseWith (s : State) (q : RstReq) (co : List RstSource) : State := (co.foldl State.coEffect s).raiseReset (q :: coReqs co)

/-- PIN_RESET (R60): RESET_N has been low for 2 µs. -/
def execPinReset (co : List RstSource) (s : State) : Out :=
  ok ((s.modPins fun p => { p with resetN := false }).raiseWith (plainReq .pin) co)

/-- RESET_PIN_RELEASE (R118). -/
def execResetPinRelease (s : State) : Out :=
  if s.pins.resetN then ok s else ok (s.modPins fun p => { p with resetN := true, resetRise := some s.ticks })

/-- PARITY_ERROR (R123): in critical state, or in the fuse shadow, which takes L0. -/
def execParityError (shadow : Bool) (co : List RstSource) (s : State) : Out :=
  ok (s.raiseWith { src := .parity, minL := 2, shadowPar := shadow, sysreact := false } co)

/-- ECC2_ERROR (R115): in configuration SRAM, or in an MRAM word of the device's own operation. -/
def execEcc2Error (sram : Bool) (co : List RstSource) (s : State) : Out :=
  ok (s.raiseWith { src := .ecc2, minL := if sram then 1 else 2, shadowPar := false, sysreact := false } co)

/-- A write of `RST_CMD` (R140), with the sources whose reset coincides with the one it raises. -/
def State.rstCmd (s : State) (v : Word) (co : List RstSource) : State :=
  if fld v 16 16 = 0xC1A0 ∧ bit v 0 then s.raiseWith (plainReq .host) co else s.modRst fun r => { r with badKey := true }

/-- FAB_SYS_RESET (R189). -/
def execFabSysReset (s : State) (co : List RstSource := []) : Out :=
  match s.takeEdges (· = 0x20) with
  | some (_, t) => ok (t.raiseWith (plainReq .fabric) co)
  | none => ok s

/-- No record capture waits: it has committed or been abandoned. -/
def State.recordSettled (s : State) : Bool := !s.recBusy

/-- SYSTEM_FABRIC_RESET (R308): FALLING has ended, and the record has committed, been abandoned, or been waited for 50 µs. At L3 the
sequencer is not reset (R158) and DOWN_HOLD is not run: FALLING ends in IDLE, with every other item of the sequencer kept (Table 8-17). -/
def execSystemFabricReset (s : State) (co : List RstSource := []) : Out :=
  match s.react.sysEnd with
  | none => ok s
  | some t =>
    if !(s.recordSettled || s.passed t 50) || s.seq.state ≠ .falling then ok s
    else
      let u := s.modReact fun r => { r with sysEnd := none }
      let u := (u.modSeq fun q => { q with sysFall := false }).enterIdle
      ok (u.raiseWith { src := .fabric, minL := 3, shadowPar := false, sysreact := s.react.restart } co)

/-! ### Block resets (R141 to R146) -/

/-- A wrapped block in block reset. -/
def State.blkBusy (s : State) (n : Nat) : Bool := s.rst.busy.any fun b => decide (b.1 = n)

/-- The measurement engine is stopped by firmware (R145). -/
def State.idleMeas (s : State) : Bool := !s.meas.active && s.meas.scan.isNone

/-- The scheduler is disabled or halted, and no grant is pending or in force (12.9). -/
def State.idleSched (s : State) : Bool :=
  (s.isRole .slv || !s.regBit Reg.schedCfg 0 || s.regBit Reg.schedCtrl 0) && s.sched.pend.isEmpty && s.sched.cur.isNone &&
    !(s.ridge.s.timed.any fun c => decide (c.op = 5))

/-- The sequence is IDLE, every rail OFF and no fabric timer runs. -/
def State.idleFab (s : State) : Bool :=
  decide (s.seq.state = .idle) && (railNums.all fun n => decide (s.rstate n = .off)) &&
    !((List.range 64).any fun k => s.timerRuns k)

/-- Effect of the reset of a wrapped block. -/
def State.wrapReset (s : State) (n : Nat) : State :=
  match n with
  | 0 => (s.resetRidge .l3).modRst fun r => { r with genRidge := r.genRidge + 1 }
  | 1 =>
    ((s.endProxies s.chain.p0).modChain fun c => { c with p0 := c.p0.cleared }).modRst fun r => { r with genCh0 := r.genCh0 + 1 }
  | 2 =>
    ((s.endProxies s.chain.p1).modChain fun c => { c with p1 := c.p1.cleared }).modRst fun r => { r with genCh1 := r.genCh1 + 1 }
  | 3 => (s.resetSvc .l3).modRst fun r => { r with genSvc := r.genSvc + 1 }
  | _ => s.resetLogWriter.modRst fun r => { r with genLogw := r.genLogw + 1 }

/-- A block reset of the Ridge controller ends a host proxy transfer and, on a slave, the admission (R135, R394). -/
def State.wrapEnds (s : State) (n : Nat) : State :=
  if n = 0 then
    (s.modRole fun r => if s.isRole .slv then { r with addr := 0, addrValid := false } else r).endRidgeProxy
  else s

/-- One request bit of `RST_BLK`. -/
def State.blkReset (s : State) (n : Nat) : State :=
  let refuse (i : Nat) : State := s.modRst fun r => { r with refused := r.refused ||| BitVec.ofNat 3 (2 ^ i) }
  if n < 5 then
    ((s.wrapReset n).wrapEnds n).modRst fun r => { r with busy := (n, s.ticks) :: r.busy.filter fun b => decide (b.1 ≠ n) }
  else if n = 5 then
    (if s.idleMeas then s.clearResults.modMeas fun m => { m with restart := true, anyEdge := false } else refuse 0)
  else if n = 6 then
    (if s.idleSched then
      s.modSched fun c =>
        { c with loads := Sched.init.loads, bepoch := 0, copies := [], pollPos := 0, polls := [] }
     else refuse 1)
  else if s.idleFab then (if s.fab.run then s.fabStart else s)
  else refuse 2

/-- A write of `RST_BLK` (R141). -/
def State.rstBlk (s : State) (v : Word) : State :=
  if fld v 16 16 ≠ 0xB10C ∨ fld v 0 8 = 0 then s.modRst fun r => { r with badKey := true }
  else ((List.range 8).filter (bit v)).foldl State.blkReset s

/-- `RST_BLKSTAT` (Table 4-11). -/
def State.blkStatW (s : State) : Word :=
  pack [(s.rst.lateCnt, 24, 8), (s.rst.refused.toNat, 16, 3), ((s.rst.busy.map fun b => 2 ^ b.1).sum, 8, 8),
    (b2n s.rst.badKey, 3, 1), (b2n s.idleFab, 2, 1), (b2n s.idleSched, 1, 1), (b2n s.idleMeas, 0, 1)]

/-- `RST_GEN` (Table 4-12). -/
def State.rstGenW (s : State) : Word :=
  pack [(s.rst.genLogw.toNat, 16, 4), (s.rst.genSvc.toNat, 12, 4), (s.rst.genCh1.toNat, 8, 4), (s.rst.genCh0.toNat, 4, 4),
    (s.rst.genRidge.toNat, 0, 4)]

/-- A reply with a stale generation tag is discarded and counted (R143). -/
def State.lateReply (s : State) : State := s.modRst fun r => { r with lateCnt := min 0xFF (r.lateCnt + 1) }

/-! ### ADOPT (R153 to R158) -/

/-- ADOPT begins; rails that the reload guard turned off keep their marks. After a reset the sequencer is at its reset values; at a
full reload groups and pending commands stay (R277, R281). -/
def State.enterAdopt (s : State) : State :=
  let t := s.chkAbortNow.wetAbort.modSeq fun q => { q with state := .adopt }
  ((t.modRst fun r => { r with adopt := some { since := t.ticks, samples := [] } }).adoptPower).watch s

/-- One sample: EN states, and FL and FH outputs of the rails' senses. -/
def State.adoptRead (s : State) : BitVec 24 × BitVec 24 × BitVec 24 :=
  let bits (f : Nat → Bool) : BitVec 24 := (wordOf 24 f).setWidth 24
  (bits s.enReadsOn, bits fun n => (s.comp (s.sense n) false).out, bits fun n => (s.comp (s.sense n) true).out)

/-- A rail's EN and sense over both samples: on in one sample, on in both, and inside its window in both. -/
def sampled (l : List (BitVec 24 × BitVec 24 × BitVec 24)) (n : Nat) : Bool × Bool × Bool :=
  (l.any fun x => x.1.getLsbD n, l.all fun x => x.1.getLsbD n, l.all fun x => !x.2.1.getLsbD n && !x.2.2.getLsbD n)

/-- A rail is found FAULTED: EN off, its reaction due at the exit. `CODE` is GUARD after the reload guard, else ADOPT (R333). -/
def State.adoptFault (s : State) (n : Nat) : State :=
  (s.offRail n .faulted).modRail n fun r =>
    { r with deferred := some (if r.deferred = some FaultCode.guard.code then FaultCode.guard.code else FaultCode.adopt.code),
             deferSt := .faulted }

/-- A rail is adopted as ON; adoption counts in no counter (R343). -/
def State.adoptOn (s : State) (n : Nat) : State := (s.setEn n true).goRail n .on

/-- Classification of one rail outside the source pair (Table 4-13, R154, R156, R183). -/
def State.adoptRail (l : List (BitVec 24 × BitVec 24 × BitVec 24)) (s : State) (n : Nat) : State :=
  let (one, both, inside) := sampled l n
  match s.rkind n with
  | .none => (s.goRail n .off).modRail n fun r => { r with en := false, deferred := none }
  | .mains | .batt => s
  | .budg => if (s.railAt n).deferred.isSome then s.adoptFault n else s.offRail n .off
  | .mon => if (s.railAt n).deferred.isSome then s.adoptFault n else s.goRail n (if inside then .on else .off)
  | .seq =>
    if (s.railAt n).deferred.isSome then s.adoptFault n
    else if !one then s.offRail n .off
    else if both && inside then s.adoptOn n
    else s.adoptFault n

/-- Classification of the source pair as a unit (R154). -/
def State.adoptPair (l : List (BitVec 24 × BitVec 24 × BitVec 24)) (s : State) : State :=
  match s.railOf .mains, s.railOf .batt with
  | some m, some b =>
    let take (t : State) (n : Nat) (st : SrcState) : State :=
      let (one, both, inside) := sampled l n
      if (t.railAt n).deferred.isSome then t.adoptFault n
      else if !one then t.offRail n .off
      else if both && inside then (t.adoptOn n).modSeq fun q => { q with src := st, srcFirst := true, dwell := false }
      else t.adoptFault n
    let s := s.modSeq fun q => { q with src := .none }
    take (take s m .mains) b .batt
  | _, _ => s

/-- With both source rails on, SOURCE_BATT is driven off at once and is FAULTED (R154). -/
def State.adoptBoth (s : State) (l : List (BitVec 24 × BitVec 24 × BitVec 24)) : State :=
  match s.railOf .mains, s.railOf .batt with
  | some m, some b => if (sampled l m).1 && (sampled l b).1 then s.adoptFault b else s
  | _, _ => s

/-- The restart after a SYSTEM reaction: RISING with T0 2,000 µs from now, and on a master the cascade START with the same T0 (R158,
R313); a slave waits for its master. -/
def State.armRestart (s : State) : State :=
  if !s.rst.sysArmed then s
  else
    let t0 := s.after 2000
    let s := s.modRst fun r => { r with sysArmed := false, sysRestart := if s.isRole .slv then none else some t0 }
    if s.isRole .mst then s.cascade 1 (some t0) 0 else s

/-- The exit of ADOPT (R155, R158): device state, deferred reactions, held commands, restart. An image with no expected-ON rail meets
the first two exits of R155: the device becomes IDLE (DESIGN CHOICE, log entry 10). -/
def State.adoptExit (s : State) (l : List (BitVec 24 × BitVec 24 × BitVec 24)) : State :=
  let pre := s
  let s := (railNums.foldl (State.adoptRail l) s).adoptPair l
  let s := (s.modRst fun r => { r with adopt := none }).modPair fun p => { p with adoptFrom := none }
  let some_ := (railNums.any fun n => s.slotted n && decide (s.rstate n = .on)) || s.srcRail.isSome
  let all_ := (railNums.all fun n => !s.slotted n || decide (s.rstate n = .on)) && (!s.hasPair || s.srcRail.isSome)
  let s := if all_ && some_ then s.enterUp
    else if some_ then (s.modSeq fun q => { q with state := .rising }).enterFalling s.tb.now false
    else s.enterIdle
  (s.runDeferred pre true).srcJudge.runHeld.armRestart

/-- ADOPT_SAMPLE (R153): a sample after 20 µs and one 10 µs later; ADOPT ends 40 µs after it began, on both of them. -/
def execAdoptSample (s : State) : Out :=
  match s.rst.adopt with
  | none => ok s
  | some a =>
    match a.samples with
    | [] => if s.passed a.since 20 then ok (s.modRst fun r => { r with adopt := some { a with samples := [s.adoptRead] } }) else ok s
    | [x] =>
      if s.passed a.since 30 then
        let l := [x, s.adoptRead]
        ok ((s.modRst fun r => { r with adopt := some { a with samples := l } }).adoptBoth l)
      else ok s
    | l => if s.passed a.since 40 then ok ((s.adoptExit l).watch s) else ok s

/-- SYSREACT_RESTART (R158): RISING begins 2,000 µs after the ADOPT exit, or at L3 after the release of the host interface. The restart
acts as a START with that T0: where a partial adoption still falls, it stands as `START_REQ` (R155, Table 8-6). It is no host START, so
`SYSCNT` stays (R309). -/
def execSysreactRestart (s : State) : Out :=
  match s.rst.sysRestart with
  | some t =>
    if !s.due t then ok s
    else
      let u := s.modRst fun r => { r with sysRestart := none }
      if u.seqRuns then ok (u.startAt t true false) else ok u
  | none => ok s

end Sys2Proof.Machine
end

