-- ==== Sys2Proof/Machine/Chain.lean ====
section
/-! DEFINITION. The chain master: ports, enumeration, proxy transfers and broadcasts
(spec/14_stack_role.md R459, R460, R465, R468, R469, R472, R473, R475, R478). -/

namespace Sys2Proof.Machine

/-! ### Frames (R458 to R460) -/

/-- A frame: preamble and delimiter, the body, and its CRC-16, low byte first. -/
def chainFrame (body : List Byte) : List Byte := linkTx (body ++ leBytes 2 (crc16 body))

/-- Received bytes begin as a frame does. -/
def chainStarts (l : List Byte) : Bool := (linkRx l).isSome

/-- The body of a received frame; none: too short for a header, or a failed CRC. -/
def chainBody (l : List Byte) : Option (List Byte) :=
  let b := (l.drop 3).dropLast.dropLast
  if 6 ≤ b.length ∧ l = chainFrame b then some b else none

/-- A header-only body. -/
def chainHead (ty addr seq cnt reg : Nat) : List Byte := [b8 ty, b8 addr, b8 seq, b8 cnt] ++ leBytes 2 reg

/-- Time of a frame on the line, 4 µs a byte. -/
def frameTime (l : List Byte) : Nat := 4 * l.length

/-! ### Ports -/

/-- This device operates its chain ports: SGL or MST, in a pair only the unit that drives (R25, R478). -/
def State.chainOn (s : State) : Bool := (s.isRole .sgl || s.isRole .mst) && (!s.role.pair || s.pair.pstate.drives)

/-- Port P0 or P1. -/
def State.port (s : State) (p1 : Bool) : ChainPort := if p1 then s.chain.p1 else s.chain.p0

/-- Change a port. -/
def State.modPort (s : State) (p1 : Bool) (f : ChainPort → ChainPort) : State :=
  s.modChain fun c => if p1 then { c with p1 := f c.p1 } else { c with p0 := f c.p0 }

/-- `MODE` of a port. -/
def State.portMode (s : State) (p1 : Bool) : Nat := s.regFld (Reg.stackPCfg (b2n p1)) 0 2

/-- The wake tone starts (R468, R471). -/
def State.startWake (s : State) (p1 : Bool) : State :=
  s.modPort p1 fun p => { p with state := .waking, tone := true, tx := [], at_ := s.ticks + 1000 }

/-- ENUM(1) leaves (R468). -/
def State.sendEnum (s : State) (p1 : Bool) : State :=
  let spur := b2n (decide (s.portMode p1 = 2))
  s.modPort p1 fun p =>
    { p with state := .enumerating, tone := false, tx := [chainFrame (chainHead 1 1 p.seq spur 0)], at_ := s.ticks }

/-- WAKE_ENUM on every port that is not OFF (R469, R478). -/
def State.chainStart (s : State) : State :=
  if !s.chainOn then s
  else [false, true].foldl (fun (t : State) p => if t.portMode p = 0 ∨ t.portMode p = 3 then t else t.startWake p) s

/-- A chain port in block reset (R142). -/
def State.portBusy (s : State) (p1 : Bool) : Bool := s.blkBusy (if p1 then 2 else 1)

/-- The port works: the device operates its ports, their clock runs, and the port is out of reset (R130, R131, R142). -/
def State.portLive (s : State) (p1 : Bool) : Bool :=
  s.chainOn && s.linkOut && !s.clk.gated && !s.pwr.doze && !s.portBusy p1

/-- A port receives a frame. -/
def State.portHears (s : State) (p1 : Bool) (l : List Byte) : Bool := s.portLive p1 && chainStarts l

/-! ### Proxy transfers (R465, R472) -/

/-- The data words of a context. -/
def State.pxWords (s : State) (svc : Bool) (n : Nat) : List Word :=
  (List.range n).map fun i => s.reg (ctxKey svc (Reg.stackPxData i))

/-- A transfer ends with success. -/
def State.pxDone (s : State) (svc : Bool) (attempts uflags : Nat) (data : List Word) : State :=
  let w := pack [(1, 30, 1), (uflags, 16, 8), (attempts, 4, 4)]
  ((s.setReg (ctxKey svc Reg.stackPxStat) w).putPxWords svc data).stackEvt 0

/-- A transaction starts on an idle port: the command leaves with a new `SEQ`. -/
def State.startTrans (s : State) (p1 svc write : Bool) (unit cnt reg : Nat) : State :=
  let p := s.port p1
  let peek := if !write && svc then 128 else 0
  let data := if write then wordBytes (s.pxWords svc cnt) else []
  let f := chainFrame (chainHead (if write then 0x11 else 0x10) unit p.seq (cnt + peek) reg ++ data)
  let s := s.setRegFld (ctxKey svc Reg.stackPxStat) 4 4 1
  s.modPort p1 fun p =>
    { p with seq := (p.seq + 1) % 256, tx := [f], tone := false,
             trans := some { svc := svc, frame := f, write := write, unit := unit, cnt := cnt, attempts := 1,
                             at_ := s.ticks + frameTime f } }

/-- Why a proxy request ends at once; 0: it does not (R472). -/
def State.pxRefuses (s : State) (p1 : Bool) (v : Word) : Nat :=
  if s.portBusy p1 then 7
  else if (s.port p1).state ≠ .ready then 1
  else if fld v 16 6 = 0 ∨ (s.port p1).units < fld v 16 6 then 2
  else if bit v 0 && bit v 1 then 6
  else if 15 < fld v 8 5 then 5
  else 0

/-- A write of `STACK_PX_CTRL` in a context (R472); without READ or WRITE it asks for nothing. -/
def State.pxWrite (s : State) (svc : Bool) (v : Word) : State :=
  let a := ctxKey svc Reg.stackPxStat
  let p1 := bit v 24
  if s.regBit a 31 || !(bit v 0 || bit v 1) || !s.chainOn then s
  else if s.pxRefuses p1 v ≠ 0 then s.pxFail svc 0 (s.pxRefuses p1 v)
  else
    let s := s.setReg a (pack [(1, 31, 1), (s.regFld a 16 8, 16, 8)])
    let reg := s.regFld (ctxKey svc Reg.stackPxAddr) 0 16
    if (s.port p1).trans.isNone then s.startTrans p1 svc (bit v 1) (fld v 16 6) (fld v 8 5 + 1) reg
    else s.modPort p1 fun p => { p with wait := p.wait ++ [(svc, bit v 1, fld v 16 6, fld v 8 5 + 1, reg)] }

/-! ### Port commands (R473) -/

/-- A broadcast leaves twice with one `SEQ`. -/
def State.broadcast (s : State) (p1 : Bool) (ty : Nat) : State :=
  s.modPort p1 fun p =>
    let f := chainFrame (chainHead ty 0x3F p.seq 0 0)
    { p with seq := (p.seq + 1) % 256, tx := [f, f], tone := false }

/-- A port command is refused: while the port wakes or enumerates, a broadcast while it is not READY, and every command on a port
whose `MODE` is OFF, which never leaves OFF (R473, Table 14-4). -/
def State.portRefuses (s : State) (p1 : Bool) (c : PortCmd) : Bool :=
  match (s.port p1).state, c with
  | .waking, _ | .enumerating, _ => true
  | .ready, _ => false
  | .idle, .wakeEnum | .idle, .enum | .failed, .wakeEnum | .failed, .enum => false
  | .off, .wakeEnum | .off, .enum => decide (s.portMode p1 = 0) || decide (s.portMode p1 = 3)
  | .off, _ | .idle, _ | .failed, _ => true

/-- A port command acts. -/
def State.portAct (s : State) (p1 : Bool) (c : PortCmd) : State :=
  if s.portRefuses p1 c then s.stackEvt 9
  else
    match c with
    | .wakeEnum => s.startWake p1
    | .enum => s.sendEnum p1
    | .sleep => (s.broadcast p1 0x22).modPort p1 fun p => { p with state := .idle, units := 0 }
    | .balOff => s.broadcast p1 0x21
    | .snap => s.broadcast p1 0x20

/-- A write of `STACK_PORT_CTRL`. -/
def State.portCtrlWrite (s : State) (v : Word) : State :=
  let cmd : Option PortCmd := match fld v 0 4 with
    | 1 => some .wakeEnum | 2 => some .enum | 3 => some .sleep | 4 => some .balOff | 5 => some .snap | _ => none
  if !s.chainOn then s
  else
    match cmd with
    | some c =>
      let p1 := bit v 8
      if fld v 16 16 ≠ 0x57AC ∨ s.portBusy p1 ∨ s.portRefuses p1 c then s.stackEvt 9
      else if (s.port p1).trans.isSome then s.modPort p1 fun p => { p with cmds := p.cmds ++ [c] }
      else s.portAct p1 c
    | none => s.stackEvt 9

/-- The transfer on a port has ended: waiting commands act, then waiting requests are served while the port is READY. -/
def State.portNext (s : State) (p1 : Bool) : State :=
  let cmds := (s.port p1).cmds
  let s := s.modPort p1 fun p => { p with cmds := [] }
  let s := cmds.foldl (fun (t : State) c => t.portAct p1 c) s
  let wait := (s.port p1).wait
  let s := s.modPort p1 fun p => { p with wait := [] }
  wait.foldl
    (fun (t : State) (w : Bool × Bool × Nat × Nat × Nat) =>
      if (t.port p1).state ≠ .ready then t.pxFail w.1 0 1
      else if (t.port p1).units < w.2.2.1 then t.pxFail w.1 0 2
      else if (t.port p1).trans.isSome then t.modPort p1 fun p => { p with wait := p.wait ++ [w] }
      else t.startTrans p1 w.1 w.2.1 w.2.2.1 w.2.2.2.1 w.2.2.2.2) s

/-! ### Replies (R465) -/

/-- A count of `STACK_ERRCNT`: P0 in the lower half, P1 in the upper. -/
def State.stackErr (s : State) (p1 : Bool) (lo : Nat) : State := s.count Reg.stackErrcnt (lo + if p1 then 16 else 0) 8 1

/-- An attempt has failed: the identical frame again, or the end with TIMEOUT. -/
def State.attemptFailed (s : State) (p1 : Bool) (t : Trans) : State :=
  if t.attempts ≤ s.regFld (Reg.stackPCfg (b2n p1)) 16 2 then
    let s := s.stackEvt 1
    let s := s.setRegFld (ctxKey t.svc Reg.stackPxStat) 4 4 (t.attempts + 1)
    s.modPort p1 fun p =>
      { p with tx := [t.frame], tone := false, trans := some { t with attempts := t.attempts + 1, at_ := s.ticks + frameTime t.frame } }
  else
    let s := s.modPort p1 fun p => { p with trans := none }
    ((s.pxFail t.svc t.attempts 3).stackErr p1 0).portNext p1

/-- A reply whose CRC passes. A `STATUS` that Table 14-1 does not name ends the transfer as BADCNT (log entry 26). -/
def State.takeReply (s : State) (p1 : Bool) (t : Trans) (b : List Byte) : State :=
  let good := decide (leAt b 0 1 = (if t.write then 0x91 else 0x90)) && decide (leAt b 1 1 = t.unit) && decide (leAt b 2 1 = leAt t.frame 5 1)
  let st := leAt b 3 1
  let words := if t.write then [] else bytesWords (b.drop 6)
  if !good || (decide (st = 0) && decide (words.length ≠ if t.write then 0 else t.cnt)) then s.attemptFailed p1 t
  else
    let u := leAt b 4 1
    let s := s.modPort p1 fun p => { p with trans := none }
    let s := if u % 8 ≠ 0 then s.stackEvt 8 else s
    let s := if st = 0 then s.pxDone t.svc t.attempts u words
      else (s.pxFail t.svc t.attempts (if st = 1 then 4 else 5)).setRegFld (ctxKey t.svc Reg.stackPxStat) 16 8 u
    s.portNext p1

/-- A reply's body answers a command frame: its type, unit and `SEQ`, which follow the three bytes before the body (R460, R465). -/
def repliesTo (cmd b : List Byte) : Bool :=
  decide (leAt b 0 1 = leAt cmd 3 1 + 0x80) && decide (leAt b 1 1 = leAt cmd 4 1) && decide (leAt b 2 1 = leAt cmd 5 1)

/-- CHAIN_REPLY_RECEIVE (R465). A reply to a command issued before a reset of the port carries the old generation tag: it is discarded
and counted (R143). A reply that finds no transfer is discarded (R472). -/
def execChainReplyReceive (p1 : Bool) (bytes : List Byte) (s : State) : Out :=
  if !s.portHears p1 bytes then ok s
  else
    match chainBody bytes with
    | some b =>
      match (s.port p1).stale.find? fun c => repliesTo c b with
      | some c => ok (s.modPort p1 fun p => { p with stale := p.stale.erase c }).lateReply
      | none =>
        match (s.port p1).trans with
        | some t => ok (s.takeReply p1 t b)
        | none => ok s
    | none =>
      let s := s.stackErr p1 8
      match (s.port p1).trans with
      | some t => ok (s.attemptFailed p1 t)
      | none => ok s

/-- CHAIN_REPLY_TIMEOUT (R465): no reply has started 40 + 34 (a − 1) µs after the command. -/
def execChainReplyTimeout (p1 : Bool) (s : State) : Out :=
  match (s.port p1).trans with
  | some t => if s.portLive p1 && s.passed t.at_ (40 + 34 * (t.unit - 1)) then ok (s.attemptFailed p1 t) else ok s
  | none => ok s

/-! ### Enumeration at the master (R468) -/

/-- WAKE_WAIT_EXPIRY (R468). -/
def execWakeWaitExpiry (p1 : Bool) (s : State) : Out :=
  let p := s.port p1
  if s.portLive p1 && decide (p.state = .waking) && s.passed p.at_ (10000 * s.regFld (Reg.stackPCfg (b2n p1)) 24 8) then
    ok (s.sendEnum p1)
  else ok s

/-- The chain master receives END with a count. -/
def State.takeEnd (s : State) (p1 : Bool) (n : Nat) : State :=
  if (s.port p1).state ≠ .enumerating then s
  else
    let want := s.regFld (Reg.stackPCfg (b2n p1)) 8 6
    let s := (s.modPort p1 fun p => { p with state := .ready, units := n }).stackEvt (2 + b2n p1)
    if want ≠ 0 ∧ want ≠ n then s.stackEvt (6 + b2n p1) else s

/-- ENUM_END_RECEIVE (R468). -/
def execEnumEndReceive (p1 : Bool) (bytes : List Byte) (s : State) : Out :=
  if !s.portHears p1 bytes then ok s
  else
    match chainBody bytes with
    | some b => if leAt b 0 1 = 2 then ok (s.takeEnd p1 (leAt b 1 1)) else ok s
    | none => ok (s.stackErr p1 8)

/-- ENUM_TIMEOUT (R468): no END within 20 ms of ENUM(1). -/
def execEnumTimeout (p1 : Bool) (s : State) : Out :=
  let p := s.port p1
  if s.portLive p1 && decide (p.state = .enumerating) && s.passed p.at_ 20000 then
    ok ((s.modPort p1 fun p => { p with state := .failed, units := 0 }).stackEvt (4 + b2n p1))
  else ok s

/-! ### Registers (Table 14-6) -/

/-- Codes of Table 14-4. -/
def PortState.code : PortState → Nat
  | .off => 0 | .idle => 1 | .waking => 2 | .enumerating => 3 | .ready => 4 | .failed => 5

/-- `STACK_Pp_STAT`. -/
def State.portStatW (s : State) (p1 : Bool) : Word :=
  let p := s.port p1
  pack [(p.seq, 16, 8), (p.units, 8, 6), (b2n (s.fuseBit 1 (if p1 then 9 else 8)), 4, 1), (p.state.code, 0, 4)]

end Sys2Proof.Machine
end

