-- ==== Sys2Proof/Machine/Live.lean ====
section
/-! DEFINITION. LIVE registers, scan edges and live activation (spec/00_scope.md R6, R11;
spec/05_configuration_image_and_thatch_fabric.md R178, R179; spec/06_ladder_front_end_and_measurement.md R205 to R209;
spec/07_fast_comparators.md R232, R243; spec/12_budget_scheduler.md R420). -/

namespace Sys2Proof.Machine

/-! ### The form in which a LIVE value takes effect (R6) -/

/-- Index of an address in a table of stride k from base b with n entries. -/
def idxOf (a b k n : Nat) : Option Nat :=
  if b ≤ a ∧ (a - b) % k = 0 ∧ (a - b) / k < n then some ((a - b) / k) else none

/-- A rail of R256 that supervises a ramp: SEQUENCED, MONITOR or a source rail. -/
def State.ramps (s : State) (n : Nat) : Bool := s.slotted n || s.isSource n

/-- The value that a LIVE write of v to register a brings: reserved fields 0, clamps of R257, R274, R296 and R316, and reserved
codes as the reset value (R6). -/
def State.liveForm (s : State) (a : Nat) (v : Word) : Word :=
  let v := match regRow? a with | some r => v &&& w32 r.mask | none => v
  if a = Reg.seqMinOff then w32 (max 2000 (min 60000000 v.toNat))
  else if (idxOf a (Reg.chOnDelay 0) 64 24).isSome ∨ (idxOf a (Reg.chOffDelay 0) 64 24).isSome then
    (if 2000000000 < v.toNat then w32 2000000000 else v)
  else if (idxOf a (Reg.reactRailGap 0) 4 24).isSome then (if v = 0 then 1 else v)
  else
    match idxOf a (Reg.chRamp 0) 64 24, idxOf a (Reg.chFilt 0) 64 24 with
    | some n, _ => if s.ramps n ∧ fld v 16 16 = 0 then setFld v 16 16 1 else v
    | none, some _ => if 12 < fld v 16 4 then setFld v 16 4 0 else v
    | none, none => v

/-- A pending LIVE value, or the value in force. -/
def State.liveValue (s : State) (a : Nat) : Word :=
  match s.live.find? fun e => decide (e.1 = a) with
  | some e => e.2
  | none => s.reg a

/-- Both comparators of channel n are on and the threshold word v leaves no gap (R232). -/
def State.thBad (s : State) (n : Nat) (v : Word) : Bool :=
  decide (s.cmpMode n false ≠ 0) && decide (s.cmpMode n true ≠ 0) && decide (fld v 16 12 < fld v 0 12 + s.hyst n + 1)

/-- The warning words of channel n contradict each other (R243). -/
def limsCross (lo hi : Word) : Bool := bit lo 7 && bit hi 7 && decide (sfld hi 8 24 ≤ sfld lo 8 24)

/-- T_WARN is not below T_CRIT (R420). -/
def heatCross (v : Word) : Bool := decide (sfld v 16 16 ≤ sfld v 0 16)

/-- The limit register of each enabled heat source (R400). -/
def State.heatLims (s : State) : List Nat :=
  (if s.regBit Reg.schedCfg 3 then [Reg.schedDieLim] else []) ++
    ((List.range 4).filter fun j => s.regBit (Reg.schedHsCh j) 31).map Reg.schedHsLim

/-- A pending value takes effect; a changed filter word restarts its channel (R213). -/
def State.putLive (s : State) (a : Nat) (v : Word) : State :=
  if s.reg a = v then s
  else
    let t := s.setReg a v
    match idxOf a (Reg.chFilt 0) 64 24 with
    | some n => t.restartFilter n
    | none => t

/-- Judge the pending list (R232, R243, R420): the writes that stay, and the state with the reject flags. -/
def State.judgeLive (s : State) : List LiveWrite × State :=
  let l := s.live
  let th := l.filter fun e => match idxOf e.1 (Reg.chCmpTh 0) 64 24 with | some n => s.thBad n e.2 | none => false
  let warn := (List.range 24).filter fun n =>
    (l.any fun e => decide (e.1 = Reg.chWarnLo n) || decide (e.1 = Reg.chWarnHi n)) &&
      limsCross (s.liveValue (Reg.chWarnLo n)) (s.liveValue (Reg.chWarnHi n))
  let lims := l.filter fun e => s.heatLims.contains e.1 && heatCross e.2
  let w0 := l.filter fun e =>
    match idxOf e.1 (Reg.schedLW 0) 12 64 with
    | some k => s.regBit (Reg.schedLCfg k) 31 && decide (e.2 = 0#32)
    | none => false
  let after (a : Nat) : Word := if lims.any fun e => decide (e.1 = a) then s.reg a else s.liveValue a
  let heat := l.filter fun e => decide (e.1 = Reg.schedHeat) && decide (e.2 ≠ 0) && s.heatLims.any fun a => heatCross (after a)
  let gone := th ++ lims ++ w0 ++ heat
  let keep := l.filter fun e =>
    !gone.contains e && !(warn.any fun n => decide (e.1 = Reg.chWarnLo n) || decide (e.1 = Reg.chWarnHi n))
  let t := s.modCmp fun c => { c with thRej := c.thRej || !th.isEmpty, limRej := c.limRej || !warn.isEmpty }
  let t := if lims.isEmpty && w0.isEmpty && heat.isEmpty then t else t.raise Reg.schedEvt 8
  (keep, t)

/-- The LIVE registers of a role's map. -/
def State.liveRegs (s : State) : List Nat :=
  (regRows.filter fun r => decide (r.acc = .live) && decide (r.roles / 2 ^ s.mapRole.bit % 2 = 1)).flatMap fun r =>
    (List.range r.count).map fun i => r.base + r.stride * i

/-- A scan boundary, or its stand-in while the engine is stopped (R11): the pending live activation, else the pending writes. -/
def State.liveApply (s : State) : State :=
  match s.liveImg with
  | some g =>
    let t := s.liveRegs.foldl (fun t a => t.putLive a (g.value a)) ({ s with live := [], liveImg := none } : State)
    (t.modImg fun i =>
      { i with running := some g, runSlot := i.vslot, runVer := g.version, op := if i.op = .live then .none else i.op }).imgOpEnd
  | none =>
    let (keep, t) := s.judgeLive
    keep.foldl (fun t e => t.putLive e.1 e.2) ({ t with live := [] } : State)

/-- The scan engine is stopped, with no scan in flight (R11). -/
def State.scanStopped (s : State) : Bool := (!s.meas.active || s.pwr.doze) && s.meas.scan.isNone

/-- Pending LIVE writes take effect now if the engine is stopped and the clocks run (R11). -/
def State.liveSettle (s : State) : State :=
  if s.scanStopped && !s.clk.gated && (!s.live.isEmpty || s.liveImg.isSome) then s.liveApply else s

/-- A write to a LIVE register (R11). -/
def State.liveWrite (s : State) (a : Nat) (v : Word) : State :=
  let l := Store.insert s.live a (s.liveForm a v)
  ({ s with live := l } : State).liveSettle

/-- First word of the LIVE region of the mirror set (Table 13-4). -/
def mirrorLiveBase : Nat := 176

/-- A word of the copy of the mirror set. -/
def State.copyW (s : State) (i : Nat) : Word := Store.read (fun _ => 0) s.pair.copy i

/-- A rail on a SHADOW's own cut-off: not tripped, and a budgeted one only under the unit's own grant once the copy is complete
(R439). -/
def State.andOn (s : State) (n : Nat) : Bool :=
  !s.pair.andTrip.getLsbD n &&
    (!s.pair.copyOk || decide (s.rkind n ≠ .budg) || (match s.sched.cur with | some g => g.mask.getLsbD n | none => false))

/-- The EN pin of rail n on a SHADOW or in NOFORM (Table 13-6). -/
def State.shadowDrive (s : State) (n : Nat) : EnDrive :=
  match s.arb n with
  | 0 => .highZ
  | 1 => s.enDrive n false
  | _ => s.enDrive n (s.andOn n)

/-- The shadow pin states of every rail (R437, R439); pins without such a rail keep their drive. -/
def State.shadowPins (s : State) : State :=
  if s.isShadow then
    s.modPins fun p => { p with en := p.en.zipIdx.map fun (e, n) => if s.hasEn n then s.shadowDrive n else e }
  else s

/-- A SHADOW with a complete copy takes the copy's LIVE values (R434). -/
def State.shadowLive (s : State) : State :=
  if s.isShadow && s.pair.copyOk then
    s.liveRegs.zipIdx.foldl (fun t e => t.putLive e.1 (s.copyW (mirrorLiveBase + e.2))) s
  else s

/-! ### Scan edges (R205, R208, R240) -/

/-- SCAN_EDGE (R205): the LIVE values take effect, latches with `HCLR` = 0b01 clear, and the samples are taken. -/
def execScanEdge (codes : List Int) (avdd : Int) (s : State) : Out :=
  if s.scanDue && !s.pwr.doze then
    let t := if !s.live.isEmpty || s.liveImg.isSome then s.liveApply else s
    ok ((t.shadowLive.periodClear 1).takeScan codes avdd)
  else ok s

/-! ### IMG_CTRL (R174 to R181) -/

/-- The device state that activation judges: on a SHADOW the copy's (R447), which the mirror holds in word 1. -/
def State.imgSeqState (s : State) : SeqState :=
  if s.isShadow then
    match fld (s.copyW 1) 0 3 with
    | 0 => .idle | 1 => .rising | 2 => .up | 3 => .falling | 4 => .downHold | 5 => .hold | _ => .adopt
  else s.seq.state

/-- A DAC drives a current. -/
def State.mrgDrives (s : State) : Bool := s.mrg.dacs.any fun d => decide (d.cur ≠ 0)

/-- ACTIVATE_LIVE (R178). -/
def State.activateLive (s : State) (b : Bool) : State :=
  if !s.img.verified || s.img.vslot != b then s.imgErr 4
  else if !s.img.liveOk then s.imgErr 5
  else
    match (s.checkSlot b).2 with
    | some g => (({ s with liveImg := some g } : State).modImg fun i => { i with err := 0, op := .live }).liveSettle
    | none => s.imgErr 4

/-- Why ACTIVATE_FULL of a verified image is refused; 0: accepted (R181). -/
def State.fullRefuses (s : State) (g : ImageInfo) : Nat :=
  match s.img.running with
  | none => 10
  | some r =>
    if s.imgSeqState ≠ .hold then 6
    else if r.role ≠ g.role ∨ r.pair ≠ g.pair then 7
    else if r.section? 8 ≠ g.section? 8 ∨ r.section? 9 ≠ g.section? 9 then 8
    else if s.mrgDrives then 9
    else 0

/-- ACTIVATE_FULL (R181, R182 step 1): the fabric stops and the reload guard engages. -/
def State.activateFull (s : State) (b : Bool) : State :=
  if !s.img.verified || s.img.vslot != b then s.imgErr 4
  else
    match (s.checkSlot b).2 with
    | none => s.imgErr 4
    | some g =>
      if s.fullRefuses g ≠ 0 then s.imgErr (s.fullRefuses g)
      else
        let t := s.modImg fun i => { i with err := 0, op := .full, reload := 1 }
        (t.chkAbortNow.fabStop.modFab fun f => { f with guard := true }).watch s

/-- A write of `IMG_CTRL` (Table 5-7). -/
def State.imgCtrlWrite (s : State) (v : Word) : State :=
  let b := bit v 0
  if fld v 16 16 ≠ 0x1A6E then s.imgErr 1
  else if fld v 8 2 = 0 then s.imgErr 0
  else if s.img.op ≠ .none then s.imgErr 2
  else if fld v 8 2 = 1 then s.imgVerify b
  else if !s.running then s.imgErr 10
  else if fld v 8 2 = 2 then s.activateLive b
  else s.activateFull b

end Sys2Proof.Machine
end

