-- ==== Sys2Proof/Machine/Sched.lean ====
section
/-! DEFINITION. The budget scheduler: half-cycles, ceilings, decisions, grants, open phases and unsensed currents
(spec/12_budget_scheduler.md R395 to R421). -/

namespace Sys2Proof.Machine

/-! ### The scheduling device -/

/-- An SGL or MST device schedules, in a pair only the unit that drives (12.1, R434). -/
def State.schedules (s : State) : Bool := (s.isRole .sgl || s.isRole .mst) && (!s.role.pair || s.pair.pstate.drives)

/-- An event of `SCHED_EVT`. -/
def State.schedEvt (s : State) (i : Nat) : State := s.raise Reg.schedEvt i

/-- `SCHED_PO` of rail n. -/
def State.phaseOpen (s : State) (n : Nat) : Bool := s.regBit Reg.schedPo n

/-- `SCHED_US` of rail n. -/
def State.unsensed (s : State) (n : Nat) : Bool := s.regBit Reg.schedUs n

/-- Rail n is blocked (R414). -/
def State.blocked (s : State) (n : Nat) : Bool :=
  decide (s.rkind n ≠ .budg) || decide (s.seq.state ≠ .up) || decide (s.rstate n = .faulted) || decide (s.rstate n = .retryWait) ||
    s.seq.grpDown.getLsbD (s.group n) || s.phaseOpen n

/-- `SCHED_BLK`. -/
def State.schedBlkW (s : State) : Word := wordOf 24 s.blocked

/-- Supervision of rail n. -/
def State.sup (s : State) (n : Nat) : PhaseSup := s.sched.sup.getD n PhaseSup.init

/-- Change the supervision of rail n. -/
def State.modSup (s : State) (n : Nat) (f : PhaseSup → PhaseSup) : State := s.modSched fun c => { c with sup := modAt c.sup n f }

/-- Rail n is supervised (R413). -/
def State.supervised (s : State) (n : Nat) : Bool := s.regBit (Reg.schedRailPh n) 31

/-- `ICH` of rail n. -/
def State.ich (s : State) (n : Nat) : Nat := s.regFld (Reg.schedRailPh n) 24 5

/-- The phase voltage of rail n is present (R413). -/
def State.phasePresent (s : State) (n : Nat) : Bool := !(s.comp (s.regFld (Reg.schedRailPh n) 16 5) false).q

/-! ### Unsensed currents (R415) -/

/-- Rail n becomes UNSENSED. -/
def State.setUnsensed (s : State) (n : Nat) : State :=
  if s.unsensed n then s else (s.setRegBit Reg.schedUs n true).schedEvt 4

/-- Rails whose current channel has failed its self-check become UNSENSED. -/
def State.judgeUnsensed (s : State) : State :=
  railNums.foldl (fun t n => if t.supervised n && t.regBit Reg.cmpChkFail (t.ich n) then t.setUnsensed n else t) s

/-- A W1C of `SCHED_US`: a bit clears only while `CHK_FAIL` of its current channel is 0. -/
def State.schedUsWrite (s : State) (v : Word) : State :=
  railNums.foldl
    (fun t n => if bit v n && !(t.supervised n && t.regBit Reg.cmpChkFail (t.ich n)) then t.setRegBit Reg.schedUs n false else t) s

/-- One publication of the current channel of rail n, from the scan r (R413, R415). -/
def State.phasePub (r : ScanRun) (chans : List Nat) (s : State) (n : Nat) : State :=
  if !s.supervised n || !chans.contains (s.ich n) then s
  else
    let v := s.value (s.ich n)
    let ph := s.phasePresent n
    let x := s.sup n
    let now := x.open_ && decide (x.since ≤ r.at_)
    let cur := now && s.valid (s.ich n)
    let inside := now || (decide (x.prevFrom ≤ r.at_) && decide (r.at_ < x.prevTo))
    let same := if !(inside && ph && s.valid (s.ich n)) then 0 else if x.same ≠ 0 ∧ x.lastVal = v then min 16 (x.same + 1) else 1
    let s := s.modSup n fun x =>
      { x with any := x.any || cur, allPh := x.allPh && (!cur || ph), peak := if cur then max x.peak v.natAbs else x.peak,
               same := same, lastVal := v }
    if 16 ≤ same then s.setUnsensed n else s

/-! ### Half-cycles from ZX (R397, R398) -/

/-- Loss of ZX. -/
def State.zxLose (s : State) : State :=
  (s.modSched fun c => { c with zxOk := false, zxLast := none, zxInts := [], zxGood := 0 }).schedEvt 1

/-- `TB_NOW` has passed the last accepted timestamp plus 12,500 µs. -/
def State.zxLate (s : State) : Bool :=
  match s.sched.zxLast with
  | some z => decide (12500 < (s.tb.now - z).toNat) && decide ((s.tb.now - z).toNat < 2 ^ 31)
  | none => false

/-- Mean of the intervals, rounded half up; 0 without any. -/
def halfCycle (l : List Nat) : Nat := if l.isEmpty then 0 else (2 * l.sum + l.length) / (2 * l.length)

/-- Timestamp z joins the series; none: noise. -/
def State.zxJoin (s : State) (z : BitVec 32) : Option State :=
  match s.sched.zxLast with
  | none => some (s.modSched fun c => { c with zxLast := some z, zxInts := [], zxGood := 0 })
  | some l =>
    let iv := (z - l).toNat
    if iv < 7000 then none
    else
      some (s.modSched fun c =>
        { c with zxLast := some z, zxInts := (iv :: c.zxInts).take 4, zxGood := min 4 (c.zxGood + 1), zxOk := c.zxOk || decide (3 ≤ c.zxGood) })

/-! ### Ceilings (R399 to R401) -/

/-- E in W (Table 12-1). -/
def State.energyCeil (s : State) : Nat :=
  let ma := s.regFld Reg.schedMainsAllow 0 20
  let ba := s.regFld Reg.schedBattAllow 0 20
  if !s.hasPair then ma
  else match s.seq.src with
    | .mains => ma + ba
    | .batt => ba
    | .none | .gapToBatt | .gapToMains => 0

/-- Factor f_i of a source at temperature t with the limits of a word (R400). -/
def heatFactor (t : Int) (w : Word) : Nat :=
  let warn := sfld w 0 16
  let crit := sfld w 16 16
  if t ≤ warn then 1000 else if crit ≤ t then 0 else (1000 * (crit - t) / (crit - warn)).toNat

/-- A TEMP heat source is enabled and not valid. -/
def State.heatBad (s : State) : Bool :=
  (List.range 4).any fun j => s.regBit (Reg.schedHsCh j) 31 && !s.regBit (Reg.chTemp (s.regFld (Reg.schedHsCh j) 0 5)) 3

/-- The factors of the enabled sources, with their codes in `SCHED_F`. -/
def State.heatFactors (s : State) : List (Nat × Nat) :=
  (if s.regBit Reg.schedCfg 3 then [(0, heatFactor (Config.dieTemp s.ticks).toInt (s.reg Reg.schedDieLim))] else []) ++
    ((List.range 4).filter fun j => s.regBit (Reg.schedHsCh j) 31).map fun j =>
      let w := s.reg (Reg.chTemp (s.regFld (Reg.schedHsCh j) 0 5))
      (j + 1, if bit w 3 then heatFactor (sfld w 16 16) (s.reg (Reg.schedHsLim j)) else 0)

/-- The smallest factor and the source that sets it: the first with it below 1,000, and 7 where no factor is below (log entry 25). -/
def State.heatMin (s : State) : Nat × Nat :=
  s.heatFactors.foldl (fun a x => if x.2 < a.2 then x else a) (7, 1000)

/-- C of a decision in mW, with `SCHED_CEIL`, `SCHED_E` and `SCHED_F` (R401). An E beyond 20 bits has no stated readback. -/
def State.formCeiling (s : State) : Nat × State :=
  let e := s.energyCeil
  let cap := s.regFld Reg.schedHeat 0 20
  let (src, f) := if cap = 0 then (7, 1000) else s.heatMin
  let c := if cap = 0 then 1000 * e else min (1000 * e) (cap * f)
  let s := if cap ≠ 0 ∧ s.heatBad then s.schedEvt 2 else s
  let (w, s) := if e < 2 ^ 20 then (w32 e, s) else (s.takeWord.1 &&& 0xFFFFF#32, s.takeWord.2)
  (c, ((s.setReg Reg.schedCeil (w32 c)).setReg Reg.schedE w).setReg Reg.schedF (pack [(src, 16, 3), (f, 0, 10)]))

/-! ### Decisions (R402 to R407) -/

/-- A used entry of the load table as a decision sees it. -/
structure Entry where
  idx   : Nat
  node  : Nat
  rail  : Nat
  cls   : Nat
  fb    : Nat
  weight : Nat
  duty  : Nat
  deriving DecidableEq, Repr

/-- Entry e, if used. -/
def State.entry (s : State) (e : Nat) : Option Entry :=
  let c := s.reg (Reg.schedLCfg e)
  if bit c 31 then
    some { idx := e, node := fld c 24 5, rail := fld c 16 5, cls := fld c 12 2, fb := fld c 0 10,
           weight := s.regFld (Reg.schedLW e) 0 24, duty := s.regFld (Reg.schedLDuty e) 0 10 }
  else none

/-- The master's copies of a slave's `SCHED_BLK` and `SCHED_US` (R416). -/
def State.statusCopy (s : State) (node : Nat) : BitVec 24 × BitVec 24 :=
  match s.sched.copies.find? fun c => decide (c.1 = node) with
  | some c => c.2
  | none => (0, 0)

/-- The entry is active (R403). -/
def State.entryActive (s : State) (x : Entry) : Bool :=
  if x.node = 0 then !s.blocked x.rail
  else
    let n := s.node x.node
    n.admitted && decide (n.stateB.toNat % 8 = 2) && !(s.statusCopy x.node).1.getLsbD x.rail

/-- The entry's load is UNSENSED, own or polled. -/
def State.entryUs (s : State) (x : Entry) : Bool :=
  if x.node = 0 then s.unsensed x.rail else (s.statusCopy x.node).2.getLsbD x.rail

/-- Running state of entry e. -/
def State.loadAt (s : State) (e : Nat) : Load :=
  s.sched.loads.getD e { credit := 0, wait := 0, urgent := false, granted := false, active := false }

/-- Step 1 to 3 of R404 for one used entry; an inactive one keeps its credit. -/
def State.loadUpdate (s : State) (x : Entry) : Load :=
  let l := s.loadAt x.idx
  if !s.entryActive x then { credit := l.credit, wait := 0, urgent := false, granted := false, active := false }
  else
    let d := if s.entryUs x then min x.duty x.fb else x.duty
    let credit := if d = 0 then 0 else min 2000 (l.credit + d)
    { credit := credit, wait := l.wait, granted := false, active := true,
      urgent := decide (1000 ≤ credit) && decide (s.regFld Reg.schedCfg 8 8 ≤ l.wait) }

/-- Rank of an eligible entry (R405): smaller comes first. -/
def rankKey (x : Entry) (l : Load) : Nat :=
  let tail := x.node * 32 + x.rail
  if l.urgent then ((255 - l.wait) * 4 + x.cls) * 1024 + tail
  else 2 ^ 20 + (x.cls * 256 + (255 - l.wait)) * 1024 + tail

/-- Insert by rank. -/
def rankInsert (k : Nat) (x : Entry × Load) : List (Nat × Entry × Load) → List (Nat × Entry × Load)
  | [] => [(k, x)]
  | y :: t => if k < y.1 then (k, x) :: y :: t else y :: rankInsert k x t

/-- The eligible entries in the order of R405. -/
def ranked (l : List (Entry × Load)) : List (Entry × Load) :=
  ((l.filter fun x => decide (1000 ≤ x.2.credit)).foldl (fun a x => rankInsert (rankKey x.1 x.2) x a) []).map fun x => x.2

/-- The walk with budget b (R406): the entries granted, and whether an urgent entry stopped it. -/
def walkGrants : Nat → List (Entry × Load) → List Nat × Bool
  | _, [] => ([], false)
  | b, (x, l) :: t =>
    if x.weight ≤ b then
      let r := walkGrants (b - x.weight) t
      (x.idx :: r.1, r.2)
    else if l.urgent then ([], true)
    else walkGrants b t

/-- A load after the walk. -/
def Load.settle (l : Load) (granted : Bool) : Load :=
  if granted then { l with credit := l.credit - 1000, wait := 0, granted := true }
  else if 1000 ≤ l.credit ∧ l.active then { l with wait := min 255 (l.wait + 1) }
  else l

/-- The rails of a node among granted entries. -/
def maskOf (l : List Entry) (node : Nat) : Nat := ((l.filter fun x => decide (x.node = node)).map fun x => 2 ^ x.rail).sum

/-- A GRANT for each other node with a non-empty mask goes to the queue; the own grant waits for T (R410). -/
def State.issueGrants (s : State) (t : BitVec 32) (len : Nat) (l : List Entry) : State :=
  let s := nodeNums.foldl
    (fun u n =>
      let m := maskOf l n
      if m = 0 then u
      else u.offerCmd { cmd := { op := 5, dst := n, cseq := 0, arg0 := t, arg1 := pack [(len, 24, 8), (m, 0, 24)] }, chooseT := false,
                        tries := 0, hcmd := false, proxy := false }) s
  let own := maskOf l 0
  if own = 0 then s else s.modSched fun c => { c with pend := c.pend ++ [{ t := t, len := len, mask := BitVec.ofNat 24 own }] }

/-- One decision at the edge with timestamp z (R402 to R408). A paused one judges no entry urgent (log entry 25). -/
def State.takeDecision (s : State) (z : BitVec 32) : State :=
  let halt := !s.regBit Reg.schedCfg 0 || s.regBit Reg.schedCtrl 0
  let notUp := decide (s.seq.state ≠ .up)
  let inh := s.sinkBit 0x48
  let noZx := !s.sched.zxOk
  let run := !halt && !notUp && !inh && !noZx
  let used := (List.range 64).filterMap s.entry
  let (c, s) := s.formCeiling
  let s := s.modSched fun x =>
    { x with bepoch := x.bepoch + 1, run := run, pInhibit := inh, pNotUp := notUp, pHalt := halt, pZx := noZx }
  if !run then
    s.modSched fun x =>
      { x with loads := used.foldl (fun l e => modAt l e.idx fun y => { y with active := s.entryActive e, urgent := false }) x.loads }
  else
    let upd := used.map fun e => (e, s.loadUpdate e)
    let order := ranked (upd.filter fun x => x.2.active)
    let (won, starved) := walkGrants c order
    let s := if starved then s.schedEvt 0 else s
    let s := s.modSched fun x =>
      { x with loads := upd.foldl (fun l p => modAt l p.1.idx fun _ => p.2.settle (won.contains p.1.idx)) x.loads }
    let per := halfCycle s.sched.zxInts
    let t := z + w32 per - w32 (s.regFld Reg.schedCfg 16 11)
    s.issueGrants t ((per + 99) / 100) (used.filter fun e => won.contains e.idx)

/-- An accepted half-cycle edge (R398, R402). -/
def State.zxAccept (s : State) (z : BitVec 32) : State :=
  match s.zxJoin z with
  | none => s
  | some s =>
    let s := s.setReg Reg.schedZxt z
    let s := if s.sched.zxInts.isEmpty then s else s.setReg Reg.schedZxp (w32 (halfCycle s.sched.zxInts % 2 ^ 16))
    ((s.pulse 0x06).periodClear 2).takeDecision z

/-- ZX_EDGE (R397): the pin has held the new level for 20 µs. -/
def execZxEdge (rising : Bool) (s : State) : Out :=
  let s := s.modPins fun p => { p with zx := rising }
  if !s.schedules || s.clk.gated || s.pwr.doze || (!rising && decide (s.regFld Reg.schedCfg 1 2 ≠ 1)) then ok s
  else
    let s := if s.zxLate then s.zxLose else s
    ok (s.zxAccept (s.tb.now - w32 (20 + s.regFld Reg.schedZxcfg 0 11)))

/-- ZX_LOST (R398). -/
def execZxLost (s : State) : Out :=
  if s.schedules && s.zxLate then ok s.zxLose else ok s

/-! ### Grants (R408, R412 to R414) -/

/-- End of a grant. -/
def Grant.stop (g : Grant) : BitVec 32 := g.t + w32 (100 * g.len)

/-- The interval of rail n ends and is judged (R413, R414): the second dark interval in a row makes the rail PHASE_OPEN. -/
def State.judgeInterval (s : State) (n : Nat) : State × Bool :=
  let x := s.sup n
  if !x.open_ then (s, false)
  else
    let s := s.modSup n fun x => x.closed s.ticks
    if !s.supervised n || s.unsensed n || !x.any || !x.allPh then (s, false)
    else if 10 * s.regFld (Reg.schedRailPh n) 0 16 ≤ x.peak then (s.modSup n fun x => { x with dark := 0 }, false)
    else if x.dark = 0 then (s.modSup n fun x => { x with dark := 1 }, false)
    else (((s.modSup n fun x => { x with dark := 0 }).setRegBit Reg.schedPo n true).schedEvt 3, true)

/-- Every interval ends; the rails found open are faults of one set (R265, R414). -/
def State.judgeIntervals (s : State) : State :=
  let r := railNums.foldl
    (fun (a : State × List FaultEv) n =>
      let (t, open_) := a.1.judgeInterval n
      (t, if open_ then a.2 ++ [{ rail := n, code := .phaseOpen, st := .on }] else a.2)) (s, [])
  if r.2.isEmpty then r.1 else r.1.faultSet r.2 [] false

/-- EN of a budgeted rail under a mask bit (R412). -/
def State.grantRail (on : Bool) (s : State) (n : Nat) : State :=
  if s.rkind n ≠ .budg then s
  else if on && !s.blocked n && s.canTurnOn n then
    let s := if s.rstate n = .on then s else (s.setEn n true).enterOn n
    s.modSup n fun x => { x with open_ := true, any := false, allPh := true, peak := 0, since := s.ticks }
  else if s.rstate n = .on then s.offRail n .off
  else s

/-- A grant launches (R412). Bits for rails that are not BUDGETED and a `LEN` of 0 set `GBAD`. -/
def State.launchGrant (s : State) (g : Grant) : State :=
  if g.len = 0 then s.schedEvt 7
  else
    let s := if railNums.any fun n => g.mask.getLsbD n && decide (s.rkind n ≠ .budg) then s.schedEvt 7 else s
    ((railNums.foldl (fun t n => t.grantRail (g.mask.getLsbD n) n) s.judgeIntervals).modSched fun c => { c with cur := some g }).settle

/-- The grant in force ends with no later launch (R412). -/
def State.endGrant (s : State) : State :=
  let s := s.judgeIntervals
  ((railNums.foldl (State.grantRail false) s).modSched fun c => { c with cur := none }).settle

/-- A SHADOW's own grant comes into force or ends: it moves only the pins of AND rails (R434, R439). -/
def State.shadowGrant (s : State) (g : Option Grant) : State := (s.modSched fun c => { c with cur := g }).shadowPins

/-- GRANT_LAUNCH (R412), on the scheduling device; on a SHADOW the copy's pending grants (R439). -/
def execGrantLaunch (s : State) : Out :=
  match s.sched.pend with
  | g :: rest =>
    if !s.due g.t || !s.coreRuns then ok s
    else if s.isShadow then ok ((s.modSched fun c => { c with pend := rest }).shadowGrant (some g))
    else if s.seqRuns then ok ((s.modSched fun c => { c with pend := rest }).launchGrant g)
    else ok s
  | [] => ok s

/-- A launch of this node is due now. -/
def State.grantDue (s : State) : Bool :=
  (s.sched.pend.any fun g => s.due g.t) || (s.ridge.s.timed.any fun c => decide (c.op = 5) && s.due c.arg0)

/-- GRANT_END (R412): a launch of the same instant governs instead (R408). -/
def execGrantEnd (s : State) : Out :=
  match s.sched.cur with
  | some g =>
    if s.due g.stop && !s.grantDue && s.coreRuns then ok (if s.isShadow then s.shadowGrant none else s.endGrant) else ok s
  | none => ok s

/-! ### Publications and check steps -/

/-- PUBLICATION (R207): results, warnings, discharge levels and current supervision; LIVE writes of a stopped engine follow. -/
def execPublication (s : State) : Out :=
  match s.meas.scan with
  | none => ok s
  | some r =>
    if s.clk.gated then ok s else
    let t := s.publishScan
    let chans := publishedIn s t
    let t := chans.foldl (State.warnEval r) t
    let t := if t.seqCounts then t.dischPublished chans else t
    let t := if t.rail then railNums.foldl (State.phasePub r chans) t else t
    ok t.liveSettle

/-- SELF_CHECK_STEP (R245, R246, R249). -/
def execSelfCheckStep (strobe : Bool) (s : State) : Out :=
  let t := s.chkStep strobe
  ok ((if t.rail then t.judgeUnsensed else t).watch s)

/-! ### Registers (R419) -/

/-- `SCHED_STAT` (Table 12-5). -/
def State.schedStatW (s : State) : Word :=
  let c := s.sched
  pack [(c.bepoch.toNat, 16, 16), (b2n c.zxOk, 7, 1), (b2n c.run, 6, 1), (b2n c.pInhibit, 5, 1), (b2n c.pNotUp, 4, 1),
    (b2n c.pHalt, 3, 1), (b2n c.pZx, 2, 1), (b2n s.heatBad, 1, 1)]

/-- `SCHED_LSTAT` of the entry that `SCHED_LSEL` names (Table 12-6). -/
def State.schedLstatW (s : State) : Word :=
  let e := s.regFld Reg.schedLsel 0 6
  let l := s.loadAt e
  let (po, us) := match s.entry e with
    | some x => (if x.node = 0 then s.phaseOpen x.rail else (s.statusCopy x.node).1.getLsbD x.rail, s.entryUs x)
    | none => (false, false)
  pack [(l.credit, 21, 11), (l.wait, 13, 8), (b2n l.urgent, 12, 1), (b2n l.granted, 11, 1), (b2n po, 10, 1), (b2n us, 9, 1),
    (b2n l.active, 8, 1)]

/-- `SCHED_GRANT`. -/
def State.schedGrantW (s : State) : Word :=
  match s.sched.cur with
  | some g => pack [(g.len, 24, 8), (g.mask.toNat, 0, 24)]
  | none => 0

/-- `SCHED_GEND`; 0 while no grant is in force (log entry 25). -/
def State.schedGendW (s : State) : Word := match s.sched.cur with | some g => g.stop | none => 0

/-- A write of `SCHED_Le_DUTY` (R396). -/
def State.dutyWrite (s : State) (e : Nat) (v : Word) : State := s.setReg (Reg.schedLDuty e) (w32 (min 1000 (fld v 0 10)))

end Sys2Proof.Machine
end

