-- ==== Sys2Proof/Machine/Wdt.lean ====
section
/-! DEFINITION. The host watchdog (spec/15_host_interface.md R498, R499). -/

namespace Sys2Proof.Machine

/-- The deadline in µs (R498). -/
def State.wdtDeadline (s : State) : Nat :=
  let first := s.regFld Reg.sysWdtFirst 0 16
  1000 * (if s.wdt.first && decide (first ≠ 0) then first else s.regFld Reg.sysWdtCfg 16 16)

/-- A WDT reset with its `WCAUSE`, and the sources whose reset coincides. -/
def State.wdtFail (s : State) (c : Nat) (co : List RstSource) : State :=
  (s.modWdt fun w => { w with wcause := BitVec.ofNat 2 c }).raiseWith (plainReq .wdt) co

/-- A correct kick would be accepted now. -/
def State.wdtOpen (s : State) : Bool :=
  s.wdt.run && (s.wdt.first || s.passed s.wdt.since (1000 * s.regFld Reg.sysWdtCfg 0 16))

/-- A write of `SYS_WDT_KICK`: the key in turn with its complement, and not before `OPEN` (R498). -/
def State.wdtKick (s : State) (v : Word) : State :=
  if !s.wdt.run then s
  else
    let key := s.regFld Reg.sysWdtKey 0 16
    let want := if s.wdt.par then key ^^^ 0xFFFF else key
    if fld v 0 16 ≠ want then s.wdtFail 3 []
    else if !s.wdtOpen then s.wdtFail 2 []
    else s.modWdt fun w => { w with since := s.ticks, first := false, par := !w.par }

/-- WDT_DEADLINE (R498). -/
def execWdtDeadline (s : State) (co : List RstSource := []) : Out :=
  if s.wdt.run && s.passed s.wdt.since s.wdtDeadline then ok (s.wdtFail 1 co) else ok s

/-- `SYS_WDT_STAT` (Table 15-8). -/
def State.wdtStatW (s : State) : Word :=
  let left := if s.wdt.run then (s.wdt.since + s.wdtDeadline - s.ticks) / 1000 else 0
  pack [(min 0xFFFF left, 16, 16), (s.wdt.wcause.toNat, 4, 2), (b2n s.wdtOpen, 3, 1), (b2n s.wdt.par, 2, 1), (b2n s.wdt.run, 1, 1)]

end Sys2Proof.Machine
end

