-- ==== Sys2Proof/Machine/ImageExec.lean ====
section
/-! DEFINITION. Full reload, background check and writes into image slots
(spec/05_configuration_image_and_thatch_fabric.md R173, R176, R182, R183). -/

namespace Sys2Proof.Machine

/-- The posted NVM word of a port enters MRAM; a word of the verified slot ends its verification (R176, R351), and the service port
reports a word of a slot in `SVC_EVT.IMGW` (Table 16-11). -/
def State.nvmDone (s : State) (p : Port) : State :=
  match (s.window p).posted with
  | some (a, _) =>
    let t := (s.nvmWriteDone p).imgSlotWritten a
    if p = .svc ∧ a < 0x10000 then t.raise Reg.svcEvt 3 else t
  | none => s

/-- NVM_WRITE_DONE (R351): a posted write waits for the words of records and history entries (R329). -/
def execNvmWriteDone (p : Port) (s : State) : Out :=
  if s.nvm.job.isSome || !s.nvm.buf.isEmpty || !s.coreRuns then ok s else ok (s.nvmDone p)

/-- BG_CHECK_PASS (R173): suspended while a full reload reads or copies, and without `CLK_CORE`. -/
def execBgCheckPass (intact : Bool) (s : State) (co : List RstSource := []) : Out :=
  if s.img.running.isNone ∨ s.img.reload ≠ 0 ∨ !s.rst.sramOk ∨ !s.running ∨ s.clk.gated ∨ s.pwr.doze then ok s
  else if intact then ok (s.modImg fun g => { g with bgchk := min 0xFFFF (g.bgchk + 1) })
  else ok (s.raiseWith (plainReq .image) co)

/-- The trailer of the slot under VSLOT starts at this word. -/
def State.reloadEnd (s : State) : Nat := ((s.imgW s.img.vslot 2).toNat - 132) / 4

/-- The sections of the slot under VSLOT as a full reload reads them, each with its CRC good; else the code of the failure: 0x5 for a
section CRC and for a walk that no longer fits, 0xE for ECC (R182 steps 2 and 3). -/
def State.reloadRead (s : State) : Except Nat (List Section) :=
  let b := s.img.vslot
  if s.mbadIn (slotBase b) 8 then .error 0xE
  else
    match s.walk b s.reloadEnd (fld (s.imgW b 5) 0 8) 8 with
    | .ok secs => if s.sectionsCode b secs = 0 then .ok secs else .error (s.sectionsCode b secs)
    | .error c => .error (if c = 0xE then c else 0x5)

/-- Code of a failed re-read of step 2, which reads the whole slot image; 0 when it passes. -/
def State.rereadSlot (s : State) : Nat :=
  if s.mbadIn (slotBase s.img.vslot) (s.reloadEnd + 33) then 0xE
  else
    match s.reloadRead with
    | .ok _ => 0
    | .error c => c

/-- RELOAD_CHECK_DONE (R182 step 2): a failure abandons the reload and the old image's fabric starts again. -/
def execReloadCheckDone (s : State) : Out :=
  if s.img.reload ≠ 1 then ok s
  else
    let c := s.rereadSlot
    if c = 0 then ok (s.modImg fun g => { g with reload := 3 })
    else
      let s := s.modImg fun g =>
        { g with reload := 0, op := .none, verified := false, liveOk := false, vrej := BitVec.ofNat 4 c }
      ok s.fabStart.imgOpEnd

/-- Host duties and allowances, credits and grants clear at a full reload (Table 12-7). -/
def State.reloadSched (s : State) : State :=
  let s := (List.range 64).foldl (fun t e => t.setReg (Reg.schedLDuty e) 0) s
  let s := ((s.setReg Reg.schedMainsAllow 0).setReg Reg.schedBattAllow 0).setReg Reg.schedCtrl 0
  s.modSched fun c =>
    { c with loads := Sched.init.loads, bepoch := 0, pend := [], cur := none, copies := [], pollPos := 0, polls := [] }

/-- Step 4 of a full reload (R182, Table 5-10): the new image in one cycle. A pin without a rail under it takes its `EN_RST_MAP` state
(R57), a GATE pin starts the charge pump (R72), and another SRC channel may bring an edge of `SRC_FAULT` (R77). -/
def State.reloadTake (s : State) (g : ImageInfo) : State :=
  let old := s
  let s := s.modImg fun i => { i with running := some g, reload := 0, runSlot := i.vslot, runVer := g.version, op := .none }
  let s := s.loadConfig.reloadSched
  let s := s.cmpReload old
  let changed := (List.range 24).filter fun n => decide (s.reg (Reg.chCfg n) ≠ old.reg (Reg.chCfg n))
  let s := changed.foldl (fun t n => (t.clearValid n).blank n) s
  let s := (s.reloadScan old.regs changed).fabStart
  let s := s.freePins.pumpStart.watchSrc old
  (if s.rail then s.judgeUnsensed else s).wdtRestart.imgOpEnd

/-- RELOAD_COPY_DONE (R182 steps 3 to 5): each section's CRC is checked again as the slot holds it now, and nothing else of the image
is judged again; ADOPT follows, on a unit whose sequencer runs; a failed copy raises IMAGE. Role and pair flag are those of the running
image, which R181 made the new one's too. -/
def execReloadCopyDone (copyOk : Bool) (s : State) : Out :=
  if s.img.reload ≠ 3 then ok s
  else if !copyOk then ok (s.raise1 .image)
  else
    match s.reloadRead with
    | .ok secs =>
      let t := s.reloadTake (s.imageOf s.img.vslot s.reloadEnd s.role.role s.role.pair secs)
      ok (if t.seqRuns then t.enterAdopt else t)
    | .error _ => ok (s.raise1 .image)

end Sys2Proof.Machine
end

