-- ==== Sys2Proof/Machine/RidgeM.lean ====
section
/-! DEFINITION. The Ridge link seen from the master: frames, queue, resolution, discovery, host commands and the proxy
(spec/11_ridge_link.md R358 to R393). -/

namespace Sys2Proof.Machine

/-- Bytes followed by their CRC-32 (R360). -/
def withCrc (l : List Byte) : List Byte := l ++ leBytes 4 (crc32 l).toNat

/-- The body of a received string whose last four bytes are its CRC-32, of the length given. -/
def crcBody (n : Nat) (l : List Byte) : Option (List Byte) :=
  if l.length = n + 4 ∧ l.drop n = leBytes 4 (crc32 (l.take n)).toNat then some (l.take n) else none

/-- The body of n bytes of a received header, reply or croak; none: the transmission fails, by its start, its length or its CRC. -/
def linkBody (n : Nat) (l : List Byte) : Option (List Byte) := (linkRx l).bind (crcBody n)

/-- `UID` (R517). -/
def State.uid (s : State) : BitVec 64 := (s.fuseW 17) ++ (s.fuseW 16)

/-- The master drives the link: state MASTER, in a pair only on the unit that drives, the controller out of reset and clocked (R130,
R131, R142). -/
def State.mstDrives (s : State) : Bool :=
  s.isRole .mst && decide (s.ridge.lstate = .master) && (!s.role.pair || s.pair.pstate.drives) && !s.clk.gated && s.linkOut && !s.blkBusy 0

/-- The frame in progress goes on: no reset has cut it (R135). -/
def State.frameOn (s : State) : Bool := s.mstDrives && !s.ridge.m.cut

/-- Change the master side. -/
def State.modM (s : State) (f : RMaster → RMaster) : State := s.modRidge fun r => { r with m := f r.m }

/-- Change the slave side. -/
def State.modS (s : State) (f : RSlave → RSlave) : State := s.modRidge fun r => { r with s := f r.s }

/-- Change node n of the table. -/
def State.modNode (s : State) (n : Nat) (f : Node → Node) : State := s.modM fun m => { m with nodes := modAt m.nodes n f }

/-- An event of `RIDGE_EVT`. -/
def State.ridgeEvt (s : State) (i : Nat) : State := s.raise Reg.ridgeEvt i

/-- A count of `RIDGE_ERRCNT`. -/
def State.ridgeErr (s : State) (lo : Nat) : State := s.count Reg.ridgeErrcnt lo 8 1

/-- A command the master issues on its own (R373). -/
def ownCmd (op dst : Nat) (arg0 arg1 : Word) (chooseT : Bool) : QueueCmd :=
  { cmd := { op := op, dst := dst, cseq := 0, arg0 := arg0, arg1 := arg1 }, chooseT := chooseT, tries := 0, hcmd := false, proxy := false }

/-! ### Opcodes (Tables 11-7, R374) -/

/-- Timed opcodes. -/
def timedOp (op : Nat) : Bool := decide (1 ≤ op) && decide (op ≤ 8)

/-- Class of an opcode in the queue. -/
def opClass (op : Nat) : Nat :=
  match op with
  | 8 => 1 | 2 => 2 | 4 => 2 | 6 => 3 | 1 => 4 | 3 => 4 | 7 => 5 | 5 => 6 | 0x20 => 7 | 0x21 => 7 | 0x22 => 7 | _ => 8

/-- Reissued on MISSED (Table 11-7). -/
def reissuedOp (op : Nat) : Bool := decide (op ≠ 5) && decide (op ≠ 0x21)

/-- The earliest launch time of a frame that begins at tk (R373). -/
def earliestLaunch (tk : BitVec 32) : BitVec 32 :=
  let x := (tk + w32 2000).toNat
  let y := (x + 39) / 40 * 40
  if 2 ^ 32 ≤ y then 0 else w32 y

/-! ### Host commands and proxy (R392, R393) -/

/-- A write of `RIDGE_HCMD`. -/
def State.hcmdWrite (s : State) (v : Word) : State :=
  let op := fld v 0 8
  let dst := fld v 8 6
  let t := if bit v 15 then s.after 2000 else s.reg Reg.ridgeHcmdT
  let err (e : Nat) : State := s.setRegFld Reg.ridgeHcmdStat 0 4 e
  let node := decide (1 ≤ dst) && decide (dst ≤ 31)
  if s.regBit Reg.ridgeHcmdStat 15 then err 4
  else if op ≠ 6 ∧ op ≠ 7 ∧ op ≠ 8 then err 2
  else if (op = 6 ∧ dst ≠ dstAll) ∨ (op = 7 ∧ dst ≠ dstAll ∧ !node) ∨ (op = 8 ∧ !node) then err 3
  else if s.tooLate t 2000 then err 1
  else
    let s := (s.setRegFld Reg.ridgeHcmdStat 0 4 0).setRegBit Reg.ridgeHcmdStat 15 true
    s.offerCmd { ownCmd op dst t (s.reg Reg.ridgeHcmdArg) false with hcmd := true }

/-- A proxy transfer ends. -/
def State.endProxy (s : State) (done : Bool) (err : Nat) : State :=
  (s.setReg Reg.ridgePxStat (pack [(b2n done, 30, 1), (err, 0, 4)])).modM fun m => { m with pxRead := none }

/-- A write of `RIDGE_PX_CTRL`. -/
def State.pxCtrlWrite (s : State) (v : Word) : State :=
  let n := s.regFld Reg.ridgePxAddr 16 5
  let a := w32 (s.regFld Reg.ridgePxAddr 0 16)
  if s.regBit Reg.ridgePxStat 31 || (!bit v 0 && !bit v 1) then s
  else if bit v 0 && bit v 1 then s.endProxy false 4
  else if !(s.node n).admitted then s.endProxy false 1
  else
    let s := s.setReg Reg.ridgePxStat (pack [(1, 31, 1)])
    if bit v 0 then
      (s.modM fun m => { m with pxRead := some (n, none) }).offerCmd { ownCmd 0x23 n a 0 false with proxy := true }
    else s.offerCmd { ownCmd 0x24 n a (s.reg Reg.ridgePxData) false with proxy := true }

/-- PROXY_READ_TIMEOUT (R393). -/
def execProxyReadTimeout (s : State) : Out :=
  match s.ridge.m.pxRead with
  | some (_, some f) => if f + 4 ≤ s.ridge.m.frames then ok (s.endProxy false 3) else ok s
  | _ => ok s

/-- A write of `RIDGE_NT_CTRL`. -/
def State.ntCtrlWrite (s : State) (v : Word) : State :=
  let n := s.regFld Reg.ridgeNtSel 0 5
  if fld v 16 16 = 0x7E0F ∧ bit v 0 ∧ !(s.node n).admitted then s.modNode n fun _ => Node.init else s

/-! ### Resolution (R377, R411) -/

/-- The REG_READ of a missed command is to be requested again: it counts as not placed (Table 11-7). -/
def State.readAgain (s : State) (r : Resol) : State :=
  if r.item.cmd.op ≠ 0x23 then s
  else if r.item.proxy then s.modM fun m => { m with pxRead := m.pxRead.map fun p => (p.1, none) }
  else s.modSched fun x => { x with polls := x.polls.map fun p => if p.1 = r.node then (p.1, p.2.1, none) else p }

/-- A reissue of a command for one node: a new command with a new launch time, three times at most; that of a sequence command sets
`CMD_ERR` to 0 (R294). -/
def State.reissue (s : State) (r : Resol) : State :=
  let q := r.item
  if !reissuedOp q.cmd.op then s
  else if 3 ≤ q.tries then
    let s := s.ridgeEvt 13
    if q.proxy then s.endProxy false 6 else s
  else
    let s := if q.cmd.op ≤ 4 then s.setCmdErr 0 else s
    ((s.readAgain r).ridgeEvt 5).offerCmd
      { q with cmd := { q.cmd with dst := r.node }, chooseT := timedOp q.cmd.op, tries := q.tries + 1, hcmd := false }

/-- A command is MISSED for a node. -/
def State.resolveMissed (s : State) (r : Resol) : State :=
  let s := (s.ridgeEvt 4).ridgeErr 8
  let s := if r.item.cmd.op = 5 then (s.count Reg.schedGcnt 0 16 1).schedEvt 5 else s
  s.reissue r

/-- A command is CONFIRMED for a node. -/
def State.resolveConfirmed (s : State) (r : Resol) : State :=
  match r.item.cmd.op with
  | 0x22 => s.modNode r.node fun n => { n with dlyOk := true }
  | 0x24 => if r.item.proxy then s.endProxy true 0 else s
  | _ => s

/-- A command gets NO_REPORT for a node. -/
def State.resolveNoReport (s : State) (r : Resol) : State :=
  let s := s.ridgeEvt 12
  if r.item.proxy ∧ r.item.cmd.op = 0x24 then s.endProxy false 5 else s

/-- One open command of node n against a valid reply. -/
def State.resolveReply (rx miss : Nat) (s : State) (r : Resol) : State × Bool :=
  let back := (rx + 65536 - r.item.cmd.cseq % 65536) % 65536
  if s.ridge.m.frames ≤ r.frame then (s, true)
  else if 2 ≤ r.miss then (s.resolveNoReport r, false)
  else if 15 < back then (s, true)
  else if miss / 2 ^ back % 2 = 1 then (s.resolveMissed r, false)
  else (s.resolveConfirmed r, false)

/-- All open commands of node n against a valid reply. -/
def State.resolveAll (s : State) (n rx miss : Nat) : State :=
  let mine := s.ridge.m.resol.filter fun r => decide (r.node = n)
  let rest := s.ridge.m.resol.filter fun r => decide (r.node ≠ n)
  let out := mine.foldl
    (fun (a : State × List Resol) r =>
      let (t, keep) := a.1.resolveReply rx miss r
      (t, if keep then a.2 ++ [r] else a.2)) (s.modM fun m => { m with resol := rest }, [])
  out.1.modM fun m => { m with resol := m.resol ++ out.2 }

/-- An open command of a node that has no reply slot is ABSENT once three of its slots have passed unanswered (R377). -/
def State.resolveAbsent (s : State) (r : Resol) : State :=
  let s := s.ridgeEvt 6
  if r.item.proxy then s.endProxy false 2 else s

/-- Node n is marked absent (R385); its open commands are ABSENT. -/
def State.markAbsent (s : State) (n : Nat) : State :=
  let mine := s.ridge.m.resol.filter fun r => decide (r.node = n)
  let s := s.modM fun m => { m with resol := m.resol.filter fun r => decide (r.node ≠ n) }
  let s := (s.modNode n fun x =>
    { x with admitted := false, joining := false, absent := true, absentAt := s.ridge.m.frames, missed := 0 }).ridgeEvt 6
  let px := mine.any fun r => r.item.proxy
  let rd := match s.ridge.m.pxRead with | some (m, _) => decide (m = n) | none => false
  let s := if px || rd then s.endProxy false 2 else s
  s.modSched fun c => { c with polls := c.polls.filter fun p => decide (p.1 ≠ n) }

/-! ### Frames (R361 to R364, R372 to R374, R383) -/

/-- A REG_READ to node n is placed and unanswered: at most one per node (R393). -/
def State.readOpen (s : State) (n : Nat) : Bool :=
  (match s.ridge.m.pxRead with | some (m, some _) => decide (m = n) | _ => false) ||
    s.sched.polls.any fun p => decide (p.1 = n) && p.2.2.isSome

/-- A queued command cannot be carried any more (R372). -/
def tooLateAt (tk : BitVec 32) (q : QueueCmd) : Bool :=
  timedOp q.cmd.op && !q.chooseT &&
    (decide ((q.cmd.arg0 - tk).toNat < 1000) || decide (2 ^ 31 < (q.cmd.arg0 - tk).toNat))

/-- The queue in the order of R374, with its places. -/
def classOrder (l : List QueueCmd) : List (QueueCmd × Nat) :=
  [1, 2, 3, 4, 5, 6, 7, 8].flatMap fun c => l.zipIdx.filter fun q => decide (opClass q.1.cmd.op = c)

/-- Nodes that a command addresses and the master resolves it for. -/
def State.addressees (s : State) (c : RidgeCmd) : List Nat :=
  if c.dst = dstAll then nodeNums.filter fun n => (s.node n).admitted
  else if 1 ≤ c.dst ∧ c.dst ≤ 31 then [c.dst] else []

/-- The master's own copy of a broadcast it places (R373, R375): sequence commands with a launch time of the master become its
pending ones, a START in DOWN_HOLD after Td the restart (R273); EVENT and MARGIN wait for T. -/
def State.placeOwn (s : State) (c : RidgeCmd) (chosen : Bool) : State :=
  if c.dst ≠ dstAll then s
  else
    match c.op with
    | 1 =>
      if !chosen then s
      else if s.seq.state = .downHold ∧ s.seq.startReq ∧ s.seq.downTd.isSome then s.modSeq fun q => { q with restartT := some c.arg0 }
      else s.modSeq fun q => { q with pendStart := some (c.arg0, false) }
    | 2 => if chosen then s.modSeq fun q => { q with pendStop := some c.arg0 } else s
    | 3 => if chosen then s.modSeq fun q => { q with pendGrp := q.pendGrp ++ [{ stop := false, g := fld c.arg1 0 3, t := c.arg0 }] } else s
    | 4 => if chosen then s.modSeq fun q => { q with pendGrp := q.pendGrp ++ [{ stop := true, g := fld c.arg1 0 3, t := c.arg0 }] } else s
    | 6 | 7 => s.modS fun x => { x with timed := x.timed ++ [c] }
    | _ => s

/-- One command is placed in the frame. -/
def State.placeCmd (tk : BitVec 32) (s : State) (q : QueueCmd) : State :=
  let cs := s.ridge.m.nextCseq
  let c : RidgeCmd := { q.cmd with cseq := cs, arg0 := if timedOp q.cmd.op && q.chooseT then earliestLaunch tk else q.cmd.arg0 }
  let q := { q with cmd := c }
  let dsts := s.addressees c
  let s := s.modM fun m =>
    { m with nextCseq := (cs + 1) % 65536, burst := m.burst ++ [q],
             resol := m.resol ++ dsts.map fun n => { item := q, node := n, frame := m.frames, miss := 0 } }
  let s := s.placeOwn c q.chooseT
  let s := if q.hcmd then
      (s.setReg Reg.ridgeHcmdStat (pack [(cs, 16, 16)]))
    else s
  let s := if 0 < q.tries then s.setReg Reg.ridgeReissue (pack [(cs, 16, 16), (c.op, 8, 8), (c.dst, 0, 6)]) else s
  let s := if c.op = 0x22 then s.modNode c.dst fun n => { n with dlyAt := some s.ridge.m.frames, dlyOk := false } else s
  if c.op ≠ 0x23 then s
  else if q.proxy then s.modM fun m => { m with pxRead := some (c.dst, some m.frames) }
  else s.modSched fun x =>
    { x with polls := x.polls.map fun p => if p.1 = c.dst ∧ p.2.2.isNone then (p.1, p.2.1, some s.ridge.m.frames) else p }

/-- Fill the frame from the queue: late commands are dropped, up to eight others are placed. -/
def State.fillFrame (s : State) (tk : BitVec 32) : State :=
  let late := s.ridge.m.queue.filter (tooLateAt tk)
  let s := s.modM fun m => { m with queue := m.queue.filter fun q => !tooLateAt tk q, burst := [] }
  let s := late.foldl State.dropCmd s
  let fit := (classOrder s.ridge.m.queue).filter fun q => !(decide (q.1.cmd.op = 0x23) && s.readOpen q.1.cmd.dst)
  let take := fit.take 8
  let s := s.modM fun m =>
    { m with queue := (m.queue.zipIdx.filter fun q => !(take.any fun t => decide (t.2 = q.2))).map fun q => q.1 }
  take.foldl (fun t q => t.placeCmd tk q.1) s

/-- Nodes that become admitted with this frame (R383). -/
def State.admitReady (s : State) : State :=
  nodeNums.foldl
    (fun t n =>
      let x := t.node n
      match x.dlyAt with
      | some f =>
        if x.joining && x.dlyOk && decide (f + 2 ≤ t.ridge.m.frames) then
          ((t.modNode n fun x => { x with joining := false, admitted := true, absent := false, missed := 0, samples := [] }).modSched fun c =>
            { c with copies := c.copies.filter fun e => decide (e.1 ≠ n) }).ridgeEvt 1
        else t
      | none => t) s

/-- `RIDGE_ADMITTED`: the `ADMIT` bitmap. -/
def State.admitW (s : State) : Word := wordOf 32 fun n => decide (n = 0) || (s.node n).admitted

/-- Both croak slots are open (R382). -/
def State.croakOpen (s : State) : Bool :=
  s.regBit Reg.ridgeCfg 8 &&
    decide ((nodeNums.filter fun n => (s.node n).admitted).length < s.regFld Reg.ridgeCfg 0 5)

/-- Header body of the frame (Table 11-2). -/
def State.headerBody (s : State) (tk : BitVec 32) : List Byte :=
  let n := s.ridge.m.burst.length
  let op := b2n s.croakOpen
  let flags := b2n s.sched.zxOk + 2 * op + 4 * op + 8 * b2n (s.role.pair && decide (s.pair.pstate = .primary))
  [b8 0x48, b8 1] ++ leBytes 2 s.ridge.frame ++ leBytes 4 tk.toNat ++ leBytes 4 (s.reg Reg.schedZxt).toNat ++
    leBytes 2 s.sched.bepoch.toNat ++ [b8 s.ridge.session.toNat, b8 flags] ++ leBytes 4 s.admitW.toNat ++
    leBytes 2 ((s.ridge.m.nextCseq + 65536 - n) % 65536) ++ [b8 n, b8 0]

/-- Bytes of a command. -/
def cmdBytes (c : RidgeCmd) : List Byte :=
  withCrc ([b8 c.op, b8 c.dst] ++ leBytes 2 c.cseq ++ leBytes 4 c.arg0.toNat ++ leBytes 4 c.arg1.toNat)

/-- A burst of the frame; `ty` 0x41 or 0x42 (R364). -/
def State.burstBytes (s : State) (ty : Nat) : List Byte :=
  let l := s.ridge.m.burst.map fun q => q.cmd
  [b8 ty, b8 l.length, b8 (255 - l.length), b8 s.ridge.frame] ++ l.flatMap cmdBytes

/-- Nodes other than the master that own used entries of the load table. -/
def State.pollNodes (s : State) : List Nat :=
  nodeNums.filter fun n => (s.node n).admitted && (List.range 64).any fun e =>
    match s.entry e with | some x => decide (x.node = n) | none => false

/-- One poll of a slave's status per frame, in turn (R416); a node with a proxy read or a poll outstanding is passed over. -/
def State.queuePoll (s : State) : State :=
  let nodes := s.pollNodes
  let k := 2 * nodes.length
  let busy (n : Nat) : Bool :=
    (match s.ridge.m.pxRead with | some (m, _) => decide (m = n) | none => false) || s.sched.polls.any fun p => decide (p.1 = n)
  match (List.range k).find? fun i => !busy (nodes.getD ((s.sched.pollPos + i) % k / 2) 0) with
  | none => s
  | some i =>
    let pos := (s.sched.pollPos + i) % k
    let n := nodes.getD (pos / 2) 0
    let us := decide (pos % 2 = 1)
    (s.modSched fun c => { c with pollPos := (pos + 1) % k, polls := c.polls ++ [(n, us, none)] }).offerCmd
      (ownCmd 0x23 n (w32 (if us then Reg.schedUs else Reg.schedBlk)) 0 false)

/-- Polls without an answer four frames after their placement are given up. -/
def State.dropPolls (s : State) : State :=
  s.modSched fun c => { c with polls := c.polls.filter fun p => match p.2.2 with | some f => decide (s.ridge.m.frames < f + 4) | none => true }

/-- The next instant of the series after the tick tk (R362); ticks that a reset or gated clocks swallowed are passed over
(Table 11-13). -/
def State.nextTick (s : State) (tk : BitVec 32) : BitVec 32 :=
  let gone := (s.tb.now - tk).toNat
  tk + w32 (1000 * (if gone < 2 ^ 31 then max 1 (gone / 1000) else 1))

/-- `TB_NOW` has just become t; a value that a slewed phase passes over counts at the next one (R89). -/
def State.just (s : State) (t : BitVec 32) : Bool := decide ((s.tb.now - t).toNat ≤ 1)

/-- FRAME_TICK (R362): the master drives the tick, fixes the bursts and sends the header and burst A. -/
def execFrameTick (s : State) : Out :=
  let tk := match s.ridge.m.lastTick with | some t => s.nextTick t | none => s.tb.now
  if !s.mstDrives || !s.just tk then ok s
  else
    let s := s.modRidge fun r =>
      { r with frame := if r.m.lastTick.isSome then (r.frame + 1) % 65536 else r.frame,
               m := { r.m with lastTick := some tk, frames := r.m.frames + 1, croaked := false, cut := false, sentB := false } }
    let s := s.dropPolls.queuePoll.admitReady.fillFrame tk
    ok (s.modRidge fun r => { r with tx := linkTx (withCrc (s.headerBody tk)) ++ linkTx (s.burstBytes 0x41), txAt := s.ticks })

/-- BURST_B_SEND (R361): at Tk + 790 µs, once a frame. -/
def execBurstBSend (s : State) : Out :=
  match s.ridge.m.lastTick with
  | some tk =>
    if s.frameOn && !s.ridge.m.sentB && s.just (tk + w32 790) then
      ok (s.modRidge fun r => { r with tx := linkTx (s.burstBytes 0x42), txAt := s.ticks, m := { r.m with sentB := true } })
    else ok s
  | none => ok s

/-! ### Replies (R365, R385, R388, R389) -/

/-- A GRP_STOP, STOP or START that a node's report asks for (R313). -/
def State.nodeReports (s : State) (n : Nat) (old new : BitVec 8) : State :=
  let ch := old ^^^ new
  let s := if ch.getLsbD 3 ∧ s.regFld Reg.reactCasc 0 2 = 1 then s.cascadeReaction 4 (w32 (new.toNat % 8)) else s
  let s := if ch.getLsbD 5 ∧ s.regFld Reg.reactCasc 2 2 = 1 then s.cascadeReaction 2 0 else s
  if !ch.getLsbD 4 then s
  else
    match s.regFld Reg.reactCasc 4 2 with
    | 2 => s.cascadeReaction 2 0
    | 1 => s.modReact fun r => { r with casc := n :: r.casc.filter (· ≠ n) }
    | _ => s

/-- RESTART of R313: the slave is admitted, reports IDLE and no LOCKOUT. -/
def State.nodeRestart (s : State) (n : Nat) : State :=
  let x := s.node n
  if s.react.casc.contains n ∧ x.admitted ∧ x.stateB.toNat % 8 = 0 ∧ !x.stateB.getLsbD 3 then
    (s.modReact fun r => { r with casc := r.casc.filter (· ≠ n) }).cascadeReaction 1 0
  else s

/-- The master issues one broadcast EVENT k (R389); one that waits already stands for this one. -/
def State.issueEvent (s : State) (k : Nat) : State :=
  if s.ridge.m.queue.any fun q => decide (q.cmd.op = 6) && q.chooseT && decide (q.cmd.dst = dstAll) && decide (q.cmd.arg1 = w32 k) then s
  else s.offerCmd (ownCmd 6 dstAll 0 (w32 k) true)

/-- Rounded quotient of a sum of samples, half up. -/
def meanOf (l : List Int) : Int := if l.isEmpty then 0 else (2 * l.sum + l.length) / (2 * l.length)

/-- A reply's arrival is a delay sample (R370): four while joining give d, sixteen residuals maintain it. -/
def State.delaySample (s : State) (n : Nat) (arrival : Int) : State :=
  let x := s.node n
  let send (t : State) (d : Int) : State :=
    let d := (max 0 (min 65535 d)).toNat
    (t.modNode n fun y => { y with dly := d, samples := [] }).offerCmd (ownCmd 0x22 n (w32 d) 0 false)
  if x.joining then
    if x.dlyAt.isSome ∨ 4 ≤ x.samples.length then s
    else
      let l := x.samples ++ [arrival]
      let t := s.modNode n fun y => { y with samples := l }
      if l.length = 4 then (send t ((2 * l.sum + 8) / 16)).modNode n fun y => { y with samples := l } else t
  else if x.admitted then
    let l := (x.samples ++ [arrival]).drop (x.samples.length + 1 - 16)
    let r := meanOf l
    let t := s.modNode n fun y => { y with samples := l, resid := r }
    if l.length = 16 ∧ 30 < |r| then send t ((2 * (x.dly : Int) + r + 1) / 2) else t
  else s

/-- A poll's answer updates the copy. -/
def State.pollData (s : State) (n : Nat) (w : Word) : State :=
  match s.sched.polls.find? fun p => decide (p.1 = n) && p.2.2.isSome with
  | none => s
  | some p =>
    let old := s.statusCopy n
    let new := if p.2.1 then (old.1, w.setWidth 24) else (w.setWidth 24, old.2)
    s.modSched fun c =>
      { c with polls := c.polls.filter (fun q => decide (q.1 ≠ n)), copies := (n, new) :: c.copies.filter fun e => decide (e.1 ≠ n) }

/-- An answer to a read that a reset ended carries an old tag: it is discarded and counted (R143). -/
def State.staleData (s : State) (n : Nat) : State :=
  if s.ridge.m.stale.any fun x => decide (x.1 = n) && decide (s.ridge.m.frames ≤ x.2 + 1) then
    (s.modM fun m => { m with stale := m.stale.filter fun x => decide (x.1 ≠ n) }).modRst fun r => { r with lateCnt := min 255 (r.lateCnt + 1) }
  else s

/-- An answer to a REG_READ of node n goes to the proxy or to the poll (R393, R416); one that finds no read outstanding is discarded. -/
def State.takeData (s : State) (n : Nat) (w : Word) : State :=
  let px := match s.ridge.m.pxRead with | some (m, some _) => decide (m = n) | _ => false
  if px then (s.setReg Reg.ridgePxData w).endProxy true 0
  else if s.sched.polls.any fun p => decide (p.1 = n) && p.2.2.isSome then s.pollData n w
  else s.staleData n

/-- A reply of node n is missed (R385). -/
def State.missReply (s : State) (n : Nat) : State :=
  let s := s.ridgeErr 0
  let s := s.modM fun m =>
    { m with resol := m.resol.map fun r => if r.node = n ∧ r.frame < m.frames then { r with miss := r.miss + 1 } else r }
  let s := s.modNode n fun x => { x with missed := min 3 (x.missed + 1) }
  if 3 ≤ (s.node n).missed then s.markAbsent n else s

/-- The node has a reply slot of its own. -/
def State.hasSlot (s : State) (n : Nat) : Bool := decide (1 ≤ n) && decide (n ≤ 31) && ((s.node n).joining || (s.node n).admitted)

/-- REPLY_MISSING (R385). -/
def execReplyMissing (n : Nat) (s : State) : Out :=
  if s.frameOn && s.hasSlot n then ok (s.missReply n) else ok s

/-- The DOWN_HOLD reports of R273: a node has reported it until it reports RISING or UP (log entry 17). -/
def State.noteDown (s : State) (n st : Nat) : State :=
  let b := BitVec.ofNat 32 (2 ^ n)
  s.modSeq fun q =>
    { q with downSeen := if st = 4 then q.downSeen ||| b else if st = 1 ∨ st = 2 then q.downSeen &&& ~~~b else q.downSeen }

/-- REPLY_RECEIVE (R377, R388): a reply with a failed CRC or another session counts as missed. -/
def execReplyReceive (n : Nat) (bytes : List Byte) (arrival : Int) (s : State) : Out :=
  if !(s.frameOn && s.hasSlot n) then ok s
  else
    match linkBody 14 bytes with
    | none => ok (s.missReply n)
    | some b =>
      if leAt b 0 1 ≠ s.ridge.session.toNat then ok (s.missReply n)
      else
        let old := s.node n
        let st := BitVec.ofNat 8 (leAt b 1 1)
        let ract := BitVec.ofNat 8 (leAt b 3 1)
        let evt := BitVec.ofNat 16 (leAt b 8 2)
        let s := s.modNode n fun x =>
          { x with missed := 0, tlock := st.getLsbD 4, grpDown := BitVec.ofNat 8 (leAt b 2 1), ract := ract, stateB := st, evt := evt,
                   seen := true }
        let s := s.resolveAll n (leAt b 4 2) (leAt b 6 2)
        let s := if st.getLsbD 5 then s.takeData n (w32 (leAt b 10 4)) else s
        let s := s.delaySample n arrival
        let s := if old.seen then
            let t := s.nodeReports n old.ract ract
            ((List.range 16).filter fun k => (old.evt ^^^ evt).getLsbD k).foldl State.issueEvent t
          else s
        let s := s.nodeRestart n
        ok (s.noteDown n (st.toNat % 8)).masterRestart

/-! ### Discovery (R382) -/

/-- The row of the table bound to one of two identities, the second only if given. -/
def State.boundTo (s : State) (uid puid : BitVec 64) (two : Bool) : Option Nat :=
  nodeNums.find? fun n =>
    let x := s.node n
    x.bound && (decide (x.uid = uid) || decide (x.puid = uid) || (two && (decide (x.uid = puid) || decide (x.puid = puid))))

/-- The bound node absent longest. -/
def State.longestAbsent (s : State) : Option Nat :=
  nodeNums.foldl
    (fun a n =>
      let x := s.node n
      if !x.bound || !x.absent then a
      else match a with
        | none => some n
        | some m => if x.absentAt < (s.node m).absentAt then some n else a) none

/-- Node number for a croak (R382 step 2). -/
def State.chooseNode (s : State) (uid puid : BitVec 64) (two : Bool) (pref : Option Nat) : Option Nat :=
  let mx := s.regFld Reg.ridgeCfg 0 5
  match s.boundTo uid puid two with
  | some n => some n
  | none =>
    let free (n : Nat) : Bool := decide (1 ≤ n) && decide (n ≤ mx) && !(s.node n).bound
    match pref with
    | some p => if free p then some p else (nodeNums.find? free).or s.longestAbsent
    | none => (nodeNums.find? free).or s.longestAbsent

/-- The certificate hash is on the allow-list (R382 step 1). -/
def State.allowed (s : State) (certh : BitVec 64) : Bool :=
  !s.regBit Reg.ridgeCfg 9 ||
    (List.range 16).any fun i =>
      let e := s.reg (Reg.ridgeAllowHi i) ++ s.reg (Reg.ridgeAllowLo i)
      decide (e ≠ 0) && decide (e = certh)

/-- CROAK_RECEIVE (R382): at most one per frame. -/
def execCroakReceive (bytes : List Byte) (s : State) : Out :=
  if !s.frameOn || s.ridge.m.croaked || !s.croakOpen then ok s
  else
    match linkBody 28 bytes with
    | none => ok (s.ridgeEvt 9)
    | some b =>
      if leAt b 0 1 ≠ 0x43 then ok s
      else
        let s := s.modM fun m => { m with croaked := true }
        let fl := leAt b 1 1
        let uid := BitVec.ofNat 64 (leAt b 4 8)
        let puid := BitVec.ofNat 64 (leAt b 12 8)
        let two := decide (fl % 2 = 1)
        let lo := uid.setWidth 32
        let hi := (uid >>> 32).setWidth 32
        let s := nodeNums.foldl (fun t n => if (t.node n).admitted && decide ((t.node n).uid = uid) then t.markAbsent n else t) s
        let pick := if s.allowed (BitVec.ofNat 64 (leAt b 20 8)) then
            s.chooseNode uid puid two (if fl / 2 % 2 = 1 then some (leAt b 2 1) else none)
          else none
        match pick with
        | none => ok ((s.ridgeEvt 7).offerCmd (ownCmd 0x21 0x3E lo hi false))
        | some n =>
          let s := if (s.node n).admitted then s.markAbsent n else s
          let same := s.boundTo uid puid two = some n
          let s := s.modNode n fun x =>
            let other := if !same then 0 else if x.uid = uid then x.puid else if x.puid = uid then x.uid else 0
            { Node.init with uid := uid, puid := if two then puid else other, bound := true, joining := true,
                             absent := x.absent && same, absentAt := x.absentAt }
          ok (s.offerCmd (ownCmd 0x20 n lo hi false))

/-- CROAK_COLLISION (R382). -/
def execCroakCollision (s : State) : Out := if s.frameOn then ok (s.ridgeEvt 9) else ok s

/-! ### Reply slots without a reply (R377) -/

/-- A command addressed to a node without a reply slot of its own: its slot passes unanswered, and the third time it is ABSENT. -/
def State.emptySlot (s : State) (n : Nat) : State :=
  if s.hasSlot n then s
  else
    let s := s.modM fun m =>
      { m with resol := m.resol.map fun r => if r.node = n ∧ r.frame < m.frames then { r with miss := r.miss + 1 } else r }
    let out := s.ridge.m.resol.filter fun r => decide (r.node = n) && decide (3 ≤ r.miss)
    out.foldl State.resolveAbsent (s.modM fun m => { m with resol := m.resol.filter fun r => !(decide (r.node = n) && decide (3 ≤ r.miss)) })

/-- `TB_NOW` has come to t since it was `old`. -/
def State.reached (s : State) (old t : BitVec 32) : Bool := decide ((old - t).toNat ≥ 2 ^ 31) && decide ((s.tb.now - t).toNat < 2 ^ 31)

/-- The master's microsecond: the end of each reply slot (Table 11-1). -/
def State.masterTick (s : State) (old : BitVec 32) : State :=
  match s.ridge.m.lastTick with
  | some tk =>
    if !s.frameOn || s.ridge.m.resol.isEmpty then s
    else nodeNums.foldl (fun t n => if s.reached old (tk + w32 (140 + 19 * n)) then t.emptySlot n else t) s
  | none => s

/-! ### Registers (Table 11-11) -/

/-- Codes of `LSTATE`. -/
def LinkState.code : LinkState → Nat
  | .off => 0 | .listen => 1 | .locking => 2 | .croaking => 3 | .joining => 4 | .admitted => 5 | .mstListen => 6 | .master => 7
  | .refused => 8 | .paired => 9

/-- `RIDGE_STAT`. -/
def State.ridgeStatW (s : State) : Word :=
  let r := s.ridge
  pack [(r.lstate.code, 28, 4), (r.session.toNat, 16, 8), (b2n r.tlock, 15, 1), (b2n r.mlost, 14, 1), (b2n r.s.dlyOk, 13, 1),
    (r.node, 8, 5), (min 15 r.s.tries, 4, 4)]

/-- `RIDGE_FRAME`. -/
def State.ridgeFrameW (s : State) : Word :=
  pack [(if s.mapRole = .mst then s.ridge.m.nextCseq else s.ridge.s.rxSeq, 16, 16), (s.ridge.frame, 0, 16)]

/-- `RIDGE_ABSENT`. -/
def State.ridgeAbsentW (s : State) : Word := wordOf 32 fun n => decide (n ≠ 0) && (s.node n).bound && (s.node n).absent

/-- `RIDGE_NODEn_STAT`. -/
def State.ridgeNodeW (s : State) (n : Nat) : Word :=
  let x := s.node n
  pack [(b2n x.admitted, 31, 1), (b2n x.absent, 30, 1), (b2n (x.bound && decide (x.puid ≠ 0)), 29, 1), (b2n x.tlock, 28, 1),
    (x.missed, 24, 2), (x.grpDown.toNat, 16, 8), (x.ract.toNat, 8, 8), (x.stateB.toNat, 0, 8)]

/-- `RIDGE_NODEn_DLY`. -/
def State.ridgeDlyW (s : State) (n : Nat) : Word := pack [(enc 16 (s.node n).resid, 16, 16), ((s.node n).dly, 0, 16)]

end Sys2Proof.Machine
end

