-- ==== Sys2Proof/Machine/Mirror.lean ====
section
/-! DEFINITION. The mirror set of a pair: the 2,048 words, region by region, and loading the engines from a copy
(spec/13_redundant_pair.md R431 to R433, R441). The regions are Table 13-4's; the places within a region are log entry 21. -/

namespace Sys2Proof.Machine

/-- A model instant as a timebase value. -/
def State.instW (s : State) (t : Nat) : Word := s.tb.now - w32 (s.ticks - t)

/-- The model instant of a timebase value that is not future. -/
def State.ofInst (s : State) (w : Word) : Nat := s.ticks - (s.tb.now - w).toNat

/-- A list of exactly n words. -/
def padTo (n : Nat) (l : List Word) : List Word := (l ++ List.replicate n 0).take n

/-- A truth value as a word. -/
def flagW (l : List Bool) : Word := wordOf 32 fun i => l.getD i false

/-- Number k of a word's groups of w bits. -/
def grp (w : Word) (n k : Nat) : Nat := fld w (n * k) n

/-! ### Words 0 to 63: the device -/

/-- A group command in eight bits. -/
def grpCode (l : List GrpCmd) (i : Nat) : Nat :=
  match l[i]? with
  | some c => 16 + 32 * b2n c.edge + 8 * b2n c.stop + c.g
  | none => 0

/-- Four group commands from place k in one word. -/
def grpWord (l : List GrpCmd) (k : Nat) : Word := pack ((List.range 4).map fun j => (grpCode l (k + j), 8 * j, 8))

/-- The group commands of two words, with their instants. -/
def grpsOf (w0 w1 : Word) (t : Nat → Word) : List GrpCmd :=
  (List.range 8).filterMap fun i =>
    let c := grp (if i < 4 then w0 else w1) 8 (i % 4)
    if 16 ≤ c then some { stop := decide (8 ≤ c % 16), g := c % 8, t := t i, edge := decide (32 ≤ c) } else none

/-- CSEQ values of the timed commands that this unit has received and not executed. -/
def State.openCseqs (s : State) : List Nat := s.ridge.s.timed.map fun c => c.cseq

/-- Words 0 to 63 of the mirror set. -/
def State.mirrorDevice (s : State) : List Word :=
  let q := s.seq
  let time (o : Option (BitVec 32)) : Word := o.getD 0
  let held := s.openCseqs
  padTo 64 (
    [s.pair.term.setWidth 32,
     pack [(q.state.code, 0, 3), (q.holdFrom.code, 4, 3), (b2n q.startReq, 7, 1), (q.grpDown.toNat, 16, 8), (q.grpStop.toNat, 24, 8)],
     time (q.pendStart.map fun p => p.1), time q.pendStop, s.reg Reg.seqT0, s.reg Reg.seqTstop,
     pack [(q.src.code, 0, 3), (b2n q.dwell, 3, 1), (b2n q.srcFirst, 4, 1)],
     s.instW q.srcAt, w32 q.srcTmo, time q.srcOff, s.instW q.downAt, w32 q.minOff, s.instW q.upAt, time q.restartT,
     (match q.downTd with | some t => s.instW t | none => 0), s.sysstatW, s.reg Reg.reactFirst, s.reg Reg.reactFirstT, s.reg Reg.seqSrcCtrl,
     flagW [q.pendStart.isSome, (q.pendStart.map fun p => p.2).getD false, q.pendStop.isSome, q.heldStart.isSome,
       q.heldStart.getD false, q.heldStop, q.sysFall, q.srcOff.isSome, q.restartT.isSome, q.downTd.isSome, s.react.restart,
       s.react.sysEnd.isSome]] ++
    (List.range 8).map (fun i => match q.pendGrp[i]? with | some c => c.t | none => 0) ++
    [grpWord q.pendGrp 0, grpWord q.pendGrp 4, grpWord q.heldGrp 0, grpWord q.heldGrp 4, q.downSeen,
     (match s.react.sysEnd with | some t => s.instW t | none => 0), w32 (min 56 held.length)] ++
    ((List.range 28).map fun i => w32 (held.getD (2 * i) 0 % 65536 + held.getD (2 * i + 1) 0 % 65536 * 65536)) ++
    [w32 q.dwellAcc])

/-- Device state of a code (Table 8-4). -/
def seqStateOf : Nat → SeqState
  | 0 => .idle | 1 => .rising | 2 => .up | 3 => .falling | 4 => .downHold | 5 => .hold | _ => .adopt

/-- Rail state of a code (Table 8-2). -/
def railStateOf : Nat → RailState
  | 0 => .off | 1 => .waitOn | 2 => .ramp | 3 => .on | 4 => .waitOff | 5 => .discharge | 6 => .retryWait | _ => .faulted

/-- Source-pair state of a code (Table 8-7). -/
def srcStateOf : Nat → SrcState
  | 0 => .none | 1 => .mains | 2 => .gapToBatt | 3 => .batt | _ => .gapToMains

/-- CSEQ values that the copy shows as still held by the PRIMARY. -/
def State.copyCseqs (s : State) : List Nat :=
  (List.range (min 56 (s.copyW 34).toNat)).map fun i => grp (s.copyW (35 + i / 2)) 16 (i % 2)

/-- Load words 0 to 63 of the copy. -/
def State.loadDevice (s : State) : State :=
  let w := s.copyW
  let f (i : Nat) : Bool := bit (w 19) i
  let opt {α : Type} (b : Bool) (x : α) : Option α := if b then some x else none
  let s := s.modSeq fun q =>
    { q with state := seqStateOf (fld (w 1) 0 3), holdFrom := seqStateOf (fld (w 1) 4 3), startReq := bit (w 1) 7,
             grpDown := BitVec.ofNat 8 (fld (w 1) 16 8), grpStop := BitVec.ofNat 8 (fld (w 1) 24 8),
             pendStart := opt (f 0) (w 2, f 1), pendStop := opt (f 2) (w 3), heldStart := opt (f 3) (f 4), heldStop := f 5,
             sysFall := f 6, src := srcStateOf (fld (w 6) 0 3), dwell := bit (w 6) 3, srcFirst := bit (w 6) 4,
             srcAt := s.ofInst (w 7), srcTmo := (w 8).toNat, dwellAcc := (w 63).toNat, srcOff := opt (f 7) (w 9), downAt := s.ofInst (w 10),
             minOff := (w 11).toNat, upAt := s.ofInst (w 12), restartT := opt (f 8) (w 13), downTd := opt (f 9) (s.ofInst (w 14)),
             pendGrp := grpsOf (w 28) (w 29) fun i => w (20 + i), heldGrp := grpsOf (w 30) (w 31) fun _ => 0, downSeen := w 32 }
  let s := s.modReact fun r =>
    { r with sysCnt := fld (w 15) 8 8, lockout := bit (w 15) 1, sysEvt := bit (w 15) 0, restart := f 10,
             sysEnd := opt (f 11) (s.ofInst (w 33)) }
  [(Reg.seqT0, 4), (Reg.seqTstop, 5), (Reg.reactFirst, 16), (Reg.reactFirstT, 17), (Reg.seqSrcCtrl, 18)].foldl
    (fun (t : State) e => t.setReg e.1 (w e.2)) s

/-! ### Words 64 to 111: the rails -/

/-- The start instant of a rail's running delay or timeout; in ON the entry into ON. -/
def State.railStart (s : State) (n : Nat) : Word :=
  let r := s.railAt n
  match r.state with
  | .waitOn | .waitOff => r.inst
  | .on => s.instW r.onAt
  | _ => s.instW r.since

/-- The two words of rail n. -/
def State.mirrorRail (s : State) (n : Nat) : List Word :=
  let r := s.railAt n
  let x := s.reactAt n
  [pack [(r.state.code, 0, 3), (b2n r.en, 3, 1), (x.used, 4, 4), (b2n r.rampFail, 8, 1), (b2n r.dischFail, 9, 1),
     (b2n r.waitFault, 10, 1), (b2n x.esc, 11, 1), (x.last.toNat, 12, 2), (b2n r.deferred.isSome, 15, 1), (r.deferSt.code, 16, 3),
     (r.deferred.getD 0, 20, 8)],
   s.railStart n]

/-- Load rail n from the copy. A captured timeout is taken from the running LIVE values. -/
def State.loadRail (s : State) (n : Nat) : State :=
  let w := s.copyW (64 + 2 * n)
  let st := railStateOf (fld w 0 3)
  let i := s.copyW (65 + 2 * n)
  let s := s.modRail n fun r =>
    { r with state := st, en := bit w 3, rampFail := bit w 8, dischFail := bit w 9, waitFault := bit w 10, inWin := none,
             deferred := if bit w 15 then some (fld w 20 8) else none, deferSt := railStateOf (fld w 16 3), inst := i,
             since := s.ofInst i, onAt := s.ofInst i,
             tmo := match st with | .ramp => s.rampTmo n | .discharge => s.dischTmo n | .retryWait => s.retryGap n | _ => 0 }
  s.modReactAt n fun x => { x with used := fld w 4 4, esc := bit w 11, last := BitVec.ofNat 2 (fld w 12 2) }

/-! ### Words 112 to 175: margins -/

/-- State of a margin DAC from its code (Table 9-9). -/
def mrgStateOf : Nat → MrgState
  | 0 => .nominal | 1 => .slewOut | 2 => .held | _ => .slewBack

/-- The eight words of margin DAC m; the last word of DAC 0 is `MRG_ERR`. -/
def State.mirrorMrg (s : State) (m : Nat) : List Word :=
  let d := s.dac m
  padTo 8 [pack [(d.state.code, 0, 3), (b2n d.target, 3, 1), (b2n d.timeout, 4, 1), (enc 10 d.cur, 6, 10), (enc 10 d.goal, 16, 10)],
    s.instW d.cmdAt, s.instW d.stepAt, 0, 0, 0, 0, if m = 0 then s.reg Reg.mrgErr else 0]

/-- Load margin DAC m. -/
def State.loadMrg (s : State) (m : Nat) : State :=
  let w := s.copyW (112 + 8 * m)
  let s := s.modDac m fun d =>
    { d with state := mrgStateOf (fld w 0 3), target := bit w 3, timeout := bit w 4, cur := sfld w 6 10, goal := sfld w 16 10,
             cmdAt := s.ofInst (s.copyW (113 + 8 * m)), stepAt := s.ofInst (s.copyW (114 + 8 * m)) }
  if m = 0 then s.setReg Reg.mrgErr (s.copyW 119) else s

/-! ### Words 512 to 799: the scheduler -/

/-- The four words of scheduler entry e; rail e's counts and node e's copies share them. -/
def State.mirrorLoad (s : State) (e : Nat) : List Word :=
  let l := s.loadAt e
  let x := s.sup e
  let c := s.statusCopy (e % 32)
  [w32 l.credit,
   pack [(l.wait, 0, 16), (b2n l.urgent, 16, 1), (b2n l.granted, 17, 1), (b2n l.active, 18, 1), (s.regFld (Reg.schedLDuty e) 0 10, 20, 10)],
   if e < 24 then pack [(x.dark, 0, 2), (x.same, 2, 5), (enc 24 x.lastVal, 8, 24)] else 0,
   (if e < 32 then c.1 else c.2).setWidth 32]

/-- Three words of a grant. -/
def grantWords (o : Option Grant) : List Word :=
  match o with
  | some g => [g.t, pack [(1, 31, 1), (g.len, 0, 16)], g.mask.setWidth 32]
  | none => [0, 0, 0]

/-- The grant at word i of the copy. -/
def State.copyGrant (s : State) (i : Nat) : Option Grant :=
  let w := s.copyW (i + 1)
  if bit w 31 then some { t := s.copyW i, len := fld w 0 16, mask := (s.copyW (i + 2)).setWidth 24 } else none

/-- The pending grants that the copy shows. -/
def State.copyGrants (s : State) : List Grant := [771, 774, 777, 780].filterMap s.copyGrant

/-- Words 768 to 799. -/
def State.mirrorGlobal (s : State) : List Word :=
  let c := s.sched
  let grants := grantWords c.cur ++ (List.range 4).flatMap fun i => grantWords c.pend[i]?
  if s.isRole .slv then padTo 32 grants
  else padTo 32 (grants ++
    [s.reg Reg.schedMainsAllow, s.reg Reg.schedBattAllow, s.reg Reg.schedCtrl, c.zxLast.getD 0,
     pack [(c.zxInts.getD 0 0, 0, 16), (c.zxInts.getD 1 0, 16, 16)], pack [(c.zxInts.getD 2 0, 0, 16), (c.zxInts.getD 3 0, 16, 16)],
     pack [(b2n c.zxLast.isSome, 0, 1), (b2n c.zxOk, 1, 1), (c.zxInts.length, 4, 3), (c.zxGood, 8, 8)],
     pack [(c.bepoch.toNat, 0, 16), (b2n c.run, 16, 1), (b2n c.pInhibit, 17, 1), (b2n c.pNotUp, 18, 1), (b2n c.pHalt, 19, 1),
       (b2n c.pZx, 20, 1)],
     s.reg Reg.schedPo, s.reg Reg.schedUs, s.reg Reg.schedZxt, s.reg Reg.schedZxp])

/-- Load the scheduler; a slave pair holds grants only. -/
def State.loadSched (s : State) : State :=
  let w := s.copyW
  if s.isRole .slv then s.modSched fun c => { c with cur := s.copyGrant 768, pend := s.copyGrants }
  else
    let s := (List.range 64).foldl
      (fun (t : State) e =>
        let a := w (513 + 4 * e)
        let t := t.setReg (Reg.schedLDuty e) (w32 (fld a 20 10))
        let t := t.modSched fun c =>
          { c with loads := c.loads.set e { credit := (w (512 + 4 * e)).toNat, wait := fld a 0 16, urgent := bit a 16,
                                            granted := bit a 17, active := bit a 18 } }
        if e < 24 then
          t.modSup e fun x => { x with dark := fld (w (514 + 4 * e)) 0 2, same := fld (w (514 + 4 * e)) 2 5,
                                       lastVal := sfld (w (514 + 4 * e)) 8 24, open_ := false }
        else t) s
    let copies := (List.range 32).filterMap fun n =>
      let a := w (515 + 4 * n)
      let b := w (515 + 4 * (n + 32))
      if a = 0 ∧ b = 0 then none else some (n, a.setWidth 24, b.setWidth 24)
    let f := w 789
    let ints := [fld (w 787) 0 16, fld (w 787) 16 16, fld (w 788) 0 16, fld (w 788) 16 16].take (fld f 4 3)
    let s := s.modSched fun c =>
      { c with cur := s.copyGrant 768, pend := s.copyGrants, copies := copies, zxLast := if bit f 0 then some (w 786) else none,
               zxOk := bit f 1, zxInts := ints, zxGood := fld f 8 8, bepoch := BitVec.ofNat 16 (fld (w 790) 0 16),
               run := bit (w 790) 16, pInhibit := bit (w 790) 17, pNotUp := bit (w 790) 18, pHalt := bit (w 790) 19,
               pZx := bit (w 790) 20 }
    [(Reg.schedMainsAllow, 783), (Reg.schedBattAllow, 784), (Reg.schedCtrl, 785), (Reg.schedPo, 791), (Reg.schedUs, 792),
      (Reg.schedZxt, 793), (Reg.schedZxp, 794)].foldl (fun (t : State) e => t.setReg e.1 (w e.2)) s

/-! ### Words 800 to 2047: the Ridge master (R390) -/

/-- Four words of a queued or issued command; the low half of the second is a frame number. -/
def queueWords (q : QueueCmd) (frame : Nat) : List Word :=
  [pack [(q.cmd.cseq, 16, 16), (q.cmd.op, 8, 8), (q.cmd.dst, 0, 6)],
   pack [(1, 31, 1), (b2n q.chooseT, 30, 1), (b2n q.hcmd, 29, 1), (b2n q.proxy, 28, 1), (q.tries, 24, 4), (frame, 0, 16)],
   q.cmd.arg0, q.cmd.arg1]

/-- The command at word i of the copy. -/
def State.copyQueue (s : State) (i : Nat) : Option QueueCmd :=
  let a := s.copyW i
  let b := s.copyW (i + 1)
  if bit b 31 then
    some { cmd := { op := fld a 8 8, dst := fld a 0 6, cseq := fld a 16 16, arg0 := s.copyW (i + 2), arg1 := s.copyW (i + 3) },
           chooseT := bit b 30, hcmd := bit b 29, proxy := bit b 28, tries := fld b 24 4 }
  else none

/-- Eight words of a node of the table. -/
def nodeWords (x : Node) : List Word :=
  [x.uid.setWidth 32, (x.uid >>> 32).setWidth 32, x.puid.setWidth 32, (x.puid >>> 32).setWidth 32,
   pack [(b2n x.bound, 0, 1), (b2n x.joining, 1, 1), (b2n x.admitted, 2, 1), (b2n x.absent, 3, 1), (x.missed, 4, 2),
     (b2n x.tlock, 6, 1), (b2n x.seen, 7, 1), (b2n x.dlyOk, 8, 1), (b2n x.dlyAt.isSome, 9, 1), (x.dly, 16, 16)],
   pack [(x.ract.toNat, 0, 8), (x.grpDown.toNat, 8, 8), (x.evt.toNat, 16, 16)],
   pack [(x.stateB.toNat, 0, 8), (x.dlyAt.getD 0, 8, 24)], w32 x.absentAt]

/-- The largest number not above `m` that is r modulo 2^n. -/
def latest (m n r : Nat) : Nat := m - (m + 2 ^ n - r % 2 ^ n) % 2 ^ n

/-- Node n of the copy. -/
def State.copyNode (s : State) (frames n : Nat) : Node :=
  let w (i : Nat) : Word := s.copyW (808 + 8 * n + i)
  let f := w 4
  { Node.init with
      uid := w 1 ++ w 0, puid := w 3 ++ w 2, bound := bit f 0, joining := bit f 1, admitted := bit f 2, absent := bit f 3,
      missed := fld f 4 2, tlock := bit f 6, seen := bit f 7, dlyOk := bit f 8, dly := fld f 16 16,
      ract := BitVec.ofNat 8 (fld (w 5) 0 8), grpDown := BitVec.ofNat 8 (fld (w 5) 8 8), evt := BitVec.ofNat 16 (fld (w 5) 16 16),
      stateB := BitVec.ofNat 8 (fld (w 6) 0 8), dlyAt := if bit f 9 then some (latest frames 24 (fld (w 6) 8 24)) else none,
      absentAt := latest frames 32 (w 7).toNat }

/-- The issued commands with their frames, each once. -/
def resolItems (l : List Resol) : List (QueueCmd × Nat) := (l.map fun r => (r.item, r.frame)).eraseDups

/-- Seven words of one issued command: its nodes and their missing replies. -/
def resolWords (l : List Resol) (x : QueueCmd × Nat) : List Word :=
  let mine := l.filter fun r => decide ((r.item, r.frame) = x)
  let miss (k : Nat) : Word := w32 ((mine.filter fun r => decide (r.node / 16 = k)).map fun r => min 3 r.miss * 4 ^ (r.node % 16)).sum
  queueWords x.1 x.2 ++ [wordOf 32 fun n => mine.any fun r => decide (r.node = n), miss 0, miss 1]

/-- Words 800 to 2047. -/
def State.mirrorRidge (s : State) : List Word :=
  let r := s.ridge
  let m := r.m
  padTo 1248 (
    padTo 8 [pack [(r.lstate.code, 0, 4), (b2n m.croaked, 4, 1), (b2n m.lastTick.isSome, 5, 1), (r.session.toNat, 8, 8)],
      w32 r.frame, w32 m.nextCseq, w32 m.frames, w32 (m.frames / 2 ^ 32), m.lastTick.getD 0] ++
    padTo 256 (m.nodes.flatMap nodeWords) ++ padTo 256 (m.queue.flatMap fun q => queueWords q 0) ++
    ((resolItems m.resol).take 104).flatMap (resolWords m.resol))

/-- The resolution records of the copy. -/
def State.copyResol (s : State) (frames : Nat) : List Resol :=
  (List.range 104).flatMap fun k =>
    let i := 1320 + 7 * k
    match s.copyQueue i with
    | some q =>
      ((List.range 32).filter fun n => bit (s.copyW (i + 4)) n).map fun n =>
        { item := q, node := n, frame := latest frames 16 (fld (s.copyW (i + 1)) 0 16), miss := grp (s.copyW (i + 5 + n / 16)) 2 (n % 16) }
    | none => []

/-- Load the Ridge master; its link state goes on as the copy shows it. -/
def State.loadRidge (s : State) : State :=
  let w := s.copyW
  let f := w 800
  let frames := (w 803).toNat + 2 ^ 32 * (w 804).toNat
  s.modRidge fun r =>
    { r with lstate := match fld f 0 4 with | 7 => .master | 8 => .refused | _ => .mstListen, session := BitVec.ofNat 8 (fld f 8 8),
             frame := (w 801).toNat,
             m :=
               { nodes := (List.range 32).map (s.copyNode frames), queue := (List.range 64).filterMap fun k => s.copyQueue (1064 + 4 * k),
                 resol := s.copyResol frames, burst := [], nextCseq := (w 802).toNat, frames := frames,
                 lastTick := if bit f 5 then some (w 805) else none, croaked := bit f 4, pxRead := none } }

/-! ### The whole set -/

/-- The mirror set of this unit's engines, 2,048 words (Table 13-4); regions that the role does not use hold 0. -/
def State.mirrorWords (s : State) : List Word :=
  let sched := !s.isRole .slv
  padTo 2048 (
    s.mirrorDevice ++ railNums.flatMap s.mirrorRail ++ (List.range 8).flatMap s.mirrorMrg ++ padTo 336 (s.liveRegs.map s.reg) ++
    (if sched then (List.range 64).flatMap s.mirrorLoad else List.replicate 256 0) ++ s.mirrorGlobal ++
    (if s.isRole .mst then s.mirrorRidge else []))

/-- The set as a canonical store of its non-zero words. -/
def State.mirrorImage (s : State) : List (Nat × Word) :=
  (s.mirrorWords.zipIdx.filter fun e => decide (e.1 ≠ 0)).map fun e => (e.2, e.1)

/-- Word i of a store whose unlisted words are 0. -/
def wordAt (l : List (Nat × Word)) (i : Nat) : Word := Store.read (fun _ => 0) l i

/-- CRC-32 of the 2,048 words of a store (R435). -/
def mirrorDigest (l : List (Nat × Word)) : Word := crc32 (wordBytes ((List.range 2048).map (wordAt l)))

/-- The changes from one store to another: one record for each word that differs, in ascending order (R432). -/
def mirrorDiff (old new : List (Nat × Word)) : List (Nat × Word) :=
  ((List.range 2048).filter fun i => decide (wordAt old i ≠ wordAt new i)).map fun i => (i, wordAt new i)

/-- The engines take over from the copy (R441). The running LIVE values come first, since timeouts are read from them. -/
def State.loadMirror (s : State) : State :=
  let s := s.liveRegs.zipIdx.foldl (fun t e => t.putLive e.1 (s.copyW (mirrorLiveBase + e.2))) s
  let s := (List.range 8).foldl State.loadMrg (railNums.foldl State.loadRail s.loadDevice)
  let s := s.loadSched
  if s.isRole .mst then s.loadRidge else s

end Sys2Proof.Machine
end

