-- ==== Sys2Proof/Machine/Pair.lean ====
section
/-! DEFINITION. The redundant pair: positions, handshake, mirror link, digests, takeover, yield and regrow
(spec/13_redundant_pair.md R422 to R448). -/

namespace Sys2Proof.Machine

/-! ### Identity and frames (R422, R428, R429) -/

/-- Position: true B (R422). -/
def State.pos (s : State) : Bool := s.fuseBit 1 5

/-- `IMGTAG` of the running image (R422). -/
def State.imgTag (s : State) : Word := match s.img.running with | some g => g.imgTag | none => 0

/-- An event of `PAIR_EVT`. -/
def State.pairEvt (s : State) (i : Nat) : State := s.raise Reg.pairEvt i

/-- A count of `PAIR_CNT`. -/
def State.pairCount (s : State) (lo : Nat) : State := s.count Reg.pairCnt lo 8 1

/-- Bytes of a mirror frame. -/
def MFrame.bytes (m : MFrame) : List Byte := withCrc (b8 m.ty :: b8 m.fseq :: b8 m.payload.length :: m.payload)

/-- The frame of received bytes; none: a failed CRC or a `LEN` above 64. -/
def mframe (l : List Byte) : Option MFrame :=
  if 64 < leAt l 2 1 then none
  else
    match crcBody (leAt l 2 1 + 3) l with
    | some b => some { ty := leAt b 0 1, fseq := leAt b 1 1, payload := b.drop 3 }
    | none => none

/-- A frame leaves; frames of one microsecond stand together in `tx`. The line is busy for ten bit times a byte (R428). -/
def State.sendMirror (s : State) (m : MFrame) : State :=
  s.modPair fun p =>
    { p with tx := if p.txAt = s.ticks then p.tx ++ [m.bytes] else [m.bytes], txAt := s.ticks,
             busyTo := max p.busyTo s.ticks + (m.payload.length + 8) / 2 }

/-- The line is idle. -/
def State.mirrorFree (s : State) : Bool := decide (s.pair.busyTo ≤ s.ticks)

/-- A CLAIM (Table 13-3). -/
def State.claimFrame (s : State) : MFrame :=
  { ty := 0x01, fseq := 0,
    payload := [b8 (b2n s.pos), 0] ++ leBytes 2 s.pair.term.toNat ++ leBytes 4 s.imgTag.toNat ++ leBytes 8 s.uid.toNat }

/-- Codes of Table 13-1. -/
def PairState.code : PairState → Nat
  | .none => 0 | .listen => 1 | .solo => 2 | .primary => 3 | .regrow => 4 | .inStep => 5 | .orphan => 6 | .noForm => 7

/-- An HB (Table 13-3). -/
def State.hbFrame (s : State) : MFrame :=
  { ty := 0x02, fseq := 0,
    payload := [b8 (b2n s.pos), b8 s.pairShown.code] ++ leBytes 2 s.pair.term.toNat ++ leBytes 4 s.tb.now.toNat ++
      [b8 (if s.isShadow then s.pair.ack else 0), b8 (b2n s.pair.restart + 2 * b2n s.pair.copyOk), 0, 0] ++
      leBytes 4 s.imgTag.toNat ++ leBytes 8 s.uid.toNat }

/-! ### Entering the states of Table 13-1 -/

/-- The engines that a SHADOW or a unit in NOFORM keeps idle stand at their reset values; timed commands received on the Ridge link
go to the held list (R434). An ADOPT in progress ends. The chain ports are released (R478). A slave that was admitted is PAIRED (R391). -/
def State.idleEngines (s : State) : State :=
  let held := s.pair.held ++ s.ridge.s.timed
  let s := ((s.modSeq fun _ => Seq.init).modMrg fun _ => Mrg.init).modSched fun c =>
    { Sched.init with cur := c.cur, pend := if s.isRole .slv then c.pend else [] }
  let s := (s.modWdt fun w => { w with run := false }).modChain fun _ => { p0 := ChainPort.init, p1 := ChainPort.init }
  let s := s.modPair fun p =>
    { p with held := held, stream := false, sent := 0, unacked := [], deltas := [], commits := [], chunkTx := [], matchCnt := 0,
             andTrip := 0, restart := false, claimWait := none, adoptFrom := none }
  let s := s.modRst fun r => { r with adopt := none, sysRestart := none }
  s.modRidge fun r =>
    let joined := decide (r.lstate = .croaking) || decide (r.lstate = .joining) || decide (r.lstate = .admitted)
    { r with lstate := if s.isRole .mst || joined then .paired else r.lstate, m := if s.isRole .mst then RMaster.init else r.m,
             s := { r.s with timed := [] } }

/-- Chunks of a regrow for the role (R444). -/
def State.chunkList (s : State) : List Nat :=
  if s.isRole .mst then List.range 256
  else if s.isRole .slv then List.range 64 ++ [96, 97, 98, 99]
  else List.range 100

/-- A new snapshot is asked for: the copy is incomplete, and the ordered stream restarts at FSEQ 1 (R444, log entry 22). -/
def State.snapReq (s : State) : State :=
  (s.modPair fun p =>
    { p with pstate := .regrow, copy := [], copyOk := false, expect := 1, ack := 0, matchCnt := 0, chunks := 0,
             chunkGoal := s.chunkList.length, yield := none, yieldSeq := none }).sendMirror { ty := 0x21, fseq := 0, payload := [1] }

/-- The unit enters REGROW. -/
def State.enterRegrow (s : State) : State :=
  let s := if s.isShadow then s else s.idleEngines
  s.snapReq.shadowPins

/-- The unit enters NOFORM. -/
def State.enterNoForm (s : State) : State :=
  ((s.idleEngines.modPair fun p => { p with pstate := .noForm, copyOk := false, yield := none, yieldSeq := none }).pairEvt 9).shadowPins

/-- The unit enters ORPHAN. -/
def State.enterOrphan (s : State) : State :=
  (s.modPair fun p => { p with pstate := .orphan, yield := none, yieldSeq := none }).shadowPins

/-- The link of a role starts: a master listens for a tick first (R27), a slave looks for one. -/
def State.linkStart (s : State) : State :=
  if s.isRole .mst then
    (s.modRidge fun r => { r with lstate := .mstListen }).modBoot fun b => { b with listenEnd := some (s.ticks + 3000) }
  else if s.isRole .slv then s.modRidge fun r => { r with lstate := .listen }
  else s

/-- The unit goes alone: ADOPT first, and the state SOLO to the outside once that has ended (R159, R424). -/
def State.goSolo (s : State) : State :=
  let s := s.modPair fun p => { p with pstate := .solo, adoptFrom := some p.pstate, claimWait := none, guardAt := s.ticks, copyOk := false, yield := none }
  let s := if s.isRole .mst then s.linkStart else s
  s.wdtStart.chainStart.enterAdopt

/-- PRIMARY becomes SOLO. -/
def State.primaryAlone (s : State) : State :=
  s.modPair fun p =>
    { p with pstate := .solo, stream := false, sent := 0, unacked := [], deltas := [], commits := [], chunkTx := [], restart := false }

/-! ### Takeover (R441, R442) -/

/-- Held timed commands that still run: future ones, and those the copy shows as not executed. -/
def State.heldDue (s : State) : List RidgeCmd :=
  (s.pair.held.filter fun c => !s.past c.arg0 || s.copyCseqs.contains c.cseq).filter fun c =>
    s.isRole .slv || decide (c.op = 6) || decide (c.op = 7)

/-- A rail that the copy shows ON and whose sense lies outside its window is FAULTED, its reaction due (R442). -/
def State.reconcile (s : State) (n : Nat) : State :=
  let ch := s.sense n
  if s.slotted n ∧ s.rstate n = .on ∧ ((s.comp ch false).out ∨ (s.comp ch true).out) then
    (s.offRail n .faulted).modRail n fun r => { r with deferred := some FaultCode.adopt.code, deferSt := .on }
  else s

/-- The engines are loaded from the copy, the rails reconciled, and every pin follows the sequencer (Table 13-7). -/
def State.takeOver (s : State) : State :=
  let held := s.heldDue
  let s := s.wetAbort.loadMirror
  let p := s.prefNode
  let s := s.modPair fun p =>
    { p with pstate := .solo, term := p.term + 1, held := [], andTrip := 0, copyOk := false, guardAt := s.ticks, stream := false,
             sent := 0, unacked := [], deltas := [], commits := [], matchCnt := 0, yield := none, yieldSeq := none }
  let s := s.modRidge fun r =>
    let croak := decide (r.lstate = .paired) && decide (r.node = 0)
    { r with lstate := if croak then .croaking else if r.lstate = .paired then .admitted else r.lstate,
             s := { r.s with timed := held, pref := if croak then p else r.s.pref } }
  let pre := s
  let s := railNums.foldl State.reconcile s
  let s := railNums.foldl (fun t n => if t.hasEn n then t.setEn n (t.railAt n).en else t) s
  let s := s.runDeferred pre true
  (s.wdtRestart.modWdt fun w => { w with par := false }).chainStart.watch s

/-! ### The ordered stream of the PRIMARY (R430, R432, R444) -/

/-- OVF: the stream ends and the partner is asked to regrow (R430). -/
def State.mirrorOvf (s : State) : State :=
  (s.modPair fun p =>
    { p with restart := true, stream := false, sent := 0, unacked := [], deltas := [], commits := [], chunkTx := [] }).pairEvt 4

/-- A frame takes its place in the stream. -/
def State.placeMirror (s : State) (ty : Nat) (payload : List Byte) : State :=
  let s := s.modPair fun p =>
    { p with unacked := p.unacked ++ [{ ty := ty, fseq := p.fseq, payload := payload }], fseq := (p.fseq + 1) % 256 }
  if 128 < s.pair.unacked.length then s.mirrorOvf else s

/-- Records of a DELTA. -/
def deltaBytes (l : List (Nat × Word)) : List Byte := l.flatMap fun e => leBytes 2 e.1 ++ leBytes 4 e.2.toNat

/-- The first ten waiting records take their place as one DELTA. -/
def State.placeDelta (s : State) : State :=
  let l := s.pair.deltas.take 10
  (s.modPair fun p => { p with deltas := p.deltas.drop 10, chunkTurn := true }).placeMirror 0x10 (deltaBytes l)

/-- All waiting records take their places, up to n frames. -/
def State.placeDeltas : Nat → State → State
  | 0, s => s
  | n + 1, s => if s.pair.deltas.isEmpty then s else State.placeDeltas n s.placeDelta

/-- The next chunk takes its place, read as it stands now. -/
def State.placeChunk (s : State) : State :=
  match s.pair.chunkTx with
  | c :: rest =>
    (s.modPair fun p => { p with chunkTx := rest, chunkTurn := false }).placeMirror 0x12
      (leBytes 2 c ++ (List.range 8).flatMap fun i => leBytes 4 (wordAt s.pair.copy (8 * c + i)).toNat)
  | [] => s

/-- The PRIMARY's image follows its engines; each changed word is a delta record (R432). -/
def State.mirrorSync (s : State) : State :=
  if !s.pair.stream then s
  else
    let new := s.mirrorImage
    let d := mirrorDiff s.pair.copy new
    let s := s.modPair fun p => { p with copy := new, deltas := p.deltas ++ d }
    if 1024 < s.pair.deltas.length then s.mirrorOvf else s

/-- The next frame of the stream leaves. -/
def State.leaveMirror (s : State) : State :=
  match s.pair.unacked[s.pair.sent]? with
  | some m =>
    (s.modPair fun p =>
      { p with sent := p.sent + 1, ackAt := if p.sent = 0 then s.ticks else p.ackAt,
               commits := if m.ty = 0x11 then p.commits.map fun c => if c.1 = leAt m.payload 0 2 ∧ c.2.2 = 0 then (c.1, c.2.1, s.ticks) else c
                          else p.commits }).sendMirror m
  | none => s

/-- One microsecond of the mirror engine: the image follows, and a free line takes the next frame, one chunk for every DELTA while
deltas wait (R444). -/
def State.pairTick (s : State) : State :=
  if !(s.paired && s.pair.pstate.drives && s.pair.stream) then s
  else
    let s := s.mirrorSync
    if !s.pair.stream || !s.mirrorFree || !s.mirrorUp then s
    else
      let s := if s.pair.sent < s.pair.unacked.length then s
        else if !s.pair.deltas.isEmpty && !(s.pair.chunkTurn && !s.pair.chunkTx.isEmpty) then s.placeDelta
        else s.placeChunk
      s.leaveMirror

/-- An ACK frees the frames it covers (R430). -/
def State.mirrorAck (s : State) (a : Nat) : State :=
  let p := s.pair
  match (p.unacked.take p.sent).findIdx? fun m => decide (m.fseq = a) with
  | some i =>
    let gone := p.unacked.take (i + 1)
    s.modPair fun p =>
      { p with unacked := p.unacked.drop (i + 1), sent := p.sent - (i + 1), ackAt := s.ticks,
               yieldSeq := if gone.any fun m => decide (m.ty = 0x13) then none else p.yieldSeq }
  | none => s

/-- MIRROR_RESEND (R430). -/
def execMirrorResend (s : State) : Out :=
  if s.mirrorUp && s.pair.stream && decide (0 < s.pair.sent) && s.passed s.pair.ackAt 60 then
    ok (s.modPair fun p => { p with sent := 0, ackAt := s.ticks })
  else ok s

/-! ### Receiving (R422 to R427) -/

/-- A frame received intact is a heartbeat (R422). -/
def State.heard (s : State) : State := s.modPair fun p => { p with lastHb := some s.ticks, lost := false }

/-- A frame of type `ty` reaches the unit; a broken one only counts (R428). -/
def State.mirrorIn (s : State) (ty : Nat) (bytes : List Byte) (f : State → MFrame → State) : Out :=
  if !s.mirrorUp then ok s
  else
    match mframe bytes with
    | none => ok (s.pairCount 0)
    | some m => ok (if m.ty = ty then f s.heard m else s.heard)

/-- MIRROR_FRAME_DISCARD (R428). -/
def execMirrorFrameDiscard (bytes : List Byte) (s : State) : Out :=
  if s.mirrorUp && (mframe bytes).isNone then ok (s.pairCount 0) else ok s

/-- CLAIM_SEND (R424): every 40 µs for 300 µs. -/
def execClaimSend (s : State) : Out :=
  if s.mirrorUp && decide (s.pair.pstate = .listen) && decide (s.ticks ≤ s.pair.listenAt + 300) &&
      (s.passed s.pair.txAt 40 || decide (s.pair.txAt < s.pair.listenAt)) then
    ok (s.sendMirror s.claimFrame)
  else ok s

/-- A CLAIM taken (R424, R427). -/
def State.takeClaim (s : State) (m : MFrame) : State :=
  let b := m.payload
  let p : Partner :=
    { pos := decide (leAt b 0 1 = 1), pstate := 1, term := BitVec.ofNat 16 (leAt b 2 2), imgTag := w32 (leAt b 4 4),
      uid := BitVec.ofNat 64 (leAt b 8 8), restart := false, copyOk := false }
  let s := s.modPair fun x => { x with partner := some p }
  if s.pair.pstate ≠ .listen then s
  else if p.pos == s.pos then (if p.uid.toNat < s.uid.toNat then s.enterNoForm else s)
  else if s.pos then s.modPair fun x => { x with claimWait := some x.listenAt }
  else s

/-- CLAIM_RECEIVE (R427). -/
def execClaimReceive (bytes : List Byte) (s : State) : Out :=
  s.mirrorIn 0x01 bytes fun s m => if m.payload.length = 16 then s.takeClaim m else s

/-- PAIR_LISTEN_END (R424). -/
def execPairListenEnd (s : State) : Out :=
  if s.paired && decide (s.pair.pstate = .listen) && s.pair.claimWait.isNone && s.passed s.pair.listenAt 300 then ok s.goSolo else ok s

/-- PAIR_CLAIM_WAIT_EXPIRY (R424): 5 ms after the end of the 300 µs. -/
def execPairClaimWaitExpiry (s : State) : Out :=
  if s.paired && decide (s.pair.pstate = .listen) && s.pair.claimWait.isSome && s.passed s.pair.listenAt 5300 then ok s.goSolo else ok s

/-- HEARTBEAT_SEND (R430): nothing else has left for 40 µs; a SHADOW sends one every 40 µs in any case. -/
def execHeartbeatSend (s : State) : Out :=
  let due := s.passed s.pair.txAt 40 || (s.isShadow && s.passed s.pair.hbAt 40)
  if s.mirrorUp && decide (s.pair.pstate ≠ .none) && due && s.mirrorFree then
    ok ((s.sendMirror s.hbFrame).modPair fun p => { p with hbAt := s.ticks, yieldSeq := if s.isShadow then none else p.yieldSeq })
  else ok s

/-- TERM `a` is older than `b` under the half-range rule on 16 bits (R426). -/
def termOlder (a b : BitVec 16) : Bool := decide (2 ^ 15 < (a - b).toNat)

/-- The timebase is stepped to a corrected value: a synchronising reset, which fabric source TB_RESYNC shows (R89, R187). -/
def State.syncReset (s : State) (now : BitVec 32) : State :=
  ((s.modTb fun t => { t with now := now, resync := true, resyncCnt := min 0xFFFF (t.resyncCnt + 1), slew := 0, frac := 1000 }).syncScan).pulse 0x0F

/-- An SGL or MST SHADOW follows the PRIMARY's timebase: the stamp plus the frame's own 15.5 µs, rounded down (R434). -/
def State.mirrorTime (s : State) (stamp : Word) : State :=
  let now := stamp + 15
  let d := (now - s.tb.now).toInt
  if !(s.isShadow && !s.isRole .slv) ∨ d = 0 then s
  else if 2 < d.natAbs then s.syncReset now
  else s.slewBy (2000 * d)

/-- A demotion (R426). -/
def State.demote (s : State) : State := (s.enterRegrow.pairEvt 6).raise1 .mirror

/-- What a heartbeat of partner p does to the pair state (Table 13-2, R424 to R427, R447). -/
def State.pairJudge (s : State) (p : Partner) : State :=
  let same := p.pos == s.pos
  let good := !same && decide (p.imgTag = s.imgTag)
  let up := decide (p.pstate = 2) || decide (p.pstate = 3)
  match s.pair.pstate with
  | .none => s
  | .listen => if !up then s else if good then s.enterRegrow else s.enterNoForm
  | .solo | .primary =>
    if up then
      if same then
        if p.uid.toNat < s.uid.toNat then s.enterNoForm.raise1 .mirror
        else if s.pair.pstate = .primary then s.primaryAlone else s
      else if termOlder s.pair.term p.term || (decide (s.pair.term = p.term) && s.pos) then s.demote
      else s
    else if s.pair.pstate = .solo then
      (if good && decide (p.pstate = 4) then s.modPair fun x => { x with pstate := .primary } else s)
    else if p.pstate = 7 then s.primaryAlone
    else s
  | .regrow | .inStep =>
    if up && !good then s.enterNoForm else if up && p.restart then s.enterRegrow else s
  | .orphan => if up && good then s.enterRegrow else s
  | .noForm =>
    if !good then s
    else if (decide (p.pstate = 1) || decide (p.pstate = 7)) && p.pos then s.goSolo
    else s.enterRegrow

/-- An HB taken. -/
def State.takeHb (s : State) (m : MFrame) : State :=
  let b := m.payload
  let f := leAt b 9 1
  let p : Partner :=
    { pos := decide (leAt b 0 1 = 1), pstate := leAt b 1 1, term := BitVec.ofNat 16 (leAt b 2 2), imgTag := w32 (leAt b 12 4),
      uid := BitVec.ofNat 64 (leAt b 16 8), restart := decide (f % 2 = 1), copyOk := decide (f / 2 % 2 = 1) }
  let s := (s.modPair fun x => { x with partner := some p }).pairJudge p
  let s := if s.pair.pstate.drives && s.pair.stream then s.mirrorAck (leAt b 8 1) else s
  if p.pstate = 2 ∨ p.pstate = 3 then s.mirrorTime (w32 (leAt b 4 4)) else s

/-- HEARTBEAT_RECEIVE (R426). -/
def execHeartbeatReceive (bytes : List Byte) (s : State) : Out :=
  s.mirrorIn 0x02 bytes fun s m => if m.payload.length = 24 then s.takeHb m else s

/-! ### The SHADOW's copy (R430, R432, R435, R444) -/

/-- Grants that the copy shows pending replace those of this unit that lie ahead (R439). -/
def State.shadowGrants (s : State) : State :=
  if s.isRole .slv then s
  else
    let ahead := s.copyGrants.filter fun g => !s.due g.t
    s.modSched fun c => { c with pend := (c.pend.filter fun g => s.due g.t) ++ ahead }

/-- A word of the copy takes a value: `TERM` follows word 0, and a fast-off trip ends when a rail enters RAMP or ON (R439). -/
def State.copyWord (s : State) (e : Nat × Word) : State :=
  if 2048 ≤ e.1 then s
  else
    let old := s.copyW e.1
    let s := s.modPair fun p => { p with copy := Store.write (fun _ => 0) p.copy e.1 e.2 }
    if e.1 = 0 then s.modPair fun p => { p with term := e.2.setWidth 16 }
    else if 64 ≤ e.1 ∧ e.1 < 112 ∧ e.1 % 2 = 0 ∧ fld old 0 3 ≠ fld e.2 0 3 ∧ (fld e.2 0 3 = 2 ∨ fld e.2 0 3 = 3) then
      s.modPair fun p => { p with andTrip := p.andTrip &&& ~~~(BitVec.ofNat 24 (2 ^ ((e.1 - 64) / 2))) }
    else s

/-- Words enter the copy in stream order. -/
def State.copyWords (s : State) (l : List (Nat × Word)) : State := (l.foldl State.copyWord s).shadowGrants.shadowPins

/-- An ordered frame is taken only when it is the next one (R430). -/
def State.ordered (s : State) (m : MFrame) (f : State → State) : State :=
  if (s.pair.pstate = .regrow ∨ s.pair.pstate = .inStep) ∧ m.fseq = s.pair.expect then
    f (s.modPair fun p => { p with expect := (p.expect + 1) % 256, ack := m.fseq })
  else s

/-- Records of a DELTA's payload. -/
def deltaRecords (b : List Byte) : List (Nat × Word) :=
  (List.range (b.length / 6)).map fun i => (leAt b (6 * i) 2, w32 (leAt b (6 * i + 2) 4))

/-- DELTA_RECEIVE (R432). -/
def execDeltaReceive (bytes : List Byte) (s : State) : Out :=
  s.mirrorIn 0x10 bytes fun s m => s.ordered m fun t => t.copyWords (deltaRecords m.payload)

/-- CHUNK_RECEIVE (R444): the last chunk completes the copy. -/
def execChunkReceive (bytes : List Byte) (s : State) : Out :=
  s.mirrorIn 0x12 bytes fun s m => s.ordered m fun t =>
    let c := leAt m.payload 0 2
    let t := t.copyWords ((List.range 8).map fun i => (8 * c + i, w32 (leAt m.payload (2 + 4 * i) 4)))
    let t := t.modPair fun p => { p with chunks := p.chunks + 1, copyOk := p.copyOk || decide (p.chunks + 1 = p.chunkGoal) }
    t.shadowPins

/-- The registers of the last comparison (R435). -/
def State.compared (s : State) (j : Nat) (own other : Word) : State :=
  ((s.setReg Reg.pairEpoch (w32 j)).setReg Reg.pairDigest own).setReg Reg.pairPdigest other

/-- A DISAGREE on this unit (R436). -/
def State.disagree (s : State) : State := ((s.pairEvt 2).pairCount 24).pulse 0xAB

/-- The SHADOW answers a COMMIT. -/
def State.answerDigest (s : State) (j : Nat) (d : Word) (res : Nat) : State :=
  s.sendMirror { ty := 0x20, fseq := 0, payload := leBytes 2 j ++ leBytes 4 d.toNat ++ [b8 res, b8 s.pair.matchCnt] }

/-- COMMIT j with digest d taken (R435, R436, R444). -/
def State.takeCommit (s : State) (j : Nat) (d : Word) : State :=
  let own := mirrorDigest s.pair.copy
  if !s.pair.copyOk then s.answerDigest j own 2
  else if own = d then
    let s := (s.compared j own d).modPair fun p => { p with matchCnt := min 255 (p.matchCnt + 1) }
    let s := if s.pair.pstate = .regrow ∧ 10 ≤ s.pair.matchCnt then (s.modPair fun p => { p with pstate := .inStep }).pairEvt 1 else s
    s.answerDigest j own 0
  else
    let s := ((s.compared j own d).disagree).modPair fun p => { p with matchCnt := 0 }
    let s := (s.answerDigest j own 1).enterRegrow
    if s.regFld Reg.pairCfg 16 2 = 2 then s.raise1 .mirror else s

/-- COMMIT_RECEIVE (R435). -/
def execCommitReceive (bytes : List Byte) (s : State) : Out :=
  s.mirrorIn 0x11 bytes fun s m => s.ordered m fun t => t.takeCommit (leAt m.payload 0 2) (w32 (leAt m.payload 2 4))

/-- YIELD_RECEIVE (R443). -/
def execYieldReceive (bytes : List Byte) (s : State) : Out :=
  s.mirrorIn 0x13 bytes fun s m => s.ordered m fun t =>
    if t.pair.pstate = .inStep then t.modPair fun p => { p with yield := some (w32 (leAt m.payload 0 4)), yieldSeq := some m.fseq } else t

/-! ### The PRIMARY's epochs (R435, R436, R444) -/

/-- EPOCH_COMMIT (R435): once at each instant at which `TB_NOW` is a multiple of 100. -/
def execEpochCommit (s : State) : Out :=
  if s.paired && decide (s.pair.pstate = .primary) && s.pair.stream && decide (s.tb.now.toNat % 100 = 0) &&
      decide (s.pair.commitAt ≠ some s.tb.now) then
    let s := s.mirrorSync
    if !s.pair.stream then ok s
    else
      let s := s.placeDeltas 128
      let j := s.pair.epoch
      let d := mirrorDigest s.pair.copy
      ok ((s.modPair fun p =>
        { p with epoch := (j + 1) % 65536, commitAt := some s.tb.now, commits := p.commits ++ [(j, d, 0)] }).placeMirror 0x11
          (leBytes 2 j ++ leBytes 4 d.toNat))
  else ok s

/-- A DIGEST taken (R436). -/
def State.takeDigest (s : State) (m : MFrame) : State :=
  let j := leAt m.payload 0 2
  let other := w32 (leAt m.payload 2 4)
  match s.pair.commits.find? fun c => decide (c.1 = j) with
  | none => s
  | some c =>
    let s := s.modPair fun p => { p with commits := p.commits.filter fun x => decide (x.1 ≠ j), matchCnt := leAt m.payload 7 1 }
    match leAt m.payload 6 1 with
    | 0 => s.compared j c.2.1 other
    | 1 =>
      let s := (s.compared j c.2.1 other).disagree
      if s.regFld Reg.pairCfg 16 2 = 3 then
        let s := if s.isRole .mst then s.cascade 2 none 0 else s
        s.stopAt s.tb.now
      else s
    | _ => s

/-- DIGEST_RECEIVE (R436). -/
def execDigestReceive (bytes : List Byte) (s : State) : Out :=
  s.mirrorIn 0x20 bytes fun s m => if s.pair.pstate = .primary ∧ m.payload.length = 8 then s.takeDigest m else s

/-- DIGEST_MISSED (R435). -/
def execDigestMissed (s : State) : Out :=
  match s.pair.commits.find? fun c => decide (c.2.2 ≠ 0) && s.passed c.2.2 500 with
  | some c =>
    if s.pair.pstate = .primary then
      ok (((s.modPair fun p => { p with commits := p.commits.filter fun x => decide (x.1 ≠ c.1) }).pairCount 16).pairEvt 3)
    else ok s
  | none => ok s

/-- SNAPREQ_RECEIVE (R444): the stream starts at FSEQ 1 with chunk 0 (log entry 22). -/
def execSnapreqReceive (bytes : List Byte) (s : State) : Out :=
  s.mirrorIn 0x21 bytes fun s _ =>
    if s.pair.pstate.drives then
      s.modPair fun p =>
        { p with stream := true, restart := false, sent := 0, unacked := [], deltas := [], commits := [], fseq := 1,
                 chunkTx := s.chunkList, chunkTurn := false, copy := s.mirrorImage }
    else s

/-! ### Guard, loss and takeover (R440) -/

/-- GUARD_TOGGLE (R440). -/
def execGuardToggle (s : State) : Out :=
  if s.mirrorUp && s.pairShown.drives && s.passed s.pair.guardAt 10 then
    ok (s.modPair fun p => { p with gpio6 := !p.gpio6, guardAt := s.ticks })
  else ok s

/-- Guard edges have been seen within 300 µs. -/
def State.guardSeen (s : State) : Bool := match s.pair.lastEdge with | some t => decide (s.ticks ≤ t + 300) | none => false

/-- An edge on GPIO7 has come after the partner stopped being present, so it is still running (log entry 22). -/
def State.guardAlive (s : State) (hb : Nat) : Bool := match s.pair.lastEdge with | some t => decide (hb + 300 ≤ t) | none => false

/-- PARTNER_LOST (R440): 300 µs without a heartbeat. -/
def execPartnerLost (s : State) : Out :=
  match s.pair.lastHb with
  | none => ok s
  | some hb =>
    if !s.paired || !s.passed hb 300 then ok s
    else
      let s := if s.pair.lost then s else (s.pairEvt 0).modPair fun p => { p with lost := true }
      let gone := s.modPair fun p => { p with lastHb := none }
      match s.pair.pstate with
      | .primary => ok gone.primaryAlone
      | .regrow => ok (gone.enterOrphan.pairEvt 7)
      | .inStep =>
        if s.regBit Reg.pairCfg 8 && s.guardAlive hb then ok (gone.enterOrphan.pairEvt 8)
        else if s.regBit Reg.pairCfg 8 && s.guardSeen then ok s
        else ok ((gone.takeOver.pairEvt 5).pairCount 8)
      | .none | .listen | .solo | .orphan | .noForm => ok gone

/-! ### Yield (R443) and RESYNC -/

/-- Set `CERR`. -/
def State.pairErr (s : State) (c : Nat) : State := s.modPair fun p => { p with cerr := BitVec.ofNat 3 c }

/-- A yield is asked for. -/
def State.yieldReq (s : State) : State :=
  let t := s.reg Reg.pairYieldT
  if s.pair.pstate ≠ .primary then s.pairErr 1
  else if (s.pair.partner.map fun p => p.pstate) ≠ some 5 then s.pairErr 2
  else if s.tooLate t 1000 then s.pairErr 3
  else
    let s := s.pairErr 0
    let s := s.modPair fun p => { p with yield := some t, yieldSeq := some p.fseq }
    s.mirrorSync.placeMirror 0x13 (leBytes 4 t.toNat)

/-- A write of `PAIR_CTRL` (Table 13-9); a SHADOW takes only RESYNC (R434). -/
def State.pairCtrlWrite (s : State) (v : Word) : State :=
  if fld v 16 16 ≠ 0x9A1F then (if s.isShadow then s else s.pairErr 4)
  else if s.isShadow then
    (if bit v 1 && (decide (s.pair.pstate = .regrow) || decide (s.pair.pstate = .inStep)) then s.enterRegrow else s)
  else if bit v 0 then s.yieldReq
  else s

/-- YIELD_LAUNCH (R443): at T the PRIMARY enters REGROW with its copy complete, and the SHADOW becomes SOLO. -/
def execYieldLaunch (s : State) : Out :=
  match s.pair.yield with
  | none => ok s
  | some t =>
    if !s.paired || !s.due t || s.pair.yieldSeq.isSome then ok s
    else
      match s.pair.pstate with
      | .primary =>
        let image := s.mirrorImage
        let s := s.idleEngines
        ok ((s.modPair fun p =>
          { p with pstate := .regrow, copy := image, copyOk := true, expect := 1, ack := 0, chunks := 0, chunkGoal := 0,
                   yield := none }).shadowPins)
      | .inStep =>
        let image := s.pair.copy
        ok (s.takeOver.modPair fun p => { p with stream := true, fseq := 1, copy := image })
      | _ => ok (s.modPair fun p => { p with yield := none })

/-- YIELD_ABANDON (R443): not acknowledged by T − 100 µs. -/
def execYieldAbandon (s : State) : Out :=
  match s.pair.yield with
  | some t =>
    if s.paired && s.pair.yieldSeq.isSome && (s.tooLate t 100 || decide (s.until t = 100)) then
      ok ((s.modPair fun p => { p with yield := none, yieldSeq := none }).pairErr 3)
    else ok s
  | none => ok s

/-! ### Registers (R448) -/

/-- `PAIR_STAT` (Table 13-9). -/
def State.pairStatW (s : State) : Word :=
  let p := s.pair
  pack [(p.term.toNat, 16, 16), (p.cerr.toNat, 12, 3), (min 15 p.matchCnt, 8, 4), (b2n s.partnerPresent, 7, 1), (b2n s.guardSeen, 6, 1),
    (b2n s.pos, 5, 1), (b2n p.copyOk, 4, 1), (s.pairShown.code, 0, 4)]

/-- `PAIR_REGROW`. -/
def State.pairRegrowW (s : State) : Word := pack [(s.pair.chunks, 16, 16), (s.pair.chunkGoal, 0, 16)]

/-- `PAIR_PUID_LO` and `PAIR_PUID_HI`. -/
def State.puid (s : State) : BitVec 64 := match s.pair.partner with | some p => p.uid | none => 0

end Sys2Proof.Machine
end

