-- ==== Sys2Proof/Machine/Stack.lean ====
section
/-! DEFINITION. The stack unit: balancing, enumeration, repeating, broadcasts, sleep and wake
(spec/14_stack_role.md R449 to R474; spec/03_supplies_clocks_and_start_up.md R111). READ and WRITE stand in ChainExec. -/

namespace Sys2Proof.Machine

/-! ### Balancing (R450, R454 to R456) -/

/-- `DUTY` of cell c. -/
def State.balDuty (s : State) (c : Nat) : Nat := s.regFld (Reg.stackBalDuty (c / 2)) (16 * (c % 2)) 10

/-- Enable bit of cell c. -/
def State.balEn (s : State) (c : Nat) : Bool := s.regBit Reg.stackBalEn c

/-- All balancing clears, with every switch off at once (R456). -/
def State.balClear (s : State) : State :=
  let s := (List.range 8).foldl (fun t k => t.setReg (Reg.stackBalDuty k) 0) (s.setReg Reg.stackBalEn 0)
  (s.modUnit fun u => { u with sched := [] }).balPins

/-- A write of `STACK_BAL_EN`: a cell without a channel stays 0, and a cleared bit ends the cell's schedule (R450, R454). -/
def State.balEnWrite (s : State) (v : Word) : State :=
  let w := wordOf 16 fun c => bit v c && decide (s.chKind (c + 1) ≠ 0)
  ((s.setReg Reg.stackBalEn w).modUnit fun u => { u with sched := u.sched.filter fun e => bit w e.1 }).balPins

/-- A write of `STACK_BAL_DUTYk`: values above 1,000 are stored as 1,000 (R454). -/
def State.balDutyWrite (s : State) (k : Nat) (v : Word) : State :=
  s.setReg (Reg.stackBalDuty k) (pack [(min 1000 (fld v 0 10), 0, 10), (min 1000 (fld v 16 10), 16, 10)])

/-- `BAL_PER` in ms. -/
def State.balPer (s : State) : Nat := s.regFld Reg.stackBalPer 0 16

/-- BALANCE_PERIOD_START (R454). -/
def execBalancePeriodStart (s : State) : Out :=
  let per := s.balPer
  if s.isRole .stk && s.role.addrValid && decide (per ≠ 0) && s.passed s.unit.perAt (1000 * per) then
    let at_ := s.unit.perAt + 1000 * per
    let on := ((List.range 16).filter fun c => s.balEn c && decide (1 ≤ s.balDuty c)).map fun c => (c, at_ + s.balDuty c * per)
    ok (s.modUnit fun u => { u with perAt := at_, sched := on }).balPins
  else ok s

/-- BALANCE_DUTY_END (R454). -/
def execBalanceDutyEnd (c : Nat) (s : State) : Out :=
  if s.isRole .stk then
    ok (s.modUnit fun u => { u with sched := u.sched.filter fun e => !(decide (e.1 = c) && decide (e.2 ≤ s.ticks)) }).balPins
  else ok s

/-- The instant lies in the balance pause of a scan edge (R455). -/
def State.pauseDue (s : State) : Bool :=
  let per := s.scanPer
  let d := (s.scanPhase + per - s.tb.now.toNat % per) % per
  s.meas.active && decide (per ≠ 0) && (decide (d ≤ 100 * s.regFld Reg.stackUcfg 8 8) || decide (per < d + 2))

/-- BALANCE_PAUSE_START (R455). -/
def execBalancePauseStart (s : State) : Out :=
  if s.isRole .stk && s.pauseDue && !s.unit.pause then ok (s.modUnit fun u => { u with pause := true }).balPins else ok s

/-- BALANCE_PAUSE_END (R455). -/
def execBalancePauseEnd (s : State) : Out :=
  if s.isRole .stk && s.unit.pause && !s.pauseDue then ok (s.modUnit fun u => { u with pause := false }).balPins else ok s

/-! ### Frames at a unit (R461, R470, Table 14-5) -/

/-- `UFLAGS` (14.4.2). -/
def State.uflags (s : State) : Nat :=
  b2n (decide (s.reg Reg.cmpFlLat ≠ 0) || decide (s.reg Reg.cmpFhLat ≠ 0)) + 2 * b2n (decide (s.reg Reg.cmpChkFail ≠ 0)) +
    4 * b2n (decide (s.regFld Reg.chWetStat 0 24 ≠ 0)) + 8 * b2n (decide (s.reg Reg.stackBalEn ≠ 0)) + 16 * b2n s.boot.wakeStart +
    32 * b2n s.clk.fallback

/-- A frame with a failed CRC on D or U. -/
def State.unitCrcErr (s : State) : State := (s.count Reg.stackUcnt 8 8 1).raise Reg.stackUevt 2

/-- A valid frame has arrived on D (R470). -/
def State.unitFrame (s : State) : State := (s.count Reg.stackUcnt 16 16 1).modUnit fun u => { u with lastD := s.ticks }

/-- The unit's chain ports work: role STK, out of reset and clocked (R130, R131). -/
def State.unitLive (s : State) : Bool := s.isRole .stk && s.linkOut && !s.clk.gated

/-- A unit receives a frame: what does not begin with preamble and delimiter is none (R458). -/
def State.unitHears (s : State) (l : List Byte) : Bool := s.unitLive && chainStarts l

/-- A unit holds an address. -/
def State.addressed (s : State) : Bool := s.isRole .stk && s.role.addrValid

/-- The frame goes on unchanged, on U or on D (R462). -/
def State.passFrame (s : State) (up : Bool) (bytes : List Byte) : State :=
  s.modUnit fun u => if up then { u with txU := bytes, toneU := false } else { u with txD := bytes }

/-- An addressed unit takes the frame itself: its own READ or WRITE, or a broadcast. Its own row counts the frame. -/
def State.takesBody (s : State) (b : List Byte) : Bool :=
  let ty := leAt b 0 1
  s.addressed &&
    (((decide (ty = 0x10) || decide (ty = 0x11)) && decide (leAt b 1 1 = s.role.addr)) ||
      ((decide (ty = 0x20) || decide (ty = 0x21) || decide (ty = 0x22)) && decide (leAt b 1 1 = 0x3F)))

/-- FRAME_REPEAT (R462): from D to U, or from U to D; an ENUM on D and a TAKEN on U are not repeated. -/
def execFrameRepeat (up : Bool) (bytes : List Byte) (s : State) : Out :=
  if !s.unitHears bytes then ok s
  else
    let own := decide (leAt bytes 3 1 = if up then 1 else 3)
    let t := if s.addressed && !own then s.passFrame up bytes else s
    match chainBody bytes with
    | none => ok t.unitCrcErr
    | some b =>
      if up then ok (if own || t.takesBody b then t else t.unitFrame)
      else if leAt b 0 1 = 2 then ok (t.modUnit fun u => { u with enumWait := none })
      else ok t

/-! ### Enumeration (R466) -/

/-- END(n), with the `SEQ` and `CNT` bytes of the ENUM it answers (R460). -/
def State.endFrame (s : State) (n seq cnt : Nat) : List Byte := chainFrame [2, b8 n, b8 seq, 0, b8 s.uflags, b8 cnt]

/-- The unit takes address n (R22, R62, R466): balancing and stores clear, and the count of periods begins (R454). -/
def State.takeAddr (s : State) (n : Nat) (spur : Bool) : State :=
  let s := (s.modRole fun r => { r with addr := n, addrValid := true }).balClear
  let s := s.modUnit fun u =>
    { u with spur := spur, lastCmd := none, lastReply := [], lastBc := none, perAt := s.ticks - s.fab.div, enumWait := none }
  s.raise Reg.stackUevt 0

/-- A valid ENUM(n) on D. -/
def State.takeEnum (s : State) (b : List Byte) : State :=
  let n := leAt b 1 1
  let seq := leAt b 2 1
  let spur := decide (leAt b 3 1 % 2 = 1)
  if n = 0 ∨ 48 < n then s
  else
    let cnt := leAt b 3 1
    let s := (s.takeAddr n spur).modUnit fun u => { u with enumSeq := seq, enumCnt := cnt }
    if spur || decide (n = 48) then s.passFrame false (s.endFrame n seq cnt)
    else
      let s := s.passFrame false (chainFrame [3, b8 n, b8 seq, 0, b8 s.uflags, b8 cnt])
      (s.passFrame true (chainFrame (chainHead 1 (n + 1) seq 0 0))).modUnit fun u => { u with enumWait := some (s.ticks + 44) }

/-- ENUM_RECEIVE (R466): on port D. -/
def execEnumReceive (bytes : List Byte) (s : State) : Out :=
  if !s.unitHears bytes then ok s
  else
    match chainBody bytes with
    | some b => if leAt b 0 1 = 1 then ok (s.unitFrame.takeEnum b) else ok s
    | none => ok s.unitCrcErr

/-- ENUM_TOP_TIMEOUT (R466): the unit is the top one. -/
def execEnumTopTimeout (s : State) : Out :=
  match s.unit.enumWait with
  | some t =>
    if s.addressed && s.unitLive && s.passed t 200 then
      ok ((s.modUnit fun u => { u with enumWait := none }).passFrame false (s.endFrame s.role.addr s.unit.enumSeq s.unit.enumCnt))
    else ok s
  | none => ok s

/-- TAKEN_RECEIVE (R462): consumed; at a unit it ends the wait for the unit above. -/
def execTakenReceive (p1 : Bool) (bytes : List Byte) (s : State) : Out :=
  match chainBody bytes with
  | some b =>
    if s.unitLive && s.addressed && decide (leAt b 0 1 = 3) && decide (leAt b 1 1 = s.role.addr + 1) then
      ok (s.modUnit fun u => { u with enumWait := none })
    else ok s
  | none => ok (if s.unitHears bytes then s.unitCrcErr else if s.portHears p1 bytes then s.stackErr p1 8 else s)

/-! ### Sleep and wake (R111, R470, R471) -/

/-- Stack sleep: every domain but AON loses power, and the pins take their sleep states (R53). No reset happens, so the items of the
AON domain stay, the role and the clock flags that only an L0 reset clears among them (R18, R83); configuration SRAM is lost (R149). -/
def State.enterSleep (s : State) : State :=
  let old := s
  let s := (s.resetPaths .l0).resetCore .l0
  let s := s.modSvc fun v => { v with authFail := old.svc.authFail, lockEnd := old.svc.lockEnd, fusePend := old.svc.fusePend }
  let s := ((s.modRole fun r => { r with state := .starting, addr := 0, addrValid := false }).modImg fun _ => Img.init).modClk fun c =>
    { Clk.init with monEvt := c.monEvt, aonRcOk := c.aonRcOk, fallback := c.fallback, pllFromRc := c.fallback }
  let s := s.modTb fun t => { t with running := false, sleepUs := 0, slew := 0, frac := 1000 }
  let s := s.modSupply fun p => { p with cpRun := false, cpOk := false }
  let s := s.modPwr fun p => { p with sleep := true }
  let s := s.modRst fun r => { r with run := none, sramOk := false }
  let s := s.modBoot fun b => { b with stage := 0, faultN := false }
  s.modPins fun p => { p with en := p.en.zipIdx.map fun (_, n) => if n < 16 then EnDrive.highZ else .low }

/-- The unit wakes: stages 2, 4, 5 and 6 follow (R111). `TB_NOW` has no stated value after sleep. -/
def State.wakeUp (s : State) (cause : Nat) : State :=
  let (w, s) := s.takeWord
  let s := (s.modTb fun t => { t with now := w }).modUnit fun u => { u with toneDue := decide (cause = 4) }
  (s.modPwr fun p => { p with sleep := false, wakeCause := p.wakeCause ||| BitVec.ofNat 5 (2 ^ cause) }).modBoot fun b =>
    { b with stage := 2, stageAt := s.ticks, wakeStart := true, wakeRun := true }

/-- WAKE_TONE_DETECT (R471): a sleeping unit wakes; an awake one whose ports work sends the tone on. -/
def execWakeToneDetect (s : State) : Out :=
  if s.pwr.sleep then ok (s.wakeUp 4)
  else if s.unitLive then ok ((s.modUnit fun u => { u with toneU := true, txU := [] }).raise Reg.stackUevt 1)
  else ok s

/-- STACK_WAKE_PIN (R111, R471): a low level on WAKE in sleep. -/
def execStackWakePin (s : State) : Out := if s.pwr.sleep then ok ((s.modPins fun p => { p with wakeN := false }).wakeUp 0) else ok s

/-- Ticks of the 1 ms divider since model time t. -/
def State.msSince (s : State) (t : Nat) : Nat :=
  let last := s.ticks - s.fab.div
  if t < last then (last - t - 1) / 1000 + 1 else 0

/-- COMM_TIMEOUT (R470). -/
def execCommTimeout (s : State) : Out :=
  if s.isRole .stk && decide (s.regFld Reg.stackUcfg 16 16 ≤ s.msSince s.unit.lastD) then ok s.enterSleep else ok s

/-! ### Broadcasts (R464, R473) -/

/-- A broadcast of a type: repeated, and acted on unless it equals the last one taken. -/
def State.takeBroadcast (s : State) (ty : Nat) (bytes : List Byte) (f : State → State) : Out :=
  if !s.unitHears bytes then ok s
  else
    match chainBody bytes with
    | none => ok (if s.addressed then (s.passFrame true bytes).unitCrcErr else s.unitCrcErr)
    | some b =>
      let t := s.unitFrame
      if !t.addressed then ok t
      else
        let t := t.passFrame true bytes
        if leAt b 0 1 ≠ ty ∨ leAt b 1 1 ≠ 0x3F ∨ t.unit.lastBc = some b then ok t
        else ok (f (t.modUnit fun u => { u with lastBc := some b }))

/-- CHAIN_SNAP (R473). -/
def execChainSnap (bytes : List Byte) (s : State) : Out := s.takeBroadcast 0x20 bytes fun t => t.snapWrite 2

/-- CHAIN_BALOFF (R473). -/
def execChainBaloff (bytes : List Byte) (s : State) : Out := s.takeBroadcast 0x21 bytes State.balClear

/-- CHAIN_SLEEP (R470): the unit repeats it and then sleeps. -/
def execChainSleep (bytes : List Byte) (s : State) : Out :=
  s.takeBroadcast 0x22 bytes fun t => t.enterSleep.passFrame true bytes

/-! ### Registers (Table 14-5) -/

/-- `STACK_BAL_STAT`. -/
def State.balStatW (s : State) : Word := pack [(b2n s.unit.pause, 16, 1), ((wordOf 16 s.balOn).toNat, 0, 16)]

/-- `STACK_USTAT`. -/
def State.ustatW (s : State) : Word :=
  let seq := match s.unit.lastCmd with | some b => leAt b 2 1 | none => 0
  pack [(fld (s.fuseW 1) 8 2, 24, 2), (seq, 16, 8), (s.uflags, 8, 8), (b2n s.unit.spur, 7, 1), (b2n s.role.addrValid, 6, 1),
    (s.role.addr, 0, 6)]

end Sys2Proof.Machine
end

