-- ==== Sys2Proof/Machine/Startup.lean ====
section
/-! DEFINITION. Supplies, clocks, start-up stages, release of the domains, role start, bench mode and DOZE
(spec/01_roles_and_topologies.md R17 to R29; spec/02_pins_and_package.md R43 to R62;
spec/03_supplies_clocks_and_start_up.md R68 to R113; spec/04_reset_controller.md R118, R128 to R131). -/

namespace Sys2Proof.Machine

/-! ### The service port on the bus (R506) -/

/-- The service port attaches when VBUS is present (R506). -/
def State.svcAttach (s : State) : State :=
  if s.supply.vbus ∧ !s.svc.attached then
    (s.modSvc fun v => { v with attached := true, level := .view, lastFrame := s.ticks }).raise Reg.svcEvt 0
  else s

/-- The service port detaches (R506). The stores of its windows are not touched. -/
def State.svcDetach (s : State) : State := (s.resetSvc .l3).modClk fun c => { c with sofTrim := false, sofCount := 0 }

/-- The USB domain has left reset; in SAFE_IDLE the port runs too (R102). -/
def State.usbOut (s : State) : Bool := decide (s.rst.domains = 6) && !s.blkBusy 3

/-- BLOCK_RESET_END (R142): 2 µs after the request; the service port attaches again. -/
def execBlockResetEnd (blk : Nat) (s : State) : Out :=
  match s.rst.busy.find? fun b => decide (b.1 = blk) with
  | some (_, t) =>
    if s.passed t 2 then
      let s := s.modRst fun r => { r with busy := r.busy.filter fun b => decide (b.1 ≠ blk) }
      ok (if blk = 3 then s.svcAttach else s)
    else ok s
  | none => ok s

/-! ### Stages (R96) -/

/-- A stage begins. -/
def State.toStage (s : State) (k : Nat) : State := s.modBoot fun b => { b with stage := k, stageAt := s.ticks }

/-- Start-up is in stage k, with power and outside a retry wait. -/
def State.inStage (s : State) (k : Nat) : Bool :=
  s.supply.aon && decide (s.boot.stage = k) && s.boot.retryEnd.isNone && decide (s.role.state ≠ .safeIdle)

/-- RESET_N has been high for 20 µs, so that an L0 start may begin (R118). -/
def State.resetHigh (s : State) : Bool :=
  s.pins.resetN && (match s.pins.resetRise with | some t => s.passed t 20 | none => true)

/-- RC_READY (R96): stage 1 ends; the AON logic and its RC run. -/
def execRcReady (s : State) : Out :=
  if s.inStage 1 && s.resetHigh then ok ((s.toStage 2).modClk fun c => { c with aonRcOk := true }) else ok s

/-- The fuse shadow becomes invalid: the hardwired LOW holds every EN pin until a load succeeds (R54, R136). -/
def State.dropShadow (s : State) : State := (s.modBoot fun b => { b with shadowOk := false }).mapPins .l0

/-- REGULATORS_READY (R96): stage 3 begins with an invalid shadow (R136); a stack unit that wakes from sleep goes on in stage 4 and
repeats the tone (R111, R471). -/
def execRegulatorsReady (s : State) : Out :=
  if !s.inStage 2 then ok s
  else if s.boot.wakeRun ∧ s.boot.shadowOk then
    let s := s.toStage 4
    ok (if s.unit.toneDue then s.modUnit fun u => { u with toneU := true, txU := [], toneDue := false } else s)
  else ok ((s.toStage 3).modBoot fun b => { b with fuseTry := 1 }).dropShadow

/-- SAFE_IDLE (R102). -/
def State.safeIdle (s : State) : State :=
  let s := ((s.modRole fun _ => { RoleRec.init with state := .safeIdle }).modBoot fun b => { b with faultN := true }).dropShadow
  (s.modRst fun r => { r with run := none, domains := 6 }).svcAttach

/-- A load attempt has failed: another one, or SAFE_IDLE after the third (R102). -/
def State.fuseFail (s : State) : State :=
  if 3 ≤ s.boot.fuseTry then s.safeIdle
  else (s.modBoot fun b => { b with fuseTry := b.fuseTry + 1, stageAt := s.ticks }).dropShadow

/-- FUSE_LOAD_DONE (R136, R529). `senseOk`: both reads of the array agree. TEST = 1 in lifecycle OPEN leads to production test (R46). -/
def execFuseLoadDone (senseOk : Bool) (s : State) : Out :=
  if !s.inStage 3 then ok s
  else if !senseOk then ok s.fuseFail
  else
    let s := (s.modSvc fun v => { v with shadow := v.fuses }).modBoot fun b => { b with shadowOk := true }
    if s.pins.strapTest ∧ s.lifecycle = 0 then .refused .productionTest
    else
      let s := s.modBoot fun b => { b with stk := b.stk || (s.fuseBit 1 4 && !s.fuseBit 1 3) }
      let s := (s.mapPins .l0).toStage 4
      ok (if s.boot.bench then s.modClk fun c => { c with pllFromRc := true } else s)

/-- The crystal has failed: the PLL locks to the RC until the next L0 reset (R83). -/
def State.toFallback (s : State) : State := s.modClk fun c => { c with fallback := true, pllFromRc := true, xtalOk := false }

/-- XTAL_TIMEOUT (R83): 8 ms into stage 4. -/
def execXtalTimeout (s : State) : Out :=
  if s.inStage 4 && !s.clk.pllFromRc && s.passed s.boot.stageAt 8000 then ok s.toFallback else ok s

/-- Byte address of the `EPOCH` word in MRAM (R93). -/
def epochAddr : Nat := 0x14C00

/-- `EPOCH` of this start from its MRAM word (R93, R94): the word shown, and whether the stored one is lost. Bench mode takes it as it
stands, since no `EPOCH` advances there (R104, R507). -/
def State.epochNext (s : State) : Word :=
  let old := s.mread epochAddr
  if s.mbad epochAddr then 1 else if s.boot.bench ∨ old = 0xFFFFFFFF#32 then old else old + 1

/-- The `EPOCH` update (R93, R94): one atomic word before stage 5, and the marker slot of the new epoch cleared (R342). A wake from
stack sleep keeps `EPOCH` (R111), and a retry does not repeat an update that completed (R99). Bench mode loads the word and writes
nothing. -/
def State.epochUpdate (s : State) : State :=
  if s.boot.wakeRun ∨ s.boot.epochDone then s
  else
    let new := s.epochNext
    let lost := s.mbad epochAddr
    let t := s.modTb fun t => { t with epoch := new, epochLost := t.epochLost || lost, epochSat := decide (new = 0xFFFFFFFF#32) }
    let t := if s.boot.bench then t else (t.mwrite epochAddr new).mwrite (markAddr new) 0
    t.modBoot fun b => { b with epochDone := true }

/-- A source that holds the reset asserted is still active: RESET_N low, or gated clocks (R118). -/
def State.resetHeld (s : State) : Bool := !s.resetHigh || s.clk.gated

/-- The clocks run again after a CLKFAIL reset gated them (R131): pending LIVE values take effect in the first cycle (R11), then the
scans go on. -/
def State.ungate (s : State) : State :=
  let t := s.modClk fun c => { c with gated := false }
  ((if !t.live.isEmpty || t.liveImg.isSome then t.liveApply else t).scanResume.requalify).watch s

/-- The clocks run again after DOZE (R109): scans and filters restart, an SRC edge then acts (R77). -/
def State.dozeEnd (s : State) : Out :=
  let t := s.modPwr fun p => { p with doze := false, waking := false }
  let s := ((t.scanResume.wdtRestart).liveSettle.requalify).watch s
  if s.supply.srcEdge then execSrcFaultEdge false s else ok s

/-- PLL_LOCK (R96): stage 4 ends, a CLKFAIL reset is applied (R131), or a wake from DOZE completes. The clock monitor watches. After a
failure of the AON clock `AONRC_OK` reads 1 again from here on (DESIGN CHOICE, log entry 8). A reset of another source asserted while the
clocks were gated goes on to its release. -/
def execPllLock (s : State) : Out :=
  let t := s.modClk fun c => { c with pllLock := true, armed := true, aonRcOk := true, xtalOk := !c.pllFromRc }
  if s.pwr.waking then t.dozeEnd
  else if !s.inStage 4 then ok s
  else if s.clk.gated then
    let t := t.ungate
    match s.rst.run with
    | some r =>
      let u := if r.applied then t
        else (t.modRst fun x => { x with run := some { r with since := s.ticks, applied := true } }).assertLevel r.level
      ok (if r.level = .l3 then u.toStage 7 else u.toStage 0)
    | none => ok (t.toStage 7)
  else ok ((t.epochUpdate.toStage 5).modRst fun x => { x with sramOk := false })

/-! ### Stage 5 (R17, R172) -/

/-- The first candidate is valid, or the other slot is; `IMG_STAT` and the slot status follow. -/
def State.selectImage (s : State) : State × Option ImageInfo :=
  let f := s.firstSlot
  let s := s.modImg fun g =>
    { g with verA := s.slotVer false, verB := s.slotVer true, rejA := 0xF, rejB := 0xF, fallback := false, runVer := 0, running := none }
  let (c, g) := s.selectCheck f
  let s := s.setRej f c
  match g with
  | some i => (s.modImg fun x => { x with running := some i, runSlot := f, runVer := i.version }, some i)
  | none =>
    let (c, g) := s.selectCheck (!f)
    let s := s.setRej (!f) c
    match g with
    | some i => (s.modImg fun x => { x with running := some i, runSlot := !f, runVer := i.version, fallback := true }, some i)
    | none => (s, none)

/-- Stage 6 begins. -/
def State.enterStage6 (s : State) : State := (s.toStage 6).pumpStart

/-- A wake from stack sleep takes only a stack image, since the role changes at no other start than L0 and L1 (R18, log entry 8). -/
def State.wakeImage (s : State) (g : Option ImageInfo) : Option ImageInfo :=
  if s.boot.wakeRun then g.filter fun i => decide (i.role = .stk) else g

/-- IMAGE_SELECT_DONE (R172): an image, the stack defaults, or no role (R17). Bench mode loads nothing (R104). -/
def execImageSelectDone (s : State) : Out :=
  if !s.inStage 5 then ok s
  else
    let s := s.modRst fun r => { r with sramOk := true }
    if s.boot.bench then ok (s.toStage 6)
    else
      let (s, g) := s.selectImage
      let g := s.wakeImage g
      let s := s.modImg fun x => { x with running := g }
      let stkFuse := s.fuseBit 1 4
      let barred := s.fuseBit 1 3
      let blocked := decide (s.img.rejA = 0xD) || decide (s.img.rejB = 0xD) || (stkFuse && barred)
      let dflt := g.isNone && (s.boot.wakeRun || (stkFuse && !barred))
      let s := s.modImg fun x => { x with noImage := if g.isSome || dflt then .none else if blocked then .roleBlocked else .noImage }
      let stk := match g with | some i => decide (i.role = .stk) | none => false
      let s := (s.modRole fun r => { r with stkDflt := dflt }).modBoot fun b => { b with stk := b.stk || stk }
      ok s.loadConfig.loadIrq.enterStage6

/-! ### Release (R60, R118, R128 to R130) -/

/-- At least two of three samples are 1. -/
def majority (l : List Bool) : Bool := decide (2 ≤ (l.filter id).length)

/-- One strap sample of the three (R43, R129): the pins now, 0 with VDDIO low (R45). The third latches the majority into `SYS_STRAP`. -/
def State.takeStrap (s : State) : State :=
  let v := s.supply.vddioOk
  let l := (v && s.pins.ifselPin, if v then s.pins.adrPin else 0) :: s.pins.strapSamp
  let s := s.modPins fun p => { p with strapSamp := l }
  if l.length ≠ 3 then s
  else s.modPins fun p =>
    { p with strapIf := majority (l.map Prod.fst),
             strapAdr := BitVec.ofNat 2 (b2n (majority (l.map fun x => x.2.getLsbD 0)) + 2 * b2n (majority (l.map fun x => x.2.getLsbD 1))) }

/-- RESET_ASSERT_MIN_EXPIRY (R118): an L1, L2 or L3 reset has been asserted for 20 µs and no source holds it. -/
def execResetAssertMinExpiry (s : State) : Out :=
  match s.rst.run with
  | some r =>
    if r.level = .l0 ∨ !r.asserted ∨ !s.passed r.since 20 ∨ s.resetHeld then ok s
    else
      let s := s.modRst fun x => { x with run := some { r with asserted := false } }
      match r.level with
      | .l1 => ok ((s.toStage 5).modRst fun x => { x with sramOk := false })
      | .l2 => ok s.enterStage6
      | _ => ok s
  | none => ok s

/-- Level of the start in progress; a wake from stack sleep is no reset and clears as L0 does. -/
def State.runLevel (s : State) : Level := match s.rst.run with | some r => r.level | none => .l0

/-- The domains may leave reset: in stage 6, or in the release of an L3 reset. -/
def State.releasing (s : State) : Bool :=
  s.inStage 6 || (match s.rst.run with | some r => decide (r.level = .l3) && !r.asserted | none => false)

/-- `CERTH` (R518). -/
def State.formCerth (s : State) : State :=
  let len := fld (s.mread 0x15004) 0 16
  let chain := fld (s.mread 0x15004) 16 16
  let okId := !s.mbad 0x15000 && !s.mbad 0x15004 && decide (s.mread 0x15000 = 0x51444931#32) && decide (1 ≤ len) &&
    decide (len ≤ 1024) && decide (chain ≤ 2048)
  let cert := (wordBytes (s.mwords 0x15050 256)).take len
  s.modSvc fun v =>
    { v with idBad := !okId, certh := if okId then BitVec.ofNat 64 (ofLe ((sha256 cert).take 8)) else 0 }

/-- The next domain: 0 CORE, 1 FAB, 2 ADC, 3 TB, 4 LINK, 5 USB. At L3 only interface blocks leave reset (R130). -/
def State.releaseDomain (s : State) (k : Nat) : State :=
  let l := s.runLevel
  let s := s.modRst fun r => { r with domains := k + 1 }
  match k with
  | 0 =>
    let s := (s.modPins fun p => { p with strapSamp := [] }).takeStrap.modRst fun r => { r with coreAt := some s.ticks }
    if l = .l3 then s
    else
      let s := s.formCerth
      if s.boot.bench then s.modRst fun r => { r with domains := 5 }
      else if l = .l2 then s else s.armAll
  | 1 => if l = .l3 then s else s.fabStart
  | 2 => if l = .l3 then s else s.blankAll
  | 3 => if l = .l0 then s.modTb fun t => { t with running := true } else s
  | 5 => (if l = .l3 then s else s.modPins fun p => { p with usbOutAt := some s.ticks }).svcAttach
  | _ => s

/-- RESET_RELEASE_STEP (R128). In bench mode only CORE and USB are released (R104). -/
def execResetReleaseStep (s : State) : Out :=
  if s.releasing && decide (s.rst.domains < 6) then ok (s.releaseDomain s.rst.domains) else ok s

/-- The role is refused (R19): nothing drives, FAULT_N is asserted, and the pins stand at their fuse states, HOLD-mapped ones at what
they held through the last L1 to L3 reset (R57). `SYS_ROLE.ROLE` and `PAIR` go on showing the image's (DESIGN CHOICE, log entry 8: R22
gives them new values when the role starts, and a refused one does not start). -/
def State.refuseRole (s : State) (why : RoleReason) : State :=
  let s := (s.modRole fun r => { r with state := .refused, reason := why, addr := 0, addrValid := false }).modBoot fun b =>
    { b with faultN := true, listenEnd := none }
  let s := s.chkAbortNow.wetAbort.resetSeq.fabStop.stopScan.liveSettle
  let s := s.modSched fun _ => Sched.init
  let s := s.modWdt fun w => { w with run := false }
  let s := s.modChain fun _ => { p0 := ChainPort.init, p1 := ChainPort.init }
  let s := s.modPair fun p => { Pair.init with gpio6 := p.gpio6 }
  let s := s.modRidge fun r => { r with lstate := .refused, m := { r.m with queue := [], resol := [], burst := [] } }
  let s := s.modRst fun r => { r with adopt := none, sysArmed := false, sysRestart := none }
  s.modPins fun p =>
    { p with en := p.held.zipIdx.map fun (e, n) => if s.enHolds n then e else s.mapDrive n }

/-- HOST_IF_RELEASE (R129): 12 µs after the CORE step; it ends the release of an L3 reset, after which a master shows its address 0
again (Table 1-3) and a restart after SYSTEM is due (R158). -/
def execHostIfRelease (s : State) : Out :=
  match s.rst.coreAt with
  | some t =>
    if s.rst.hifUp || !s.releasing || !s.passed t 12 || decide (s.rst.domains < 6) then ok s
    else
      let s := s.modRst fun r => { r with hifUp := !s.boot.bench }
      let s := s.modHif fun h => { h with irqBoot := true }
      if s.runLevel ≠ .l3 ∨ s.inStage 6 then ok s
      else
        let s := s.modRst fun r => { r with run := none }
        let s := if s.isRole .mst then s.modRole fun r => { r with addrValid := true } else s
        ok (if s.isRole .mst ∧ s.clk.fallback then s.refuseRole .clkFallback else s.armRestart)
  | none => ok s

/-- RSTOUT_RELEASE (R60). -/
def execRstoutRelease (s : State) : Out :=
  match s.pins.usbOutAt with
  | some t =>
    if s.boot.bench || !s.passed t 100 then ok s else ok (s.modPins fun p => { p with rstout := false, usbOutAt := none })
  | none => ok s

/-! ### Role start (R17 to R23, R57, R97) -/

/-- EN pins at the start of a role (R57, Table 1-4): assigned pins go to the sequencer, balance switches are off. -/
def State.rolePins (s : State) : State :=
  if s.isRole .stk then
    (s.modPins fun p => { p with en := p.en.zipIdx.map fun (e, n) => if n < 16 then e else .low }).balPins
  else s.freePins

/-- The engines of a role start: ADOPT or the pair handshake, scans, the link, the ports and the watchdog. -/
def State.startEngines (s : State) : State :=
  let s := s.modMeas fun m => { m with active := false }
  let s := if s.regBit Reg.resScanCtrl 0 then s.startScan else s
  let s := s.rolePins
  if s.isRole .stk then s.modUnit fun u => { u with lastD := s.ticks }
  else
    let s := if s.isRole .mst then s.modRole fun r => { r with addr := 0, addrValid := true } else s
    if s.role.pair then
      let s := s.modPair fun p => { p with pstate := .listen, listenAt := s.ticks, guardAt := s.ticks }
      if s.isRole .slv then s.linkStart else s
    else
      let s := if s.isRole .mst ∧ s.ridge.m.lastTick.isSome then s.modRidge fun r => { r with lstate := .master } else s.linkStart
      s.wdtStart.chainStart.enterAdopt

/-- The role of this start and the state it comes to (R17, R19, R20, R22). A wake from stack sleep keeps the stack role (R18). -/
def State.decideRole (s : State) : State :=
  let l := s.runLevel
  if s.boot.bench then s.modRole fun r => { r with role := .none, state := .bench }
  else
    let s :=
      if l = .l2 then s.modRole fun r => { r with state := r.saved }
      else if s.boot.wakeRun then s.modRole fun r => { r with role := .stk, pair := false, state := .running, saved := .running }
      else
        match s.img.running with
        | some g => s.modRole fun r => { r with role := g.role, pair := g.pair, state := .running, saved := .running, stkDflt := false }
        | none =>
          if s.role.stkDflt then s.modRole fun r => { r with role := .stk, pair := false, state := .running, saved := .running }
          else s.modRole fun r => { r with role := .none, pair := false, state := .unconfigured, saved := .unconfigured, reason := s.img.noImage }
    if s.isRole .mst ∧ s.clk.fallback then s.refuseRole .clkFallback else s

/-- Stage 6 has done what it waits for (R97, R70, R336): domains and host interface released, VDDIO_OK except in bench mode, and the log
rebuilt in a start that rebuilds it. -/
def State.stage6Ready (s : State) : Bool :=
  s.inStage 6 && decide (s.rst.domains = 6) && (s.boot.bench || (s.rst.hifUp && s.supply.vddioOk && s.nvm.rebuilt))

/-- STAGE6_DONE (R97): the role starts or is refused, and FAULT_N is released or stands as the role's state has it (R61, R99). -/
def execStage6Done (s : State) : Out :=
  if !s.stage6Ready then ok s
  else
    let l := s.runLevel
    let s := s.decideRole
    let none_ := match s.role.state with | .unconfigured | .refused | .bench => true | _ => false
    let s := (s.toStage 7).modBoot fun b => { b with backoffK := 0, faultN := none_, wakeRun := false }
    let s := s.modRst fun r => { r with run := none }
    let s := if l = .l0 then s.modRidge fun r => { r with session := BitVec.ofNat 8 s.tb.up.toNat } else s
    ok (if s.running then s.startEngines else s)

/-- GATE pins that the role drives take the level of their rail's EN, once the pump is ready (R72). -/
def State.gatePins (s : State) : State :=
  s.modPins fun p =>
    { p with en := p.en.zipIdx.map fun (e, n) =>
        match e with
        | .role _ _ => if s.hasEn n && decide ((s.enMode n).toNat = 3) then s.enDrive n (s.railAt n).en else e
        | _ => e }

/-- CP_READY (R72): GATE pins act, and rails that waited on them go on. -/
def execCpReady (s : State) : Out :=
  if s.supply.cpRun && !s.supply.cpOk then
    let s := (s.modSupply fun p => { p with cpOk := true }).gatePins.shadowPins
    ok ((railNums.filter fun n => decide ((s.enMode n).toNat = 3)).foldl State.railOn s)
  else ok s

/-! ### Timeouts and retries (R99 to R101) -/

/-- Timeout of a stage in µs (Table 3-7). -/
def stageLimit : Nat → Nat
  | 1 => 100 | 2 => 2000 | 3 => 1000 | 4 => 10000 | 5 => 100000 | _ => 20000

/-- Stage 1 waits for RESET_N, so its time counts from the later instant. -/
def State.stageStart (s : State) : Nat :=
  match s.pins.resetRise with
  | some t => if s.boot.stage = 1 then max s.boot.stageAt (t + 20) else s.boot.stageAt
  | none => s.boot.stageAt

/-- Shortest retry wait in µs: the 90 ms of R100, or on a stack unit 100 ms × 2^k up to 10,000 ms (R101). -/
def State.retryWait (s : State) : Nat := if s.boot.stk then min 10000000 (100000 * 2 ^ s.boot.backoffK) else 90000

/-- A stage-timeout retry begins (R99): every domain but AON is held in reset; it is no reset (R116), so the items of the AON domain
stay, a restart after SYSTEM among them (R158). `RESYNC` and `RESYNC_CNT` clear with the TB domain (DESIGN CHOICE, log entry 8). -/
def State.retryBegin (s : State) : State :=
  let old := s
  let s := (s.resetPaths .l0).resetCore .l0
  let s := s.modSvc fun v => { v with authFail := old.svc.authFail, lockEnd := old.svc.lockEnd, fusePend := old.svc.fusePend }
  let s := ((s.modRole fun _ => RoleRec.init).modImg Img.toReset).modClk fun c =>
    { Clk.init with monEvt := c.monEvt, aonRcOk := c.aonRcOk, fallback := c.fallback, pllFromRc := c.fallback }
  let s := s.modTb fun t => { Tb.init with epoch := t.epoch, epochLost := t.epochLost, epochSat := t.epochSat }
  let s := s.modSupply fun p => { p with cpRun := false, cpOk := false }
  let s := s.modRst fun r => { r with run := none, sramOk := false, sysArmed := old.rst.sysArmed }
  s.modBoot fun b =>
    { b with stage := 0, wakeStart := false, wakeRun := false, retryCnt := min 0xFF (b.retryCnt + 1), failStage := old.boot.stage, faultN := !b.stk,
             retryEnd := some (s.ticks + old.retryWait), backoffK := if b.stk then b.backoffK + 1 else b.backoffK }

/-- STAGE_TIMEOUT (R96, R99): in stage 3 the attempt has failed, else a retry begins. -/
def execStageTimeout (s : State) : Out :=
  let k := s.boot.stage
  if k = 0 ∨ 7 ≤ k ∨ !s.inStage k ∨ !s.passed s.stageStart (stageLimit k) ∨ (k = 1 ∧ !s.resetHigh) then ok s
  else if k = 3 then ok s.fuseFail
  else ok s.retryBegin

/-- RETRY_WAIT_EXPIRY (R100): the start begins again at stage 1 and counts as an L0 reset in progress (R125). FAULT_N stays as it is
until stage 6 completes (R99). -/
def execRetryWaitExpiry (s : State) : Out :=
  match s.boot.retryEnd with
  | some t =>
    if s.ticks < t then ok s
    else
      let s := (s.modBoot fun b => { b with retryEnd := none, fuseTry := 0 }).toStage 1
      ok (s.modRst fun r => { r with run := some { level := .l0, asserted := true, since := s.ticks } })
  | none => ok s

/-! ### Supplies and pins (R62, R70 to R73, R104 to R106, R187) -/

/-- The device without power: only MRAM, the fuse array and what the board drives remain (R73). -/
def State.powerOff (s : State) : State :=
  { State.reset with
      pending := s.pending, ticks := s.ticks, free := s.free,
      supply := { State.reset.supply with aon := false, vin := false, vbus := s.supply.vbus, vddioOk := s.supply.vddioOk },
      pins :=
        { s.pins with en := List.replicate 24 .pullDown, held := List.replicate 24 .low, rstout := false, usbOutAt := none,
                      strapTest := false, strapIf := false, strapAdr := 0, strapSamp := [] },
      boot := { Boot.init with stage := 0 }, rst := { RstRec.init with run := none },
      nvm := { Nvm.init with mram := s.nvm.mram, bad := s.nvm.bad },
      svc := { Svc.init with fuses := s.svc.fuses } }

/-- The AON domain powers up: an L0 reset with source POR at stage 1, TEST sampled (R46, R73, R139). -/
def State.powerUp (s : State) : State :=
  let s := s.powerOff
  let s := s.modSupply fun p => { p with aon := true }
  let s := s.modPins fun p => { p with en := List.replicate 24 .low, rstout := true, strapTest := p.test, resetRise := none }
  let s := s.modRst fun r => { r with run := some { level := .l0, asserted := true, since := s.ticks } }
  s.toStage 1

/-- POWER_ON_RESET (R73). -/
def execPowerOnReset (s : State) : Out :=
  if s.supply.aon then ok s else ok (s.powerUp.modSupply fun p => { p with vin := true })

/-- POR_REARM (R73): VCORE falls below 0.6 V; in bench mode VBUS feeds it (R104). -/
def execPorRearm (s : State) : Out := if s.supply.aon && !s.boot.bench then ok s.powerOff else ok s

/-- BENCH_ENTRY (R104): the AON domain powers up from VBUS. FAULT_N is asserted (R61). -/
def execBenchEntry (s : State) : Out :=
  if s.supply.aon then ok s
  else ok ((s.powerUp.modSupply fun p => { p with vbus := true }).modBoot fun b => { b with bench := true, faultN := true })

/-- BENCH_EXIT (R106): an L0 reset with source POR; the AON domain stays powered. -/
def execBenchExit (s : State) (co : List RstSource := []) : Out :=
  if !s.boot.bench then ok s
  else
    let s := (s.modSupply fun p => { p with vin := true }).modBoot fun b => { b with bench := false }
    ok (s.raiseWith (plainReq .por) co)

/-- VBUS_LOSS (R106, R506): the service port detaches; in bench mode the device loses power. -/
def execVbusLoss (s : State) : Out :=
  let s := s.modSupply fun p => { p with vbus := false }
  if s.boot.bench then ok s.powerOff else ok s.svcDetach

/-- VDDIO_RISE (R70). -/
def execVddioRise (s : State) : Out := ok (s.modSupply fun p => { p with vddioOk := true })

/-- Stage 6 of the last start has completed: the role's state has left STARTING, and no bench mode or SAFE_IDLE stands (R71, R97). -/
def State.pastStage6 (s : State) : Bool :=
  decide (s.role.state ≠ .starting) && decide (s.role.state ≠ .safeIdle) && !s.boot.bench

/-- VDDIO_LOST (R71). -/
def execVddioLost (s : State) : Out :=
  ok (s.modSupply fun p => { p with vddioOk := false, vddioLost := p.vddioLost || s.pastStage6 })

/-- GPIO_INPUT_CHANGE (R187, R440): the board's level on a GPIO pin changes; an edge on GPIO7 of a pair is a guard edge. -/
def execGpioInputChange (n : Nat) (level : Bool) (s : State) : Out :=
  if 8 ≤ n then ok s
  else
    let old := s.pins.gpio.getLsbD n
    let s := s.modPins fun p =>
      { p with gpio := if level then p.gpio ||| BitVec.ofNat 8 (2 ^ n) else p.gpio &&& ~~~(BitVec.ofNat 8 (2 ^ n)) }
    ok (if n = 7 ∧ s.paired ∧ old ≠ level then s.modPair fun p => { p with lastEdge := some s.ticks } else s)

/-- WAKE_PIN_LEVEL (R187). -/
def execWakePinLevel (level : Bool) (s : State) : Out := ok (s.modPins fun p => { p with wakeN := level })

/-! ### Clocks (R82 to R86, R131) -/

/-- The clock monitor raises CLKFAIL for this failure (R82): it is armed, in DOZE only the crystal is watched, since the PLL and
`CLK_CORE` stand, and a crystal that the PLL no longer uses has failed before (R83). -/
def State.monWatches (s : State) (kind : ClockFailKind) : Bool :=
  s.clk.armed && !(s.pwr.doze && decide (kind ≠ .crystal)) && !(s.clk.pllFromRc && decide (kind = .crystal))

/-- CLOCK_FAIL (R82, R131): CLKFAIL, and every PLL-derived clock stops until the lock. A less severe one than the reset in progress
is absorbed (R125). -/
def execClockFail (kind : ClockFailKind) (s : State) (co : List RstSource := []) : Out :=
  if !s.monWatches kind then ok s
  else
    let lvl := ((plainReq .clkfail :: coReqs co).map fun q => (s.levelFor q).1).foldl min 3
    let absorbed := match s.rst.run with | some r => s.boot.retryEnd.isNone && decide (r.level.num < lvl) | none => false
    let s := s.modClk fun c => { c with monEvt := true }
    let s := match kind with
      | .crystal => s.toFallback
      | .pll => s
      | .aon => s.modClk fun c => { c with aonRcOk := false }
    if absorbed then ok (co.foldl State.coEffect s).markMerged
    else
      let s := s.modClk fun c => { c with gated := true, pllLock := false, armed := false, sofTrim := false, sofCount := 0 }
      ok ((s.modFab fun f => { f with pulses := [] }).raiseWith (plainReq .clkfail) co)

/-- START_OF_FRAME (R86): the third packet completes the trim of `CLK_USB`. -/
def execStartOfFrame (s : State) : Out :=
  if s.svc.attached && s.clk.pllFromRc && s.clk.pllLock && !s.clk.sofTrim then
    ok (s.modClk fun c => { c with sofCount := c.sofCount + 1, sofTrim := decide (3 ≤ c.sofCount + 1) })
  else ok s

/-! ### The master's listening window (R27) -/

/-- MASTER_LISTEN_END (R27). -/
def execMasterListenEnd (s : State) : Out :=
  match s.boot.listenEnd with
  | some t =>
    if s.ticks < t ∨ !s.isRole .mst ∨ s.ridge.lstate ≠ .mstListen then ok s
    else ok ((s.modBoot fun b => { b with listenEnd := none }).modRidge fun r => { r with lstate := .master })
  | none => ok s

/-- SECOND_MASTER_DETECTED (R27): while listening or driving; a SHADOW is exempt (R29). -/
def execSecondMasterDetected (s : State) : Out :=
  if s.isRole .mst ∧ !s.isShadow ∧ (s.ridge.lstate = .mstListen ∨ s.ridge.lstate = .master) then ok (s.refuseRole .secondMaster) else ok s

/-! ### DOZE (R107 to R109) -/

/-- No log write, margin or image update is in progress. -/
def State.dozeQuiet (s : State) : Bool :=
  s.nvm.job.isNone && s.nvm.buf.isEmpty && s.nvm.winHost.posted.isNone && s.nvm.winSvc.posted.isNone && s.nvm.winRidge.posted.isNone &&
    !s.anyMargin && decide (s.img.op = .none) && decide (s.img.reload = 0)

/-- DOZE is requested (R107, R108): the PLL and the watchdog stop, and scans after the one in
flight (R209). The clock monitor watches the crystal on (R82). A running self-check and a running wet check abort, since their engines
stop (DESIGN CHOICE, log entry 30). -/
def State.dozeReq (s : State) : State :=
  if s.isRole .sgl ∧ !s.role.pair ∧ s.seq.state = .idle ∧ s.dozeQuiet then
    let s := s.modPwr fun p => { p with doze := true, waking := false }
    let s := s.modClk fun c => { c with pllLock := false }
    let t := s.chkAbortNow.wetAbort
    (t.modWdt fun w => { w with run := false }).liveSettle.watch s
  else s.modPwr fun p => { p with dozeRef := true }

/-- A write of `SYS_PWR` (Table 3-10). -/
def State.pwrWrite (s : State) (v : Word) : State :=
  let s := s.modPwr fun p => { p with wakeCmpEn := bit v 3, wakePinEn := bit v 2, dozeRef := p.dozeRef && !bit v 1 }
  if bit v 0 then s.dozeReq else s

/-- A cause wakes the device now: the pin and comparator latches as enabled, host access and SRC always. -/
def State.wakeOpen (s : State) : WakeCause → Bool
  | .wakePin => s.pwr.wakePinEn
  | .comparator => s.pwr.wakeCmpEn && (List.range 24).any fun n => s.regBit (Reg.chCmpCfg n) 15 && (s.lat n false || s.lat n true)
  | .hostAccess => s.rst.hifUp && s.supply.vddioOk
  | .srcEdge => s.supply.srcEdge

/-- Bit of a cause in `WAKE_CAUSE`. -/
def wakeBit : WakeCause → Nat
  | .wakePin => 0 | .comparator => 1 | .hostAccess => 2 | .srcEdge => 3

/-- A wake begins: the PLL restarts, and PLL_LOCK ends it. -/
def State.dozeWake (s : State) (c : WakeCause) : State :=
  let s := s.modPwr fun p => { p with waking := true, wakeCause := p.wakeCause ||| BitVec.ofNat 5 (2 ^ wakeBit c) }
  s.modBoot fun b => { b with wakeStart := true }

/-- DOZE_WAKE (R109). -/
def execDozeWake (cause : WakeCause) (s : State) : Out :=
  if !s.pwr.doze || s.pwr.waking || !s.wakeOpen cause then ok s
  else
    let s := if cause = .wakePin then s.modPins fun p => { p with wakeN := false } else s
    ok (s.dozeWake cause)

/-! ### Rebuild of the log (R336, R337) -/

/-- LOG_REBUILD_DONE (R336): once per L0 start, in stage 6; corrupted entries raise ECC2 once. -/
def execLogRebuildDone (s : State) : Out :=
  if s.nvm.rebuilt || !s.inStage 6 || decide (s.rst.domains = 0) then ok s
  else
    let (t, ecc) := s.logRebuild
    ok (if ecc then t.raise1 .ecc2 else t)

/-! ### Straps in the release (R43, R129) -/

/-- The samples at 1 and 2 µs after the CORE step. -/
def State.strapTick (s : State) : State :=
  match s.rst.coreAt with
  | some t =>
    let k := s.pins.strapSamp.length
    if (k = 1 ∨ k = 2) ∧ t + k ≤ s.ticks then s.takeStrap else s
  | none => s

/-! ### Status words of chapters 1 to 4 -/

/-- `SYS_STRAP` (Table 2-4). -/
def State.strapW (s : State) : Word := pack [(b2n s.pins.strapTest, 8, 1), (b2n s.pins.strapIf, 2, 1), (s.pins.strapAdr.toNat, 0, 2)]

/-- `SYS_BOOT` (Table 3-8). -/
def State.bootW (s : State) : Word :=
  let b := s.boot
  pack [(b.retryCnt, 24, 8), (b.failStage, 20, 4), (b.stage, 16, 4), (b.fuseTry, 12, 4), (b2n b.wakeStart, 10, 1), (b2n b.bench, 9, 1),
    (b2n b.stk, 8, 1), (min 7 b.backoffK, 0, 3)]

/-- `SYS_PWR` (Table 3-10). -/
def State.pwrW (s : State) : Word :=
  pack [(s.pwr.wakeCause.toNat, 16, 5), (b2n s.pwr.waking, 4, 4), (b2n s.pwr.wakeCmpEn, 3, 1), (b2n s.pwr.wakePinEn, 2, 1),
    (b2n s.pwr.dozeRef, 1, 1)]

/-- `CLK_STAT` (Table 3-4). -/
def State.clkW (s : State) : Word :=
  let c := s.clk
  pack [(b2n c.monEvt, 7, 1), (b2n c.sofTrim, 6, 1), (b2n c.aonRcOk, 5, 1), (b2n c.fallback, 3, 1), (b2n c.pllLock, 2, 1),
    (b2n c.xtalOk, 1, 1), (b2n c.pllFromRc, 0, 1)]

/-- `TB_STAT` (Table 3-6). -/
def State.tbStatW (s : State) : Word :=
  let t := s.tb
  pack [(t.resyncCnt, 16, 16), (b2n t.epochLost, 3, 1), (b2n t.epochSat, 2, 1), (b2n t.resync, 1, 1),
    (b2n (s.isRole .slv && s.ridge.tlock), 0, 1)]

end Sys2Proof.Machine
end

