-- ==== Sys2Proof/Machine/Paths.lean ====
section
/-! DEFINITION. Register reads and writes by every path (spec/00_scope.md R3 to R12; spec/18_register_map.md R547 to R551; limits of the
paths: spec/01_roles_and_topologies.md R24, spec/03_supplies_clocks_and_start_up.md R98, spec/11_ridge_link.md R379,
spec/13_redundant_pair.md R434, spec/14_stack_role.md R463, spec/16_service_port_and_identity.md R511). -/

namespace Sys2Proof.Machine

/-! ### Status words of chapters 15 and 16 -/

/-- `SYS_HIF_STAT` (Table 15-7). -/
def State.hifStatW (s : State) : Word :=
  pack [(s.hif.crcErr, 24, 8), (s.hif.othErr, 16, 8), (b2n s.pins.strapIf, 5, 1), (b2n s.hif.errf, 4, 1), (s.hif.lastErr.toNat, 0, 4)]

/-- Channels whose comparator latches or flags are set. -/
def State.cmpMarks (s : State) : Word :=
  s.reg Reg.cmpFlLat ||| s.reg Reg.cmpFhLat ||| s.reg Reg.cmpChkFail ||| wordOf 24 fun n => (s.cmpCh n).wlFlag || (s.cmpCh n).whFlag

/-- `SYS_IRQ_STAT` (Table 15-5). -/
def State.irqStatW (s : State) : Word :=
  let set (a : Nat) : Bool := decide (s.reg a ≠ 0)
  let mask := s.reg Reg.sysIrqChmask
  let v := s.nvm
  let warn := wordOf 24 fun n => (s.cmpCh n).wl && !(s.cmpCh n).masked || (s.cmpCh n).wh && !(s.cmpCh n).masked
  wordOf 15 fun i =>
    match i with
    | 0 => set Reg.seqEvt
    | 1 => set Reg.reactEvt || s.react.sysEvt
    | 2 => decide (s.cmpMarks &&& mask ≠ 0)
    | 3 => decide (warn &&& mask ≠ 0)
    | 4 => s.supply.srcEvt || s.supply.vddioLost
    | 5 => v.recNew || v.histNew || v.abandon || v.eccFix
    | 6 => v.satEvt || v.cntEcc
    | 7 => set Reg.schedEvt || set Reg.schedPo || set Reg.schedUs
    | 8 => set Reg.ridgeEvt
    | 9 => set Reg.pairEvt
    | 10 => set Reg.stackEvt
    | 11 => set Reg.sysFabirq
    | 12 => s.hif.irqImg
    | 13 => s.hif.errf
    | _ => s.hif.irqBoot

/-- IRQ_N is asserted (R495); without VDDIO the pin is high-Z (R70). -/
def State.irqN (s : State) : Bool :=
  s.supply.vddioOk && s.rst.hifUp && decide (s.mapRole ≠ .stk) && decide (s.irqStatW &&& s.reg Reg.sysIrqEn ≠ 0)

/-- Codes of `SEC_STAT.LEVEL` (Table 16-12). -/
def AccessLevel.code : AccessLevel → Nat
  | .view => 0 | .service => 1 | .factory => 2

/-- `SEC_STAT` (Table 16-12). -/
def State.secStatW (s : State) : Word :=
  let v := s.svc
  pack [(min 0xFF v.authFail, 16, 8), (b2n v.idBad, 10, 1), (b2n v.fusePend, 9, 1), (b2n v.lockEnd.isSome, 8, 1),
    (b2n v.devAuth, 7, 1), (b2n s.boot.bench, 6, 1), (b2n v.configured, 5, 1), (b2n v.dtr, 4, 1), (v.level.code, 2, 2),
    (s.lifecycle, 0, 2)]

/-! ### What a register shows -/

/-- Registers composed from the engines' states: address and view. -/
def statusViews (p : Port) : List (Nat × (State → Word)) :=
  [(Reg.sysRole, State.sysRoleW), (Reg.sysStrap, State.strapW), (Reg.sysEnlvl, State.enlvlW), (Reg.sysBoot, State.bootW),
   (Reg.sysPwr, State.pwrW), (Reg.sysSupply, State.supplyW), (Reg.sysHifStat, State.hifStatW), (Reg.sysIrqStat, State.irqStatW),
   (Reg.sysWdtStat, State.wdtStatW), (Reg.sysGpioIn, fun s => wordOf 8 s.gpioLevel), (Reg.rstCause, fun s => s.rst.cause),
   (Reg.rstMap, State.rstMapW), (Reg.rstBlkstat, State.blkStatW), (Reg.rstGen, State.rstGenW), (Reg.clkStat, State.clkW),
   (Reg.tbNow, fun s => s.tb.now), (Reg.tbUpLo, fun s => s.tb.up.setWidth 32), (Reg.tbUpHi, fun s => s.tb.upHi),
   (Reg.tbEpoch, fun s => s.tb.epoch), (Reg.tbStat, State.tbStatW), (Reg.imgStat, State.imgStatW), (Reg.imgSlotstat, State.imgSlotW),
   (Reg.imgVerA, fun s => s.img.verA), (Reg.imgVerB, fun s => s.img.verB), (Reg.imgRunVer, fun s => s.img.runVer),
   (Reg.imgBgchk, fun s => w32 s.img.bgchk), (Reg.chWetStat, State.wetStatW), (Reg.resScanStat, State.scanStatW),
   (Reg.cmpFlOut, fun s => wordOf 24 fun n => s.cmpOut n false), (Reg.cmpFhOut, fun s => wordOf 24 fun n => s.cmpOut n true),
   (Reg.cmpStat, State.cmpGlobalW), (Reg.seqStat, State.seqStatW), (Reg.seqSrcStat, State.srcStatW), (Reg.seqRailOn, State.railOnW),
   (Reg.reactSysstat, State.sysstatW), (Reg.cntStat, State.cntStatW), (Reg.logAddr, fun s => w32 (s.window p).logAddr),
   (Reg.logStat, fun s => s.logStatW p), (Reg.logRec, State.logRecW), (Reg.logHist, State.logHistW), (Reg.logMark, State.logMarkW),
   (Reg.nvmAddr, fun s => w32 (s.window p).nvmAddr), (Reg.nvmStat, fun s => s.nvmStatW p), (Reg.schedStat, State.schedStatW),
   (Reg.schedDieT, fun s => (Config.dieTemp s.ticks).setWidth 32), (Reg.schedLstat, State.schedLstatW),
   (Reg.schedBlk, State.schedBlkW), (Reg.schedGrant, State.schedGrantW), (Reg.schedGend, State.schedGendW),
   (Reg.fabStat, State.fabStatW), (Reg.ridgeStat, State.ridgeStatW), (Reg.ridgeFrame, State.ridgeFrameW),
   (Reg.ridgeNtUidLo, fun s => (s.node (s.regFld Reg.ridgeNtSel 0 5)).uid.setWidth 32),
   (Reg.ridgeNtUidHi, fun s => (s.node (s.regFld Reg.ridgeNtSel 0 5)).uid.extractLsb' 32 32),
   (Reg.ridgeNtPuidLo, fun s => (s.node (s.regFld Reg.ridgeNtSel 0 5)).puid.setWidth 32),
   (Reg.ridgeNtPuidHi, fun s => (s.node (s.regFld Reg.ridgeNtSel 0 5)).puid.extractLsb' 32 32),
   (Reg.ridgeAdmitted, State.admitW), (Reg.ridgeAbsent, State.ridgeAbsentW), (Reg.pairStat, State.pairStatW),
   (Reg.pairRegrow, State.pairRegrowW), (Reg.pairPuidLo, fun s => s.puid.setWidth 32),
   (Reg.pairPuidHi, fun s => s.puid.extractLsb' 32 32), (Reg.stackBalStat, State.balStatW), (Reg.stackUstat, State.ustatW),
   (Reg.secStat, State.secStatW), (Reg.secUidLo, fun s => s.uid.setWidth 32), (Reg.secUidHi, fun s => s.uid.extractLsb' 32 32),
   (Reg.secCerthLo, fun s => s.svc.certh.setWidth 32), (Reg.secCerthHi, fun s => s.svc.certh.extractLsb' 32 32)]

/-- Indexed registers composed from the engines' states: first address, stride, count and view. -/
def indexedViews : List (Nat × Nat × Nat × (State → Nat → Word)) :=
  [(Reg.cmpChStat 0, 4, 24, State.cmpStatW), (Reg.seqRailStat 0, 4, 24, State.railStatW), (Reg.reactRailStat 0, 4, 24, State.reactStatW),
   (Reg.mrgStat 0, 4, 8, State.mrgStatW), (Reg.cntRailWarn 0, 4, 96, State.counter), (Reg.cntSat 0, 4, 3, State.cntSatW),
   (Reg.fabCellStat 0, 4, 64, State.cellStatW), (Reg.fabSrcval 0, 4, 8, State.srcvalW), (Reg.fabSinkval 0, 4, 3, State.sinkvalW),
   (Reg.ridgeNodeStat 0, 4, 31, fun s i => s.ridgeNodeW (i + 1)), (Reg.ridgeNodeDly 0, 4, 31, fun s i => s.ridgeDlyW (i + 1)),
   (Reg.stackPStat 0, 4, 2, fun s i => s.portStatW (decide (i = 1))), (Reg.fuseWord 0, 4, 64, State.fuseW)]

/-- The stack proxy registers that each context holds for itself (R472). -/
def proxyReg (a : Nat) : Bool :=
  decide (a = Reg.stackPxAddr) || decide (a = Reg.stackPxStat) || (idxOf a (Reg.stackPxData 0) 4 16).isSome

/-- Key of a register in the register file, for a path. -/
def State.keyOf (_s : State) (p : Port) (a : Nat) : Nat := ctxKey (decide (p = .svc) && proxyReg a) a

/-- The word a present register shows, before any side effect (R12). -/
def State.shown (s : State) (p : Port) (r : RegRow) (a : Nat) : Word :=
  match r.acc with
  | .wo => 0
  | .live => s.liveValue a
  | .ro | .rw | .w1c | .rc | .mix =>
    match (statusViews p).find? fun e => decide (e.1 = a) with
    | some e => e.2 s
    | none =>
      match indexedViews.findSome? fun e => (idxOf a e.1 e.2.1 e.2.2.1).map fun i => e.2.2.2 s i with
      | some w => w
      | none => s.reg (s.keyOf p a)

/-! ### Reachable registers -/

/-- Registers the host reads before the role is decided (R98). -/
def bootReg (a : Nat) : Bool :=
  decide (a = Reg.sysId) || decide (a = Reg.sysRev) || decide (a = Reg.sysRole) || decide (a = Reg.sysBoot)

/-- The row a path reaches at an address; none: it reads 0 and ignores writes, without an error (R3, R98, R463, R550). -/
def State.reach (s : State) (p : Port) (a : Nat) : Option RegRow :=
  match p with
  | .host => if decide (s.role.state = .starting) && !bootReg a then none else s.present a
  | .svc => if a = Reg.imgCtrl then regRow? a else if decide (s.role.state = .starting) && !serviceBank a then none else s.present a
  | .ridge => if a = Reg.imgCtrl then regRow? a else s.present a
  | .chain => if a = Reg.imgCtrl ∨ a = Reg.logCtrl ∨ (Reg.nvmAddr ≤ a ∧ a ≤ Reg.nvmStat) then none else s.present a

/-- The access meets a wrapped block in block reset: ERR_BLKRST (R142, Table 4-9). -/
def State.blkErr (s : State) (a : Nat) : Bool :=
  (within a 0x2800 0x29FF && s.blkBusy 0) || (decide (a = Reg.stackPStat 0) && s.blkBusy 1) ||
    (decide (a = Reg.stackPStat 1) && s.blkBusy 2) || (within a 0x3000 0x30FF && s.blkBusy 3) ||
    ((decide (a = Reg.logData) || decide (a = Reg.nvmData)) && s.blkBusy 4)

/-! ### Reads -/

/-- The bits a clearing read clears (R8, R10, R217). -/
def State.readClear (s : State) (r : RegRow) (a : Nat) : State :=
  if r.acc = .rc then s.setReg a 0
  else if a = Reg.sysPwr then s.modPwr fun p => { p with wakeCause := 0 }
  else if a = Reg.sysHifStat then s.modHif fun h => { h with crcErr := 0, othErr := 0 }
  else if a = Reg.rstBlkstat then s.modRst fun x => { x with lateCnt := 0 }
  else if a = Reg.logStat then s.modNvm fun v => { v with dropCnt := 0 }
  else if (idxOf a (Reg.resCh 0) 4 24).isSome || (idxOf a (Reg.resSnap 0) 4 24).isSome then s.setRegBit a 7 false
  else s

/-- What reading a register does by every path: the window address advances, `TB_UP_HI` is latched (R92, R350, R351). -/
def State.readEffect (s : State) (p : Port) (a : Nat) : Word × State :=
  if a = Reg.logData then s.logDataRead p
  else if a = Reg.nvmData then s.nvmDataRead p
  else (s.tb.up.setWidth 32, s.modTb fun t => { t with upHi := t.up.extractLsb' 32 32 })

/-- A register read: the word as it stood at the start of the cycle, then its side effects; `clear` for a path whose reads clear RC
bits and `FRESH` (R12, R217, R356). -/
def State.portRead (s : State) (p : Port) (clear : Bool) (a : Nat) : Word × State :=
  match s.reach p a with
  | none => (0, s)
  | some r =>
    if s.blkErr a then (0, s)
    else if a = Reg.logData ∨ a = Reg.nvmData ∨ a = Reg.tbUpLo then s.readEffect p a
    else (s.shown p r a, if clear then s.readClear r a else s)

/-! ### Writes -/

/-- A write of `RES_SCAN_CTRL` (R209). A wet check that runs at `RUN` = 0 goes on, and stays BUSY (DESIGN CHOICE, log entry 15). -/
def State.scanCtrlWrite (s : State) (v : Word) : State :=
  let t := s.setReg Reg.resScanCtrl (v &&& 1)
  if bit v 0 == s.regBit Reg.resScanCtrl 0 then t
  else if bit v 0 then t.startScan else t.stopScan.liveSettle

/-- A write of `SEQ_SRC_CTRL` (R286): the source pair is judged at once. -/
def State.srcCtrlWrite (s : State) (v : Word) : State :=
  let t := s.setReg Reg.seqSrcCtrl (v &&& 1)
  if t.seqRuns then t.srcJudge else t

/-- Writes to RW registers with an effect of their own; none: the value is stored. -/
def State.rwWrite (s : State) (p : Port) (a : Nat) (v : Word) : Option State :=
  if a = Reg.resScanCtrl then some (s.scanCtrlWrite v)
  else if a = Reg.seqSrcCtrl then some (s.srcCtrlWrite v)
  else if a = Reg.logAddr then some (s.logAddrWrite p v)
  else if a = Reg.nvmAddr then some (s.nvmAddrWrite p v)
  else if a = Reg.nvmData then some (s.nvmDataWrite p v)
  else if a = Reg.stackBalEn then some (s.balEnWrite v)
  else
    match idxOf a (Reg.stackBalDuty 0) 4 8 with
    | some k => some (s.balDutyWrite k v)
    | none => (idxOf a (Reg.schedLDuty 0) 12 64).map fun e => s.dutyWrite e v

/-- Writes to W1C registers (R8, R9): latches and `SCHED_US` under their own conditions (R241, R415). An event of the cycle of the
access stands behind the access in the queue, so that it survives the clearing (R9, R10; DESIGN CHOICE, log entry 1). -/
def State.w1cWrite (s : State) (r : RegRow) (a : Nat) (v : Word) : State :=
  if a = Reg.cmpFlLat then (s.clearLats false v).watch s
  else if a = Reg.cmpFhLat then (s.clearLats true v).watch s
  else if a = Reg.schedUs then s.schedUsWrite v
  else s.clearBits a (v &&& w32 r.mask)

/-- The command registers (WO). On a SHADOW the engines behind the sequence, margin and Ridge commands are idle (R434). -/
def State.cmdWrite (s : State) (p : Port) (a : Nat) (v : Word) : State :=
  if a = Reg.sysWdtKick then s.wdtKick v
  else if a = Reg.rstCmd then (if p = .svc then s else s.rstCmd v [])
  else if a = Reg.rstBlk then s.rstBlk v
  else if a = Reg.imgCtrl then s.imgCtrlWrite v
  else if a = Reg.chWetCtrl then s.wetWrite v
  else if a = Reg.resSnapCtrl then s.snapWrite v
  else if a = Reg.cmpChkCtrl then s.chkWrite v
  else if a = Reg.logCtrl then s.logCtrlWrite p v
  else if a = Reg.pairCtrl then s.pairCtrlWrite v
  else if a = Reg.stackPortCtrl then s.portCtrlWrite v
  else if a = Reg.stackPxCtrl then s.pxWrite (decide (p = .svc)) v
  else if s.isShadow then s
  else if a = Reg.seqCtrl then s.seqCtrlWrite v
  else if a = Reg.mrgCtrl then s.mrgCtrlWrite v
  else if a = Reg.ridgeHcmd then s.hcmdWrite v
  else if a = Reg.ridgePxCtrl then s.pxCtrlWrite v
  else s.ntCtrlWrite v

/-- Registers of mixed access: the W1C and RW bits act, the others ignore the write. -/
def State.mixWrite (s : State) (p : Port) (a : Nat) (v : Word) : State :=
  if a = Reg.sysPwr then s.pwrWrite v
  else if a = Reg.sysSupply then
    s.modSupply fun x => { x with srcEvt := x.srcEvt && !bit v 5, vddioLost := x.vddioLost && !bit v 4 }
  else if a = Reg.sysHifStat then s.modHif fun h => { h with errf := h.errf && !bit v 4 }
  else if a = Reg.sysIrqStat then s.modHif fun h => { h with irqImg := h.irqImg && !bit v 12, irqBoot := h.irqBoot && !bit v 14 }
  else if a = Reg.rstBlkstat then
    s.modRst fun x => { x with refused := x.refused &&& ~~~(BitVec.ofNat 3 (fld v 16 3)), badKey := x.badKey && !bit v 3 }
  else if a = Reg.clkStat then s.modClk fun c => { c with monEvt := c.monEvt && !bit v 7 }
  else if a = Reg.tbStat then s.modTb fun t => { t with resync := t.resync && !bit v 1 }
  else if a = Reg.chWetStat then s.clearBits a (v &&& 0x60000000#32)
  else if a = Reg.cmpStat then s.cmpGlobalWrite v
  else if a = Reg.reactSysstat then s.modReact fun x => { x with sysEvt := x.sysEvt && !bit v 0 }
  else if a = Reg.cntStat then s.cntStatWrite v
  else if a = Reg.logStat then s.logStatWrite p v
  else if a = Reg.nvmStat then s.nvmStatWrite p v
  else
    match idxOf a (Reg.cmpChStat 0) 4 24 with
    | some n => (s.cmpStatWrite n v).watch s
    | none =>
      match idxOf a (Reg.seqRailStat 0) 4 24 with
      | some n =>
        s.modRail n fun x =>
          { x with dischFail := x.dischFail && !bit v 11, rampFail := x.rampFail && !bit v 10, waitFault := x.waitFault && !bit v 9 }
      | none =>
        match idxOf a (Reg.reactRailStat 0) 4 24 with
        | some n => s.modReactAt n fun x => { x with esc := x.esc && !bit v 3 }
        | none =>
          match idxOf a (Reg.mrgStat 0) 4 8 with
          | some m => s.modDac m fun d => { d with timeout := d.timeout && !bit v 4 }
          | none => s

/-- A host write to this unit is ignored: the slave role, the stack role, a SHADOW but for `PAIR_CTRL`, and a role not yet
decided (R24, R98, R434). -/
def State.hostIgnored (s : State) (a : Nat) : Bool :=
  s.isRole .slv || s.isRole .stk || (s.isShadow && decide (a ≠ Reg.pairCtrl)) || decide (s.role.state = .starting)

/-- A register write (R3, R8): what the access code and the register's own rules do. -/
def State.portWrite (s : State) (p : Port) (a : Nat) (v : Word) : State :=
  if (decide (p = .host) && s.hostIgnored a) || s.blkErr a then s
  else
    match s.reach p a with
    | none => s
    | some r =>
      match r.acc with
      | .ro | .rc => s
      | .live => s.liveWrite a v
      | .rw => (s.rwWrite p a v).getD (s.setReg (s.keyOf p a) (v &&& w32 r.mask))
      | .w1c => s.w1cWrite r a v
      | .wo => s.cmdWrite p a v
      | .mix => s.mixWrite p a v

/-! ### Open paths -/

/-- The slave's controller works: role SLV, out of reset, clocks running (R130, R142). -/
def State.slaveOn (s : State) : Bool :=
  s.isRole .slv && s.linkOut && !s.clk.gated && !s.blkBusy 0 && decide (s.ridge.lstate ≠ .off) && decide (s.ridge.lstate ≠ .refused)

/-- The unit drives the link's bursts and replies of its role: a lone slave, or the SOLO or PRIMARY unit of a pair (R28). -/
def State.slaveDrives (s : State) : Bool := s.slaveOn && (!s.role.pair || s.pair.pstate.drives)

/-- The node is admitted; a PAIRED unit with its partner (R391). -/
def State.slaveAdmitted (s : State) : Bool :=
  decide (s.ridge.lstate = .admitted) || (decide (s.ridge.lstate = .paired) && s.role.addrValid)

/-- The host interface answers (R98, R129, Table 2-10): released, VDDIO present, clocks running, not in the stack role. -/
def State.hifOn (s : State) : Bool :=
  s.rst.hifUp && s.supply.vddioOk && !s.clk.gated && !s.pwr.doze && decide (s.mapRole ≠ .stk)

/-- The service port answers: attached, not suspended, and with the PLL on the RC only once `CLK_USB` is trimmed, SAFE_IDLE apart
(R86, R102, R506). DOZE leaves it running, since an attached port has VBUS (Table 3-3). -/
def State.usbOn (s : State) : Bool :=
  s.svc.attached && !s.svc.suspended && !s.clk.gated &&
    (!s.clk.pllFromRc || s.clk.sofTrim || decide (s.role.state = .safeIdle))

/-- Requests come in by the path. -/
def State.pathOpen (s : State) : Port → Bool
  | .host => s.hifOn
  | .svc => s.usbOn
  | .ridge => s.slaveDrives && s.slaveAdmitted
  | .chain => s.addressed

/-- Command registers that `ALLOW_CMD` withdraws at SERVICE (R510). -/
def policyReg (a : Nat) : Bool :=
  decide (a = Reg.seqCtrl) || decide (a = Reg.mrgCtrl) || decide (a = Reg.schedCtrl) || decide (a = Reg.pairCtrl)

/-- Registers whose commands bench mode refuses (Table 16-2, R508). -/
def benchRefused (a : Nat) : Bool :=
  policyReg a || decide (a = Reg.rstBlk) || decide (a = Reg.chWetCtrl) || decide (a = Reg.cmpChkCtrl)

/-- Status of a service-port write of a register (R510, R511, Table 16-5): 0 OK, 3 LEVEL, 8 ADDR, 5 STATE, 0x0C POLICY. -/
def State.svcWriteStatus (s : State) (a : Nat) : Nat :=
  if s.svc.level = .view ∨ (a = Reg.imgCtrl ∧ s.svc.level ≠ .factory) then 3
  else if a = Reg.rstCmd then 8
  else if s.boot.bench && benchRefused a then 5
  else if s.svc.level = .service ∧ (!s.regBit Reg.svcPolicy 0 ∨ (!s.regBit Reg.svcPolicy 1 ∧ policyReg a)) then 0x0C
  else 0

/-- One register write that arrives by a path: it acts when the path is open, and on the service port when its level and the policy
allow it. -/
def State.access (s : State) (p : Port) (a : Nat) (v : Word) : State :=
  if !s.pathOpen p || (decide (p = .svc) && decide (s.svcWriteStatus a ≠ 0)) then s else s.portWrite p a v

/-- The word leaves by the path it was asked on. -/
def State.deliver (s : State) (p : Port) (w : Word) : State :=
  match p with
  | .host => s.modHif fun h => { h with tx := beBytes 4 w.toNat }
  | .svc => s.modSvc fun v => { v with tx := [leBytes 4 w.toNat] }
  | .ridge => s.modS fun x => { x with data := w, dvalid := true }
  | .chain => s.modUnit fun u => { u with txD := leBytes 4 w.toNat }

/-- One register read by a path: the word is delivered; reads by the host and by the chain clear RC bits and `FRESH`. -/
def State.fetch (s : State) (p : Port) (a : Nat) : State :=
  if !s.pathOpen p then s
  else
    let (w, t) := s.portRead p (decide (p = .host) || decide (p = .chain)) a
    t.deliver p w

end Sys2Proof.Machine
end

