-- ==== Sys2Proof/Machine/RidgeS.lean ====
section
/-! DEFINITION. The Ridge link seen from a slave: ticks, headers, bursts, launches, replies, croaks and master loss, with the host's
Ridge commands of a master (spec/11_ridge_link.md R362 to R393; on a SHADOW spec/13_redundant_pair.md R434, R439). -/

namespace Sys2Proof.Machine

/-! ### Link states (R380, R381) -/

/-- The controller enters CROAKING: the first croak goes into the first open slot. -/
def State.enterCroaking (s : State) : State :=
  let p := s.prefNode
  (s.modRidge fun r => { r with lstate := .croaking, node := 0 }).modS fun x =>
    { x with tries := 0, backoff := 0, waitAns := none, slotSel := none, pref := p, joinFr := 0 }

/-- The controller enters LISTEN. -/
def State.toListen (s : State) : State :=
  (s.modRidge fun r => { r with lstate := .listen, tlock := false, node := 0 }).modS fun x =>
    { x with good := 0, bad := 0, odd := [], accepted := 0, edge := none, rtime := none }

/-- Lock is reached: CROAKING, or PAIRED on a SHADOW. -/
def State.lockReached (s : State) : State :=
  if s.isShadow then s.modRidge fun r => { r with lstate := .paired } else s.enterCroaking

/-- `SYS_ROLE` shows the assigned node. -/
def State.showNode (s : State) (n : Nat) : State := s.modRole fun r => { r with addr := n, addrValid := decide (n ≠ 0) }

/-- Admission ends (R386): GRANTs are discarded, the budgeted rails go off, and the device croaks again. -/
def State.loseAdmission (s : State) : State :=
  let s := (s.modS fun x => { x with timed := x.timed.filter fun c => decide (c.op ≠ 5) }).modPair fun p =>
    { p with held := p.held.filter fun c => decide (c.op ≠ 5) }
  let s := if s.isShadow then s.shadowGrant none else s.dropGrants
  let s := (s.showNode 0).ridgeEvt 2
  if s.ridge.lstate = .paired then s.modRidge fun r => { r with node := 0 } else s.enterCroaking

/-! ### Tick acceptance (R368, R369) -/

/-- The lock counts after an accepted tick with phase error e. -/
def State.lockCount (s : State) (e : Int) : State :=
  let good := if e.natAbs ≤ 100 then min 8 (s.ridge.s.good + 1) else 0
  let bad := if 500 < e.natAbs then min 3 (s.ridge.s.bad + 1) else 0
  let lock := if bad = 3 then false else if good = 8 then true else s.ridge.tlock
  (s.modS fun x => { x with good := good, bad := bad }).modRidge fun r => { r with tlock := lock }

/-- A timebase step to the master's phase: the header's `RTIME` plus the time since the edge and the applied delay. -/
def State.tickStep (s : State) (rtime : Word) (elapsed : Nat) : State :=
  ((s.syncReset (rtime + w32 (elapsed + s.regFld Reg.ridgeDly 0 16 / 1000))).modRidge fun r => { r with tlock := false }).modS fun x =>
    { x with odd := [], good := 0, bad := 0 }

/-- Errors beyond 2 µs: the third in a row that agrees with the others within ±1 µs steps the timebase. -/
def State.oddTick (s : State) (e : Int) (rtime : Word) (elapsed : Nat) : State :=
  let s := if s.ridge.tlock then s.ridgeEvt 10 else s
  let l := (e :: s.ridge.s.odd).take 3
  let agree := l.all fun a => l.all fun b => decide ((a - b).natAbs ≤ 1000)
  if l.length = 3 ∧ agree then s.tickStep rtime elapsed else s.modS fun x => { x with odd := l }

/-- The state follows `TLOCK`; the 64 accepted ticks of R369 count from the entry into LOCKING. -/
def State.followLock (s : State) : State :=
  match s.ridge.lstate with
  | .locking => if s.ridge.tlock then s.lockReached else if 64 ≤ s.ridge.s.accepted then s.toListen else s
  | .croaking => if s.ridge.tlock then s else (s.modRidge fun r => { r with lstate := .locking }).modS fun x => { x with accepted := 0 }
  | _ => s

/-- A tick edge with phase error e is accepted: up to 2 µs is slewed (R368). The rate trim has no register and moves no value of the
model, whose time runs in this device's own microseconds (DESIGN CHOICE, log entry 24). -/
def State.acceptTick (s : State) (e : Int) (rtime : Word) (elapsed : Nat) : State :=
  let (free, s) := if e.natAbs < 2 ^ 15 then (w32 (enc 16 e), s) else let (w, t) := s.takeWord; (w &&& 0xFFFF#32, t)
  let first := decide (s.ridge.lstate = .listen)
  let s := (s.setReg Reg.ridgeTerr free).modS fun x =>
    { x with lastTick := s.ticks, accepted := if first then 1 else x.accepted + 1, edge := none }
  let s := if first then s.modRidge fun r => { r with lstate := .locking } else s
  if e.natAbs ≤ 2000 then (((s.modS fun x => { x with odd := [] }).slewBy (-2 * e)).lockCount e).followLock
  else if first then s.tickStep rtime elapsed
  else ((s.lockCount e).oddTick e rtime elapsed).followLock

/-- TICK_EDGE_RECEIVE (R368): the slave keeps the crossing and waits for a header. -/
def execTickEdgeReceive (e : Int) (s : State) : Out :=
  if s.slaveOn then ok (s.modS fun x => { x with edge := some (s.ticks, e) }) else ok s

/-! ### Command numbers and reports (R375, R376) -/

/-- `CSEQ` a is at least b, modulo 2^16. -/
def cseqFrom (a b : Nat) : Bool := decide ((a + 65536 - b % 65536) % 65536 < 32768)

/-- The commands up to `last` are resolved: `RX_SEQ`, `MISSMAP` and the count of missed ones. -/
def State.resolveTo (s : State) (last : Nat) : State :=
  let x := s.ridge.s
  let miss (q : Nat) : Bool := cseqFrom q x.fromSeq && !x.seen.contains q
  let new := min 255 ((last + 65536 - x.rxSeq) % 65536 % 32768)
  let lost := ((List.range new).filter fun i => miss ((last + 65536 - i) % 65536)).length
  let map := BitVec.ofNat 16 (((List.range 16).map fun i => if miss ((last + 65536 - i) % 65536) then 2 ^ i else 0).sum)
  (s.modS fun y => { y with rxSeq := last, missmap := map }).count Reg.ridgeErrcnt 8 8 (if s.ridge.node = 0 then 0 else lost)

/-- Admission at a tick (R383); from the first one on the slave takes launches (R384). -/
def State.takeAdmission (s : State) (base : Nat) : State :=
  let s := s.modRidge fun r => { r with lstate := if r.lstate = .joining then .admitted else r.lstate, mlost := false }
  ((s.showNode s.ridge.node).modS fun x =>
    { x with fromSeq := base, rxSeq := (base + 65535) % 65536, missmap := 0, once := true }).ridgeEvt 0

/-- A frame begins, by this device's timebase, for a croaking or joining device (R380, R381). The end of a REJECT backoff enters CROAKING
again. -/
def State.passFrameS (s : State) : State :=
  let x := s.ridge.s
  match s.ridge.lstate with
  | .croaking =>
    if x.backoff = 1 ∧ x.tries = 0 then s.enterCroaking
    else s.modS fun y => { y with backoff := y.backoff - 1, waitAns := y.waitAns.map (· + 1) }
  | .joining => s.modS fun y => { y with joinFr := y.joinFr + 1 }
  | _ => s

/-- The fields of a valid header b; `tick`: its tick edge was accepted (R363, R376, R383, R386). -/
def State.takeHeader (s : State) (b : List Byte) (tick : Bool) : State :=
  let ses := BitVec.ofNat 8 (leAt b 14 1)
  let flags := leAt b 15 1
  let base := leAt b 20 2
  let member := s.slaveAdmitted
  let s := s.modRidge fun r =>
    { r with frame := leAt b 2 2, zxts := w32 (leAt b 8 4), zxv := decide (flags % 2 = 1), bepoch := BitVec.ofNat 16 (leAt b 12 2),
             session := if member then r.session else ses,
             s := if ses = r.session then r.s else { r.s with seen := [] } }
  let s := s.modS fun x =>
    { x with slots := BitVec.ofNat 2 (flags / 2), prevRange := x.range, range := some (base, leAt b 22 1), rtime := some (w32 (leAt b 4 4)) }
  let s := s.resolveTo ((base + 65535) % 65536)
  let named := decide (s.ridge.node ≠ 0) && bit (w32 (leAt b 16 4)) s.ridge.node
  let waits := decide (s.ridge.lstate = .joining) || (decide (s.ridge.lstate = .paired) && !member)
  if member && (!named || decide (ses ≠ s.ridge.session)) then s.loseAdmission
  else if waits && tick && named then s.takeAdmission base
  else s

/-- A frame without a valid header: the tick is not accepted, and the last range is known from its own header (R368, R376). -/
def State.headerLost (s : State) : State :=
  let s := s.modS fun x => { x with edge := none, slots := 0 }
  match s.ridge.s.range with
  | some (b, n) => (s.modS fun x => { x with range := none }).resolveTo ((b + n + 65535) % 65536)
  | none => s

/-- A header with a failed CRC (R392). -/
def State.headerBad (s : State) : State := s.headerLost.ridgeErr 24

/-- HEADER_RECEIVE (R368). -/
def execHeaderReceive (bytes : List Byte) (s : State) : Out :=
  if !s.slaveOn then ok s
  else
    match linkBody 24 bytes with
    | none => ok s.headerBad
    | some b =>
      if leAt b 0 2 ≠ 0x0148 then ok s
      else
        match s.ridge.s.edge with
        | some (t, e) =>
          if s.ticks ≤ t + 40 then ok ((s.acceptTick e (w32 (leAt b 4 4)) (s.ticks - t)).takeHeader b true)
          else ok ((s.modS fun x => { x with edge := none }).takeHeader b false)
        | none => ok (s.takeHeader b false)

/-- HEADER_CRC_FAIL (R392). -/
def execHeaderCrcFail (bytes : List Byte) (s : State) : Out :=
  if s.slaveOn && (linkBody 24 bytes).isNone then ok s.headerBad else ok s

/-! ### Untimed commands (R370, R379, R381, R383, R391) -/

/-- ADMIT of a UID as node n: the croaking device itself, or the SHADOW of the named partner. -/
def State.takeAdmit (s : State) (uid : BitVec 64) (n : Nat) : State :=
  if n = 0 ∨ 31 < n then s
  else if s.ridge.lstate = .croaking ∧ uid = s.uid ∧ s.slaveDrives then
    (s.modRidge fun r => { r with lstate := .joining, node := n }).modS fun x =>
      { x with joinFr := 0, waitAns := none, fromSeq := match x.range with | some (b, _) => b | none => x.fromSeq }
  else if s.ridge.lstate = .paired ∧ s.pair.partner.isSome ∧ uid = s.puid then s.modRidge fun r => { r with node := n }
  else s

/-- RIDGE_ADMIT (R383). -/
def execRidgeAdmit (uid : BitVec 64) (n : Nat) (s : State) : Out := if s.slaveOn then ok (s.takeAdmit uid n) else ok s

/-- REJECT of this device's UID: no croak for 10,000 frames. -/
def State.takeReject (s : State) (uid : BitVec 64) : State :=
  if s.ridge.lstate = .croaking ∧ uid = s.uid then
    (s.enterCroaking.modS fun x => { x with backoff := 10000 }).ridgeEvt 7
  else s

/-- RIDGE_REJECT (R381). -/
def execRidgeReject (uid : BitVec 64) (s : State) : Out := if s.slaveOn then ok (s.takeReject uid) else ok s

/-- The device has been given a node number. -/
def State.hasNode (s : State) : Bool :=
  decide (s.ridge.node ≠ 0) &&
    (decide (s.ridge.lstate = .joining) || decide (s.ridge.lstate = .admitted) || decide (s.ridge.lstate = .paired))

/-- DELAY d: the phase slews from the delay applied before to d (R370). -/
def State.takeDelay (s : State) (d : Nat) : State :=
  let e : Int := (d % 65536 : Nat) - (s.regFld Reg.ridgeDly 0 16 : Nat)
  ((s.slewBy (s.tb.slew + 2 * e)).setReg Reg.ridgeDly (w32 (d % 65536))).modS fun x => { x with dlyOk := true }

/-- RIDGE_DELAY (R370). -/
def execRidgeDelay (d : Nat) (s : State) : Out := if s.slaveOn && s.hasNode then ok (s.takeDelay d) else ok s

/-- REG_READ: the answer goes into the next reply, without read side effects. -/
def State.takeRegRead (s : State) (a : Nat) : State :=
  let (w, t) := if a % 4 = 0 then s.portRead .ridge false a else (0, s)
  t.modS fun x => { x with data := w, dvalid := true }

/-- RIDGE_REG_READ (R379). -/
def execRidgeRegRead (addr : Nat) (s : State) : Out :=
  if s.slaveDrives && s.slaveAdmitted then ok (s.takeRegRead (addr % 65536)) else ok s

/-- RIDGE_REG_WRITE (R379). -/
def execRidgeRegWrite (addr : Nat) (v : Word) (s : State) : Out :=
  if s.slaveDrives && s.slaveAdmitted && decide (addr % 4 = 0) then ok (s.portWrite .ridge (addr % 65536) v) else ok s

/-! ### Bursts (R364, R375) -/

/-- A command from its twelve bytes. -/
def cmdOf (b : List Byte) : RidgeCmd :=
  { op := leAt b 0 1, dst := leAt b 1 1, cseq := leAt b 2 2, arg0 := w32 (leAt b 4 4), arg1 := w32 (leAt b 8 4) }

/-- An untimed command acts at its first receipt. -/
def State.actNow (s : State) (c : RidgeCmd) : State :=
  let uid : BitVec 64 := c.arg1 ++ c.arg0
  let own := s.hasNode && decide (c.dst = s.ridge.node)
  let reg := own && s.slaveDrives && s.slaveAdmitted && cseqFrom c.cseq s.ridge.s.fromSeq
  match c.op with
  | 0x20 => s.takeAdmit uid c.dst
  | 0x21 => if c.dst = 0x3E then s.takeReject uid else s
  | 0x22 => if own then s.takeDelay (fld c.arg0 0 16) else s
  | 0x23 => if reg then s.takeRegRead (fld c.arg0 0 16) else s
  | 0x24 => if reg && decide (fld c.arg0 0 2 = 0) then s.portWrite .ridge (fld c.arg0 0 16) c.arg1 else s
  | _ => s

/-- A timed command waits for T: with its node's other commands, or on a SHADOW in the held list. A START or STOP replaces the pending
one, whichever way that came (R276). -/
def State.keepTimed (s : State) (c : RidgeCmd) : State :=
  let one (l : List RidgeCmd) : List RidgeCmd := if c.op ≤ 2 then l.filter (fun x => decide (x.op ≠ c.op)) ++ [c] else l ++ [c]
  if s.isShadow then s.modPair fun p => { p with held := one p.held }
  else
    let s := s.modSeq fun q =>
      { q with pendStart := if c.op = 1 then none else q.pendStart, pendStop := if c.op = 2 then none else q.pendStop }
    s.modS fun x => { x with timed := one x.timed }

/-- A timed command for this unit: broadcast or its own node, admitted, not before its admission. The SHADOW of node 0 takes
broadcasts (R390). -/
def State.takesTimed (s : State) (c : RidgeCmd) : Bool :=
  if s.isRole .mst then decide (c.dst = dstAll)
  else s.slaveAdmitted && cseqFrom c.cseq s.ridge.s.fromSeq && (decide (c.dst = dstAll) || decide (c.dst = s.ridge.node))

/-- One intact command of a burst: each `CSEQ` once; a late timed one is discarded and counts as missed. -/
def State.takeCmd (s : State) (c : RidgeCmd) : State :=
  if s.ridge.s.seen.contains c.cseq then s
  else if timedOp c.op && s.takesTimed c && s.tooLate c.arg0 100 then s.ridgeEvt 11
  else
    let s := s.modS fun x => { x with seen := (c.cseq :: x.seen).take 256 }
    if timedOp c.op then (if s.takesTimed c then s.keepTimed c else s)
    else if s.isRole .slv then s.actNow c
    else s

/-- The commands of a burst, sixteen bytes each. -/
def State.takeCmds : Nat → List Byte → State → State
  | 0, _, s => s
  | n + 1, l, s =>
    if l.length < 16 then s
    else
      let s := match crcBody 12 (l.take 16) with | some b => s.takeCmd (cmdOf b) | none => s.ridgeErr 16
      State.takeCmds n (l.drop 16) s

/-- BURST_RECEIVE (R375). -/
def execBurstReceive (wire : List Byte) (s : State) : Out :=
  let bytes := (linkRx wire).getD []
  let n := leAt bytes 1 1
  let good := (decide (leAt bytes 0 1 = 0x41) || decide (leAt bytes 0 1 = 0x42)) && decide (n + leAt bytes 2 1 = 255) && decide (n ≤ 8) &&
    decide (4 ≤ bytes.length)
  if (s.slaveOn || (s.isRole .mst && s.isShadow)) && good then ok (State.takeCmds n (bytes.drop 4) s) else ok s

/-! ### Launches (R378, R412) -/

/-- The kept command of an opcode that launches now: it is due, none of its opcode lies before it, and no pending sequence command lies
before a sequence command (R276). -/
def State.dueCmd (s : State) (op : Nat) : Option RidgeCmd :=
  s.ridge.s.timed.find? fun c =>
    decide (c.op = op) && s.due c.arg0 && !(s.ridge.s.timed.any fun x => decide (x.op = op) && before x.arg0 c.arg0) &&
      (decide (4 < op) || s.launchDue c.arg0)

/-- The state without a kept command. -/
def State.dropTimed (s : State) (c : RidgeCmd) : State := s.modS fun x => { x with timed := x.timed.erase c }

/-- The command of an opcode launches, if one is due, the sequencer of this unit runs and its clock does not stand. -/
def State.launchCmd (s : State) (op : Nat) (f : RidgeCmd → State → State) : Out :=
  match s.dueCmd op with
  | some c => if s.seqRuns && s.coreRuns then ok (f c (s.dropTimed c)) else ok s
  | none => ok s

/-- RIDGE_START (R378); a STOP of the same instant leaves only the STOP (R276). -/
def execRidgeStart (s : State) : Out :=
  s.launchCmd 1 fun c t => if t.stopAtSame c.arg0 then t else t.startAt c.arg0 false true

/-- RIDGE_STOP (R378). -/
def execRidgeStop (s : State) : Out :=
  s.launchCmd 2 fun c t => (t.dropStarts c.arg0).stopAt c.arg0

/-- RIDGE_GRP_START (R378). -/
def execRidgeGrpStart (s : State) : Out := s.launchCmd 3 fun c t => t.grpStartAt c.arg0 (fld c.arg1 0 3)

/-- RIDGE_GRP_STOP (R378). -/
def execRidgeGrpStop (s : State) : Out := s.launchCmd 4 fun c t => t.grpStopAt c.arg0 (fld c.arg1 0 3)

/-- The grant a GRANT command carries. -/
def grantOf (c : RidgeCmd) : Grant := { t := c.arg0, len := fld c.arg1 24 8, mask := BitVec.ofNat 24 (fld c.arg1 0 24) }

/-- RIDGE_GRANT (R412): on a SHADOW the held GRANT moves only the AND rails (R439). -/
def execRidgeGrant (s : State) : Out :=
  if s.isShadow then
    match s.pair.held.find? fun c => decide (c.op = 5) && s.due c.arg0 with
    | some c => ok ((s.modPair fun p => { p with held := p.held.erase c }).shadowGrant (some (grantOf c)))
    | none => ok s
  else s.launchCmd 5 fun c t => t.launchGrant (grantOf c)

/-- RIDGE_EVENT (R378): the fabric source of event n pulses. -/
def execRidgeEvent (s : State) : Out := s.launchCmd 6 fun c t => t.pulse (0xB0 + fld c.arg1 0 4)

/-- RIDGE_MARGIN (R378): as a write of `MRG_CTRL` (R320). -/
def execRidgeMargin (s : State) : Out := s.launchCmd 7 fun c t => t.marginCmd (fld c.arg1 8 2) (fld c.arg1 0 8)

/-- RIDGE_RESET (R378): only with its key, and never on the master. -/
def execRidgeReset (s : State) (co : List RstSource := []) : Out :=
  s.launchCmd 8 fun c t => if c.arg1 = 0xC1A00001#32 ∧ t.isRole .slv then t.raiseWith (plainReq .ridge) co else t

/-! ### Replies and croaks (R365, R366, R376, R381) -/

/-- `TB_NOW` has just come to offset x of the frame that began k frames after the last header's, for k = 0 or, with `later`, any k; nothing
has been sent since (R361, R367). -/
def State.slotNow (s : State) (x : Nat) (later : Bool) : Bool :=
  match s.ridge.s.rtime with
  | some t =>
    let o := (s.tb.now - t).toNat
    let o := if later then o % 1000 else o
    decide (x ≤ o) && decide (o ≤ x + 1) && s.passed s.ridge.txAt 2
  | none => false

/-- `STATE` of a reply. -/
def State.replyState (s : State) : Nat :=
  s.seq.state.code + 8 * b2n s.react.lockout + 16 * b2n s.ridge.tlock + 32 * b2n s.ridge.s.dvalid + 64 * min 3 s.react.sysCnt

/-- The node answers in its slot: admitted, or joining since an earlier frame (Table 11-9), never a SHADOW; 1.0 µs after the start of the
slot (R367). -/
def State.replyNow (s : State) : Bool :=
  s.slaveDrives && decide (s.ridge.node ≠ 0) &&
    (decide (s.ridge.lstate = .admitted) || (decide (s.ridge.lstate = .joining) && decide (1 ≤ s.ridge.s.joinFr))) &&
    s.slotNow (141 + 19 * (s.ridge.node - 1)) true

/-- REPLY_SEND (R376): the REG_READ answer goes once. -/
def execReplySend (s : State) : Out :=
  if s.replyNow then
    let x := s.ridge.s
    let b := [b8 s.ridge.session.toNat, b8 s.replyState, b8 s.seq.grpDown.toNat, b8 x.ract.toNat] ++ leBytes 2 x.rxSeq ++
      leBytes 2 x.missmap.toNat ++ leBytes 2 x.evt.toNat ++ leBytes 4 x.data.toNat
    ok ((s.modRidge fun r => { r with tx := linkTx (withCrc b), txAt := s.ticks }).modS fun y => { y with data := 0, dvalid := false })
  else ok s

/-- A croak may start: 1.0 µs into croak slot c of this frame, which the header showed open, and which is the slot drawn, if one is
(R367, R381). -/
def State.slotOpen (s : State) : Bool :=
  [false, true].any fun c =>
    s.ridge.s.slots.getLsbD (b2n c) && (match s.ridge.s.slotSel with | some b => b == c | none => true) && s.slotNow (730 + 30 * b2n c) false

/-- CROAK_SEND (R381). -/
def execCroakSend (s : State) : Out :=
  let x := s.ridge.s
  if s.slaveDrives && decide (s.ridge.lstate = .croaking) && decide (x.backoff = 0) && x.waitAns.isNone && s.slotOpen then
    let two := s.role.pair && s.pair.partner.isSome
    let tries := min 255 (x.tries + 1)
    let b := [b8 0x43, b8 (b2n two + 2 * b2n (decide (x.pref ≠ 0))), b8 x.pref, b8 tries] ++ leBytes 8 s.uid.toNat ++
      leBytes 8 (if two then s.puid.toNat else 0) ++ leBytes 8 s.svc.certh.toNat
    ok ((s.modRidge fun r => { r with tx := linkTx (withCrc b), txAt := s.ticks }).modS fun y => { y with tries := tries, waitAns := some 0 })
  else ok s

/-- CROAK_ANSWER_TIMEOUT (R381): the two frames after the croak's own have passed; a new backoff and slot are drawn. -/
def execCroakAnswerTimeout (s : State) : Out :=
  if s.slaveOn && decide (s.ridge.lstate = .croaking) && (match s.ridge.s.waitAns with | some k => decide (3 ≤ k) | none => false) then
    let (r, t) := s.takeRandom 2
    let a := min t.ridge.s.tries 6
    ok (t.modS fun x => { x with waitAns := none, backoff := leAt r 0 1 % 2 ^ a, slotSel := some (decide (leAt r 1 1 % 2 = 1)) })
  else ok s

/-- LOCK_TICK_TIMEOUT (R380). -/
def execLockTickTimeout (s : State) : Out :=
  if s.slaveOn && decide (s.ridge.lstate = .locking) && s.passed s.ridge.s.lastTick 5000 then ok s.toListen else ok s

/-- JOINING_TIMEOUT (R380): the header of the twelfth frame after the ADMIT has passed. -/
def execJoiningTimeout (s : State) : Out :=
  let past := match s.ridge.s.rtime with | some t => decide (29 ≤ (s.tb.now - t).toNat % 1000) | none => true
  if s.slaveOn && decide (s.ridge.lstate = .joining) && (decide (13 ≤ s.ridge.s.joinFr) || (decide (12 ≤ s.ridge.s.joinFr) && past)) then
    ok s.enterCroaking
  else ok s

/-! ### Master loss (R387) -/

/-- `LOSS_ACT`; the reserved code counts as HOLD (R6). -/
def State.lossAct (s : State) : Nat := let v := s.regFld Reg.ridgeCfg 12 2; if v = 3 then 0 else v

/-- What `LOSS_ACT` does to the pending commands, the budgeted rails and the sequencer (Table 11-10). -/
def State.lossAction (s : State) : State :=
  if s.lossAct = 2 then s
  else
    let s := (s.modS fun x => { x with timed := [] }).modPair fun p => { p with held := [] }
    let s := if s.isShadow then s.shadowGrant none else s.dropGrants
    if s.lossAct = 1 ∧ s.seqRuns ∧ (s.seq.state = .rising ∨ s.seq.state = .up) then s.enterFalling s.tb.now false else s

/-- MASTER_LOSS (R387): `RIDGE_MASTER_LOST` until the next admission. -/
def execMasterLoss (s : State) : Out :=
  let locked := match s.ridge.lstate with | .croaking | .joining | .admitted | .paired => true | _ => false
  if s.slaveOn && locked && s.passed s.ridge.s.lastTick 5000 then
    ok (((s.toListen.modRidge fun r => { r with mlost := true }).showNode 0).lossAction.ridgeEvt 3)
  else ok s

/-! ### The microsecond of the link (R361, R376) -/

/-- The slave's microsecond, from a `TB_NOW` of `old`: frames begin, and once burst B has passed the frame's commands are resolved. -/
def State.slaveTick (s : State) (old : BitVec 32) : State :=
  match s.ridge.s.rtime with
  | some t =>
    if !s.slaveOn then s
    else
      let a := (old - t).toNat
      let b := (s.tb.now - t).toNat
      let s := if a / 1000 < b / 1000 ∧ b < 2 ^ 31 then s.passFrameS else s
      if a < 898 ∧ 898 ≤ b ∧ b < 2 ^ 31 then
        (match s.ridge.s.range with | some (base, n) => s.resolveTo ((base + n + 65535) % 65536) | none => s)
      else s
  | none => s

/-- The Ridge controller's microsecond. -/
def State.ridgeTick (s : State) (old : BitVec 32) : State := if s.isRole .mst then s.masterTick old else s.slaveTick old

/-! ### Fabric and host (R389, R392, R393) -/

/-- RIDGE_TX_EDGE (R389): the slave's `EVT` bit toggles, or the master issues an EVENT. -/
def execRidgeTxEdge (n : Nat) (s : State) : Out :=
  match s.takeEdges (· = 0x38 + n % 16) with
  | some (_, t) =>
    if t.isShadow then ok t
    else if t.isRole .slv then ok (t.modS fun x => { x with evt := x.evt ^^^ BitVec.ofNat 16 (2 ^ (n % 16)) })
    else if t.mstDrives then ok (t.issueEvent (n % 16))
    else ok t
  | none => ok s

/-- RIDGE_HCMD_WRITE (R392). -/
def execRidgeHcmdWrite (p : Port) (v : Word) (s : State) : Out := ok (s.access p Reg.ridgeHcmd v)

/-- PROXY_READ (R393): a write of `RIDGE_PX_CTRL`. -/
def execProxyRead (p : Port) (v : Word) (s : State) : Out := ok (s.access p Reg.ridgePxCtrl v)

/-- PROXY_WRITE (R393): a write of `RIDGE_PX_CTRL`. -/
def execProxyWrite (p : Port) (v : Word) (s : State) : Out := ok (s.access p Reg.ridgePxCtrl v)

/-- NODE_FORGET (R392): a write of `RIDGE_NT_CTRL`. -/
def execNodeForget (p : Port) (v : Word) (s : State) : Out := ok (s.access p Reg.ridgeNtCtrl v)

end Sys2Proof.Machine
end

