-- ==== Sys2Proof/Machine/ChainExec.lean ====
section
/-! DEFINITION. READ and WRITE at an addressed stack unit (spec/14_stack_role.md R460 to R464), and the chain commands of a port
(R472, R473). -/

namespace Sys2Proof.Machine

/-- Registers a READ or WRITE covers. -/
def chainRegs (reg cnt : Nat) : List Nat := (List.range cnt).map fun i => reg + 4 * i

/-- `STATUS` of a READ or WRITE: 2 BADCNT, 1 BADREG, 0 OK. -/
def chainStatus (cnt reg : Nat) : Nat :=
  if cnt = 0 ∨ 16 < cnt then 2 else if reg % 4 ≠ 0 ∨ 0x10000 < reg + 4 * cnt then 1 else 0

/-- The unit replies on D and keeps the command's body and the reply (R464). -/
def State.chainReply (s : State) (b : List Byte) (status : Nat) (data : List Byte) : State :=
  let r := chainFrame ([b8 (leAt b 0 1 + 0x80), b8 s.role.addr, b8 (leAt b 2 1), b8 status, b8 s.uflags, b8 (leAt b 3 1)] ++ data)
  (s.modUnit fun u => { u with lastCmd := some b, lastReply := r }).passFrame false r

/-- A READ: all words sampled in one cycle, then their side effects; with PEEK nothing clears. -/
def State.unitRead (s : State) (b : List Byte) : State :=
  let cnt := leAt b 3 1 % 32
  let reg := leAt b 4 2
  let clear := decide (leAt b 3 1 < 128)
  if chainStatus cnt reg ≠ 0 then s.chainReply b (chainStatus cnt reg) []
  else
    let l := chainRegs reg cnt
    let words := l.map fun a => (s.portRead .chain clear a).1
    (l.foldl (fun (t : State) a => (t.portRead .chain clear a).2) s).chainReply b 0 (wordBytes words)

/-- A WRITE: every word as a host write, in one cycle. One that resets the unit takes its address, and with it the reply (R456). -/
def State.unitWrite (s : State) (b : List Byte) : State :=
  let cnt := leAt b 3 1 % 32
  let reg := leAt b 4 2
  if chainStatus cnt reg ≠ 0 then s.chainReply b (chainStatus cnt reg) []
  else
    let t := ((chainRegs reg cnt).zip (bytesWords (b.drop 6))).foldl (fun (t : State) e => t.portWrite .chain e.1 e.2) s
    if t.addressed then t.chainReply b 0 [] else t

/-- The body has the length its count gives. -/
def chainLength (b : List Byte) (write : Bool) : Bool :=
  let cnt := leAt b 3 1 % 32
  decide (b.length = 6 + (if write && decide (1 ≤ cnt) && decide (cnt ≤ 16) then 4 * cnt else 0)) ||
    (write && (decide (cnt = 0) || decide (16 < cnt)))

/-- An addressed command of a type on D: repeated onto U, and taken once when it names this unit (R462 to R464). -/
def State.takeAddressed (s : State) (write : Bool) (bytes : List Byte) (f : State → List Byte → State) : Out :=
  if !s.unitHears bytes then ok s
  else
    match chainBody bytes with
    | none => ok (if s.addressed then (s.passFrame true bytes).unitCrcErr else s.unitCrcErr)
    | some b =>
      let t := s.unitFrame
      if !t.addressed then ok t
      else
        let t := t.passFrame true bytes
        if leAt b 0 1 ≠ (if write then 0x11 else 0x10) ∨ leAt b 1 1 ≠ t.role.addr ∨ !chainLength b write then ok t
        else if t.unit.lastCmd = some b then ok (t.passFrame false t.unit.lastReply)
        else ok (f t b)

/-- CHAIN_READ (R463). -/
def execChainRead (bytes : List Byte) (s : State) : Out := s.takeAddressed false bytes State.unitRead

/-- CHAIN_WRITE (R463). -/
def execChainWrite (bytes : List Byte) (s : State) : Out := s.takeAddressed true bytes State.unitWrite

/-! ### Commands of a chain master -/

/-- STACK_PROXY_READ (R472): a write of `STACK_PX_CTRL`. -/
def execStackProxyRead (p : Port) (v : Word) (s : State) : Out := ok (s.access p Reg.stackPxCtrl v)

/-- STACK_PROXY_WRITE (R472): a write of `STACK_PX_CTRL`. -/
def execStackProxyWrite (p : Port) (v : Word) (s : State) : Out := ok (s.access p Reg.stackPxCtrl v)

/-- PORT_WAKE_ENUM (R473): a write of `STACK_PORT_CTRL`. -/
def execPortWakeEnum (p : Port) (v : Word) (s : State) : Out := ok (s.access p Reg.stackPortCtrl v)

/-- PORT_ENUM (R473): a write of `STACK_PORT_CTRL`. -/
def execPortEnum (p : Port) (v : Word) (s : State) : Out := ok (s.access p Reg.stackPortCtrl v)

/-- PORT_SLEEP (R473): a write of `STACK_PORT_CTRL`. -/
def execPortSleep (p : Port) (v : Word) (s : State) : Out := ok (s.access p Reg.stackPortCtrl v)

/-- PORT_BALOFF (R473): a write of `STACK_PORT_CTRL`. -/
def execPortBaloff (p : Port) (v : Word) (s : State) : Out := ok (s.access p Reg.stackPortCtrl v)

/-- PORT_SNAP (R473): a write of `STACK_PORT_CTRL`. -/
def execPortSnap (p : Port) (v : Word) (s : State) : Out := ok (s.access p Reg.stackPortCtrl v)

end Sys2Proof.Machine
end

