-- ==== Sys2Proof/Machine/HostExec.lean ====
section
/-! DEFINITION. Host transactions on SPI and I²C and the write queue (spec/15_host_interface.md R479 to R493, R501). Reply layouts are
those of Tables 15-3 and 15-4. -/

namespace Sys2Proof.Machine

/-! ### Header of a transaction (R481, R482, R487) -/

/-- The parts of a transaction's header. -/
structure HostHead where
  crc   : Bool
  fix   : Bool
  n     : Nat
  addr  : Nat
  deriving DecidableEq, Repr

/-- Bytes in front of `CMD`: the I²C address byte. -/
def preLen : HostBus → Nat | .spi => 0 | .i2c => 1

/-- Length of a CRC on a bus. -/
def crcLen : HostBus → Nat | .spi => 2 | .i2c => 1

/-- The CRC of a bus over bytes, as sent (R487). -/
def busCrc (bus : HostBus) (l : List Byte) : List Byte :=
  match bus with
  | .spi => beBytes 2 (crc16 l)
  | .i2c => [b8 (crc8 l)]

/-- `RD` of a transaction; none before its `CMD`. -/
def hostDir (bus : HostBus) (l : List Byte) : Option Bool := (l[preLen bus]?).map fun c => decide (128 ≤ c.toNat)

/-- The header, once its address has arrived. -/
def hostHead (bus : HostBus) (l : List Byte) : Option HostHead :=
  let h := l.drop (preLen bus)
  if h.length < 3 then none
  else
    let c := leAt h 0 1
    some { crc := decide (c / 64 % 2 = 1), fix := decide (c / 32 % 2 = 1), n := c % 32 + 1, addr := leAt h 1 1 * 256 + leAt h 2 1 }

/-- Addresses of the words of a transaction. -/
def HostHead.regs (h : HostHead) : List Nat := (List.range h.n).map fun i => if h.fix then h.addr else h.addr + 4 * i

/-- Reads that pass without a CRC (R482). -/
def diagReg (a : Nat) : Bool := bootReg a || decide (a = Reg.sysHifStat)

/-- Why a transaction is refused as a whole (Table 15-2): 5 BUSY, 3 ALIGN, 4 RANGE, 7 NOCRC; 0: it is not. -/
def State.hostRefuses (s : State) (h : HostHead) (read : Bool) : Nat :=
  if !s.hif.queue.isEmpty then 5
  else if h.addr % 4 ≠ 0 then 3
  else if !h.fix && decide (0xFFFC < h.addr + 4 * (h.n - 1)) then 4
  else if !h.crc && s.regBit Reg.sysHifCfg 0 && s.running && !(read && h.regs.all diagReg) then 7
  else 0

/-! ### Transaction ends (R486, R489) -/

/-- A transaction ends with a code. -/
def State.hifEnd (s : State) (err : Nat) : State :=
  s.modHif fun h =>
    { h with lastErr := BitVec.ofNat 4 err, errf := h.errf || decide (err ≠ 0),
             crcErr := if err = 1 then min 0xFF (h.crcErr + 1) else h.crcErr,
             othErr := if err ≠ 0 ∧ err ≠ 1 then min 0xFF (h.othErr + 1) else h.othErr }

/-- A queued word meets an error after the end of its transaction; the transaction's first error stands (R486). A transaction refused
for BUSY meanwhile stays the last one. -/
def State.hifLate (s : State) (err : Nat) : State :=
  if s.hif.qErr then s
  else (s.hifEnd err).modHif fun h => { h with qErr := true, lastErr := if s.hif.lastErr = 0 then h.lastErr else s.hif.lastErr }

/-- The SPI status byte (R489). -/
def State.spiStat (s : State) : Byte :=
  b8 (128 * b2n s.irqN + 64 * b2n (!s.hif.queue.isEmpty) + 32 * b2n s.running + 16 * b2n (s.isRole .slv || s.isShadow) +
    s.hif.lastErr.toNat)

/-- The bus the strap selects. -/
def State.hostBus (s : State) : HostBus := if s.pins.strapIf then .i2c else .spi

/-- The I²C address byte with R/W = 0 (R491). -/
def State.i2cAw (s : State) : Nat := 2 * (0x68 + s.pins.strapAdr.toNat)

/-- A transaction addresses this device: the selected bus, and its own address on I²C. -/
def State.hostSelected (s : State) (bus : HostBus) (l : List Byte) : Bool :=
  decide (bus = s.hostBus) && (decide (bus = .spi) || decide (leAt l 0 1 = s.i2cAw))

/-- A transaction that finds the device in DOZE wakes it and is not answered (R109); one that finds it not ready is not answered. -/
def State.hostUnready (s : State) : State :=
  let t := s.modHif fun h => { h with tx := [], nack := true }
  if s.pwr.doze && !s.pwr.waking && s.wakeOpen .hostAccess then t.dozeWake .hostAccess else t

/-- What the device put on the bus, and whether it left an I²C byte unacknowledged. -/
def State.hifSent (s : State) (l : List Byte) (nack : Bool) : State := s.modHif fun h => { h with tx := l, nack := nack }

/-! ### Reads (R483, R488, R491) -/

/-- The word at a is wrapped in block reset (R142). -/
def State.hostBlk (s : State) (a : Nat) : Bool := (s.reach .host a).isSome && s.blkErr a

/-- Words sampled one after the other, with whether one met ERR_BLKRST. -/
def State.sampleWords : List Nat → State → List Word × Bool × State
  | [], s => ([], false, s)
  | a :: l, s =>
    let (w, t) := s.portRead .host true a
    let (ws, b, u) := State.sampleWords l t
    (w :: ws, s.hostBlk a || b, u)

/-- The reply after header and turnaround: data, and with CRC the `TSTAT` and the CRC. -/
def hostReply (bus : HostBus) (crc : Bool) (ar : List Byte) (data : List Byte) (tstat : Nat) : List Byte :=
  let body := data ++ [b8 tstat]
  if !crc then data else body ++ busCrc bus (match bus with | .spi => body | .i2c => ar ++ body)

/-- The device's bytes of a read: on SPI from `STAT` on, on I²C the reply; beyond the end 0x00 or 0xFF. -/
def readBytes (bus : HostBus) (stat : Byte) (crc : Bool) (reply : List Byte) (got : Nat) : List Byte :=
  match bus with
  | .spi => ([stat] ++ List.replicate (if crc then 5 else 3) 0) ++ (reply ++ List.replicate (got - reply.length) 0).take got
  | .i2c => (reply ++ List.replicate (got - reply.length) 0xFF).take got

/-- A read whose header is complete; `got`: reply bytes the host takes after header and turnaround. -/
def State.hostRead (s : State) (bus : HostBus) (l : List Byte) (h : HostHead) (got : Nat) : State :=
  let stat := s.spiStat
  let k := preLen bus + 3 + (if h.crc then crcLen bus else 0)
  let bad := h.crc && decide ((l.take k).drop (preLen bus + 3) ≠ busCrc bus (l.take (preLen bus + 3)))
  let ar := l.drop k
  let full := 4 * h.n + (if h.crc then 1 + crcLen bus else 0)
  let zeros := List.replicate (4 * h.n) (0 : Byte)
  let code := s.hostRefuses h true
  if l.length < k then (s.hifSent [stat] false).hifEnd (if code ≠ 0 then code else 2)
  else if code ≠ 0 ∨ bad then
    let err := if code ≠ 0 then code else 1
    match bus with
    | .spi => (s.hifSent (readBytes bus stat h.crc (hostReply bus h.crc [] zeros err) got) false).hifEnd err
    | .i2c => (s.hifSent [] true).hifEnd err
  else if bus = .i2c ∧ ar ≠ [b8 (s.i2cAw + 1)] then (s.hifSent [] false).hifEnd 2
  else
    let (ws, blk, t) := State.sampleWords (h.regs.take ((got + 3) / 4)) s
    let data := ws.flatMap (fun w => beBytes 4 w.toNat)
    let err := if blk then 6 else if got < full then 2 else 0
    let reply := hostReply bus h.crc ar (data ++ zeros.drop data.length) (if blk then 6 else 0)
    (t.hifSent (readBytes bus stat h.crc reply got) false).hifEnd err

/-- An I²C transaction that begins with this device's address and R/W = 1: no read header stands before it (R492). -/
def State.loneRead (s : State) (bus : HostBus) (l : List Byte) : Bool :=
  decide (bus = .i2c) && decide (s.hostBus = .i2c) && decide (leAt l 0 1 = s.i2cAw + 1)

/-- HOST_READ_TRANSACTION (R483). A read without its header is not acknowledged and has no effect (R492). -/
def execHostReadTransaction (bus : HostBus) (bytes : List Byte) (got : Nat) (s : State) : Out :=
  if s.loneRead bus bytes then ok (if s.hifOn then s.hifSent [] true else s.hostUnready)
  else if !s.hostSelected bus bytes || decide (hostDir bus bytes = some false) then ok s
  else if !s.hifOn then ok s.hostUnready
  else if bus = .i2c ∧ !s.hif.queue.isEmpty then ok ((s.hifSent [] true).hifEnd 5)
  else
    match hostHead bus bytes with
    | none => ok ((s.hifSent [s.spiStat] false).hifEnd (if s.hif.queue.isEmpty then 2 else 5))
    | some h => ok (s.hostRead bus bytes h got)

/-! ### Writes and the queue (R484, R501) -/

/-- Words enter the queue with a new transaction number. -/
def State.enqueue (s : State) (l : List (Nat × Word)) : State :=
  if l.isEmpty then s
  else s.modHif fun h =>
    { h with txn := h.txn + 1, waitAt := s.ticks, queue := h.queue ++ l.map fun e => { addr := e.1, val := e.2, txn := h.txn + 1 } }

/-- The front word waits for the host's NVM window. -/
def State.queueWaits (s : State) : Bool :=
  match s.hif.queue with
  | q :: _ => decide (q.addr = Reg.nvmData) && s.nvm.winHost.posted.isSome
  | [] => false

/-- The queue applies its front word. -/
def State.queueApply (s : State) : State :=
  match s.hif.queue with
  | q :: rest =>
    if s.queueWaits || !s.coreRuns then s
    else
      let t := s.modHif fun h => { h with queue := rest, waitAt := s.ticks }
      let t := if s.hostBlk q.addr then t.hifLate 6 else t
      t.portWrite .host q.addr q.val
  | [] => s

/-- The queue drains as far as it does without a wait. -/
def State.queueDrain (s : State) : State := (List.range 32).foldl (fun t _ => t.queueApply) s

/-- The words of a transaction up to a `RST_CMD` enter the queue; that word acts when a transaction without an error has ended, and
the words behind it are discarded. -/
def State.takeWords (s : State) (l : List (Nat × Word)) (err : Nat) : State :=
  let before := l.takeWhile fun e => decide (e.1 ≠ Reg.rstCmd)
  let s := ((s.enqueue before).hifEnd err).modHif fun h => { h with qErr := decide (err ≠ 0) }
  match l.drop before.length with
  | e :: _ => if err = 0 then s.queueDrain.portWrite .host e.1 e.2 else s
  | [] => s

/-- Words from bytes, most significant byte first; a partial word is discarded (R481, R490). -/
def hostWords : List Byte → List Word
  | a :: b :: c :: d :: t => w32 (ofBe [a, b, c, d]) :: hostWords t
  | _ => []

/-- A write whose header is complete. -/
def State.hostWrite (s : State) (bus : HostBus) (l : List Byte) (h : HostHead) : State :=
  let stat := s.spiStat
  let data := l.drop (preLen bus + 3)
  let code := s.hostRefuses h false
  let spi (n : Nat) : List Byte := match bus with | .spi => stat :: List.replicate n 0 | .i2c => []
  let words (d : List Byte) : List (Nat × Word) := h.regs.zip (hostWords (d.take (4 * h.n)))
  if code ≠ 0 then (s.hifSent (spi (l.length - 1)) (decide (bus = .i2c))).hifEnd code
  else if !h.crc then
    (s.hifSent (spi (l.length - 1)) (decide (bus = .i2c) && decide (4 * h.n < data.length))).takeWords (words data)
      (if data.length < 4 * h.n then 2 else 0)
  else
    let k := preLen bus + 3 + 4 * h.n
    let crc := (l.drop k).take (crcLen bus)
    let s := s.hifSent (spi (l.length - 1)) false
    if crc.length < crcLen bus then s.hifEnd 2
    else if crc ≠ busCrc bus (l.take k) then (s.modHif fun x => { x with nack := decide (bus = .i2c) }).hifEnd 1
    else s.takeWords (words data) 0

/-- HOST_WRITE_TRANSACTION (R484). -/
def execHostWriteTransaction (bus : HostBus) (bytes : List Byte) (s : State) : Out :=
  if !s.hostSelected bus bytes || decide (hostDir bus bytes = some true) then ok s
  else if !s.hifOn then ok s.hostUnready
  else if bus = .i2c ∧ !s.hif.queue.isEmpty then ok ((s.hifSent [] true).hifEnd 5)
  else
    match hostHead bus bytes with
    | none => ok ((s.hifSent [s.spiStat] false).hifEnd (if s.hif.queue.isEmpty then 2 else 5))
    | some h => ok (s.hostWrite bus bytes h)

/-- WRITE_QUEUE_APPLY (R484). -/
def execWriteQueueApply (s : State) : Out := ok s.queueApply

/-- WRITE_QUEUE_WAIT_TIMEOUT (R484): the word and the later words of its transaction are lost. -/
def execWriteQueueWaitTimeout (s : State) : Out :=
  match s.hif.queue with
  | q :: _ =>
    if s.queueWaits && s.passed s.hif.waitAt 60 then
      let t := s.modHif fun h => { h with queue := h.queue.filter fun x => decide (x.txn ≠ q.txn), waitAt := s.ticks }
      ok ((t.modWin .host fun w => { w with ovr := true }).hifLate 8)
    else ok s
  | [] => ok s

/-- I2C_STALL_TIMEOUT (R493): the addressed transaction ends with TRUNC. -/
def execI2cStallTimeout (s : State) : Out := if s.hifOn && decide (s.hostBus = .i2c) then ok (s.hifEnd 2) else ok s

end Sys2Proof.Machine
end

