-- ==== Sys2Proof/Machine/Svc.lean ====
section
/-! DEFINITION. The service port: USB requests, Suindelm messages, sessions, authentication, signed export and fuse programming
(spec/16_service_port_and_identity.md R504 to R536; USB suspend in bench mode spec/19_electrical_characteristics.md R559). -/

namespace Sys2Proof.Machine

/-! ### Sessions (R509) -/

/-- The session returns to VIEW; the nonce ends with it (R509, R520). -/
def State.toView (s : State) : State := s.modSvc fun v => { v with level := .view, devAuth := false, nonce := none }

/-- The session level is at least SERVICE. -/
def AccessLevel.above : AccessLevel → Bool
  | .view => false | .service => true | .factory => true

/-- `IDLE_TO` in µs (R509). -/
def State.idleTime (s : State) : Nat :=
  let t := s.regFld Reg.svcPolicy 16 16
  1000000 * (if t = 0 then 600 else t)

/-! ### The bus (R505, R506, R559) -/

/-- USB_ATTACH (R506): VBUSDET reaches 4.0 V. -/
def execUsbAttach (s : State) : Out :=
  if !s.supply.aon then ok s
  else
    let s := s.modSupply fun p => { p with vbus := true }
    ok (if s.usbOut then s.svcAttach else s)

/-- USB_SUSPEND (R506, R509, R559): in bench mode the PLL stops. -/
def execUsbSuspend (s : State) : Out :=
  if !s.svc.attached || s.svc.suspended then ok s
  else
    let s := (s.modSvc fun v => { v with suspended := true }).toView
    ok (if s.boot.bench then s.modClk fun c => { c with pllLock := false, armed := false } else s)

/-- USB_RESUME (R506, R559). -/
def execUsbResume (s : State) : Out :=
  if !s.svc.attached || !s.svc.suspended then ok s
  else
    let s := s.modSvc fun v => { v with suspended := false }
    ok (if s.boot.bench then s.modClk fun c => { c with pllLock := true, armed := true } else s)

/-- USB_BUS_RESET (R86, R509): the count of start-of-frame packets begins while `CLK_USB` is not yet trimmed. -/
def execUsbBusReset (s : State) : Out :=
  if !s.svc.attached then ok s
  else
    let s := (s.modSvc fun v => { v with suspended := false, usbAddr := 0, configured := false, dtr := false }).toView
    ok (if s.clk.sofTrim then s else s.modClk fun c => { c with sofCount := 0 })

/-- The answer to a control request; none: STALL. -/
def State.usbAnswer (s : State) (r : Option (List Byte)) : State := s.modSvc fun v => { v with usbTx := r }

/-- SET_LINE_CODING (R505): any value is accepted; a request of another length than seven bytes keeps the coding. -/
def execSetLineCoding (bytes : List Byte) (s : State) : Out :=
  if !s.usbOn then ok s
  else ok ((if bytes.length = 7 then s.modSvc fun v => { v with coding := bytes } else s).usbAnswer (some []))

/-- GET_LINE_CODING (R505). -/
def execGetLineCoding (s : State) : Out := if s.usbOn then ok (s.usbAnswer (some s.svc.coding)) else ok s

/-- SEND_BREAK (R505): accepted without effect. -/
def execSendBreak (s : State) : Out := if s.usbOn then ok (s.usbAnswer (some [])) else ok s

/-- SET_CONTROL_LINE_STATE (R505, R509): a falling DTR ends the session level. -/
def execSetControlLineState (dtr : Bool) (s : State) : Out :=
  if !s.usbOn then ok s
  else
    let fall := s.svc.dtr && !dtr
    let s := (s.modSvc fun v => { v with dtr := dtr }).usbAnswer (some [])
    ok (if fall then s.toView else s)

/-- UNSUPPORTED_CLASS_REQUEST (R505): STALL. The four CDC requests of R505 have rows of their own. -/
def execUnsupportedClassRequest (req : Byte) (s : State) : Out :=
  if s.usbOn && !(decide (0x20 ≤ req.toNat) && decide (req.toNat ≤ 0x23)) then ok (s.usbAnswer none) else ok s

/-! ### Descriptors (R504, Table 16-1) -/

/-- Bytes of small numbers. -/
def bytesOf (l : List Nat) : List Byte := l.map b8

/-- `idVendor` and `idProduct`. -/
def State.usbIds (s : State) : Nat × Nat :=
  let v := fld (s.fuseW 2) 0 16
  let p := fld (s.fuseW 2) 16 16
  (if v = 0 then 0x2E7A else v, if p = 0 then 0x2432 else p)

/-- The device descriptor. -/
def State.deviceDesc (s : State) : List Byte :=
  bytesOf [18, 1] ++ leBytes 2 0x0200 ++ bytesOf [2, 0, 0, 64] ++ leBytes 2 s.usbIds.1 ++ leBytes 2 s.usbIds.2 ++
    leBytes 2 0x00B1 ++ bytesOf [1, 2, 3, 1]

/-- Interface 0: ACM, with its functional descriptors and endpoint 0x81 (class-specific layout PRESUMED, log entry 23). -/
def acmDesc : List Byte :=
  bytesOf [9, 4, 0, 0, 1, 2, 2, 0, 0] ++ bytesOf [5, 0x24, 0, 0x10, 1] ++ bytesOf [5, 0x24, 1, 0, 1] ++ bytesOf [4, 0x24, 2, 2] ++
    bytesOf [5, 0x24, 6, 0, 1] ++ bytesOf [7, 5, 0x81, 3, 16, 0, 32]

/-- Interface 1: data, with endpoints 0x02 and 0x82. -/
def dataDesc : List Byte :=
  bytesOf [9, 4, 1, 0, 2, 0x0A, 0, 0, 0] ++ bytesOf [7, 5, 0x02, 2, 64, 0, 0] ++ bytesOf [7, 5, 0x82, 2, 64, 0, 0]

/-- The configuration descriptor with all that belongs to it, 67 bytes. -/
def State.configDesc (s : State) : List Byte :=
  bytesOf [9, 2, 67, 0, 2, 1, 0, (if s.boot.bench then 0x80 else 0xC0), 50] ++ acmDesc ++ dataDesc

/-- A string descriptor, UTF-16. -/
def stringDesc (l : List Nat) : List Byte := bytesOf [2 + 2 * l.length, 3] ++ l.flatMap fun c => bytesOf [c, 0]

/-- Character codes of a text. -/
def codesOf (t : String) : List Nat := t.toList.map Char.toNat

/-- n upper-case hexadecimal digits, most significant first. -/
def hexDigits (n v : Nat) : List Nat :=
  ((List.range n).map fun i => let d := v / 16 ^ i % 16; if d < 10 then 48 + d else 55 + d).reverse

/-- GET_DESCRIPTOR: type and index. -/
def State.descriptor (s : State) (type idx : Nat) : Option (List Byte) :=
  match type, idx with
  | 1, _ => some s.deviceDesc
  | 2, 0 => some s.configDesc
  | 3, 0 => some (bytesOf [4, 3, 0x09, 0x04])
  | 3, 1 => some (stringDesc (codesOf "Quohoben"))
  | 3, 2 => some (stringDesc (codesOf "ZS2432 service"))
  | 3, 3 => some (stringDesc (hexDigits 16 s.uid.toNat))
  | _, _ => none

/-- The answer to a standard request and what it changes (R504; the USB 2.0 behaviour PRESUMED, log entry 23). -/
def State.usbStandard (s : State) (dir recip req val idx len : Nat) : Option (List Byte) × State :=
  let ack := some ([] : List Byte)
  match dir, recip, req with
  | 1, 0, 6 => ((s.descriptor (val / 256) (val % 256)).map (·.take len), s)
  | 0, 0, 5 => (ack, s.modSvc fun v => { v with usbAddr := val % 128 })
  | 1, 0, 8 => (some ((bytesOf [b2n s.svc.configured]).take len), s)
  | 0, 0, 9 => if val % 256 ≤ 1 then (ack, s.modSvc fun v => { v with configured := decide (val % 256 = 1) }) else (none, s)
  | 1, 0, 0 => (some ((bytesOf [b2n (!s.boot.bench), 0]).take len), s)
  | 1, 1, 0 => (if idx ≤ 1 then some ((bytesOf [0, 0]).take len) else none, s)
  | 1, 2, 0 => (some ((bytesOf [0, 0]).take len), s)
  | 1, 1, 10 => (if idx ≤ 1 then some ((bytesOf [0]).take len) else none, s)
  | 0, 1, 11 => (if idx ≤ 1 ∧ val = 0 then ack else none, s)
  | 0, 2, 1 => (if val = 0 then ack else none, s)
  | 0, 2, 3 => (if val = 0 then ack else none, s)
  | _, _, _ => (none, s)

/-- USB_STANDARD_REQUEST (R504): a setup packet of eight bytes, of the standard type. -/
def execUsbStandardRequest (setup : List Byte) (s : State) : Out :=
  let t := leAt setup 0 1
  if !s.usbOn || decide (setup.length ≠ 8) || decide (t / 32 % 4 ≠ 0) then ok s
  else
    let (r, u) := s.usbStandard (t / 128) (t % 32) (leAt setup 1 1) (leAt setup 2 2) (leAt setup 4 2) (leAt setup 6 2)
    ok (u.usbAnswer r)

/-! ### Frames and requests (R512 to R514) -/

/-- A Suindelm frame before escaping, without the delimiters (Table 16-3). -/
def svcFrame (type seq : Byte) (payload : List Byte) : List Byte :=
  let b := leBytes 2 payload.length ++ [type, seq] ++ payload
  b ++ leBytes 2 (crc16 b)

/-- Bytes 0x7E and 0x7D between the delimiters are sent as 0x7D and the byte XOR 0x20 (R513). -/
def svcEscape (l : List Byte) : List Byte := l.flatMap fun b => if b = 0x7E#8 ∨ b = 0x7D#8 then [0x7D#8, b ^^^ 0x20#8] else [b]

/-- Received bytes before they were escaped. -/
def svcUnescape : List Byte → List Byte
  | a :: b :: l => if a = 0x7D#8 then (b ^^^ 0x20#8) :: svcUnescape l else a :: svcUnescape (b :: l)
  | l => l

/-- A frame on the line: the delimiter, which ends the frame before it too, and the escaped bytes (R512, R513). -/
def svcLine (f : List Byte) : List Byte := 0x7E#8 :: svcEscape f

/-- The frames of a response, as they are on the line. -/
def svcReply (type seq : Byte) (rsp : List (List Byte)) : List (List Byte) :=
  rsp.map fun p => svcLine (svcFrame (type + 0x80#8) seq p)

/-- A response that is only a status (Table 16-5). -/
def statusOnly (n : Nat) : List (List Byte) := [[b8 n]]

/-- An OK response. -/
def okRsp (l : List Byte) : List (List Byte) := [b8 0 :: l]

/-- What a request does: its response payloads (none: the device does not answer) and the state after it. -/
abbrev Handler := State → List Byte → List (List Byte) × State

/-- A field value for which the spec names no status: a free status, and no effect (log entry 23). -/
def State.freeStatus (s : State) : List (List Byte) × State :=
  let (w, t) := s.takeWord
  ([[b8 (w.toNat % 256)]], t)

/-- A frame with a valid CRC is accepted: counted, and the idle time starts over (R509, Table 16-11). -/
def State.svcAccept (s : State) : State := (s.count Reg.svcCnt 16 16 1).modSvc fun v => { v with lastFrame := s.ticks }

/-- A request (R514): BUSY, a repeat of the last request, or its handling. -/
def State.svcRequest (s : State) (busy : Bool) (type seq : Byte) (payload : List Byte) (h : Handler) : State :=
  if !s.usbOn || decide (1024 < payload.length) then s
  else
    let s := s.svcAccept
    if busy then (s.count Reg.svcCnt 0 8 1).modSvc fun v => { v with tx := svcReply type seq (statusOnly 4) }
    else if s.svc.lastReq = some (type, seq, payload) then s.modSvc fun v => { v with tx := svcReply type seq v.lastRsp }
    else
      let (rsp, t) := h s payload
      t.modSvc fun v =>
        if rsp.isEmpty then { v with tx := [] }
        else { v with lastReq := some (type, seq, payload), lastRsp := rsp, tx := svcReply type seq rsp }

/-! ### INFO, register and memory messages (R511, R515) -/

/-- INFO. -/
def infoReq : Handler := fun s p =>
  if p ≠ [] then (statusOnly 2, s)
  else
    (okRsp (wordBytes [s.reg Reg.sysId, s.reg Reg.sysRev] ++ leBytes 8 s.uid.toNat ++ wordBytes [s.sysRoleW, s.secStatW] ++
      leBytes 2 1024 ++ [b8 1]), s)

/-- Register addresses of a message: one address N times, or N in sequence. -/
def regAddrs (a n : Nat) (fix : Bool) : List Nat := (List.range n).map fun i => if fix then a else a + 4 * i

/-- The range of a register message is refused (R515). -/
def regRangeBad (a n : Nat) (fix : Bool) : Bool := decide (a % 4 ≠ 0) || (!fix && decide (0xFFFC < a + 4 * (n - 1)))

/-- Registers read in order by the service port; its reads clear nothing (R511). -/
def State.readAll (s : State) (l : List Nat) : List Word × State :=
  l.foldl (fun (acc : List Word × State) a => let (w, t) := acc.2.portRead .svc false a; (acc.1 ++ [w], t)) ([], s)

/-- RREAD. -/
def rreadReq : Handler := fun s p =>
  let a := leAt p 0 2
  let n := leAt p 2 2
  let fix := decide (leAt p 4 1 % 2 = 1)
  if p.length ≠ 5 then (statusOnly 2, s)
  else if n = 0 ∨ 255 < n then s.freeStatus
  else if regRangeBad a n fix then (statusOnly 8, s)
  else
    let (ws, t) := s.readAll (regAddrs a n fix)
    (okRsp (wordBytes ws), t)

/-- Words written in order; a word to `NVM_DATA` waits until the port's posted word has entered MRAM (R484, R511). -/
def State.writeAll (s : State) (l : List (Nat × Word)) : State :=
  l.foldl (fun (t : State) e => (if e.1 = Reg.nvmData then t.nvmDone .svc else t).portWrite .svc e.1 e.2) s

/-- The first status other than OK that a register of the message gives. -/
def State.rwriteStatus (s : State) (l : List Nat) : Nat := ((l.map s.svcWriteStatus).find? (· ≠ 0)).getD 0

/-- RWRITE: a message with a refused word has no effect (R510). -/
def rwriteReq : Handler := fun s p =>
  let a := leAt p 0 2
  let n := leAt p 2 2
  let fix := decide (leAt p 4 1 % 2 = 1)
  if p.length < 5 ∨ p.length ≠ 5 + 4 * n then (statusOnly 2, s)
  else if s.svc.level = .view then (statusOnly 3, s)
  else if n = 0 ∨ 255 < n then s.freeStatus
  else if regRangeBad a n fix then (statusOnly 8, s)
  else
    let as := regAddrs a n fix
    let c := s.rwriteStatus as
    if c ≠ 0 then (statusOnly c, s)
    else (okRsp (leBytes 2 n), s.writeAll (as.zip (bytesWords (p.drop 5))))

/-- The range of an MRAM message is refused (R515). -/
def memRangeBad (a n : Nat) : Bool := decide (a % 4 ≠ 0) || decide (0x1FFFC < a + 4 * (n - 1))

/-- n words through the service context of the NVM window. -/
def State.memRead (s : State) (n : Nat) : List Word × State :=
  (List.range n).foldl (fun (acc : List Word × State) _ => let (w, t) := acc.2.nvmDataRead .svc; (acc.1 ++ [w], t)) ([], s)

/-- MREAD. While the log writer is in block reset its port ends the transfer: the words read 0. -/
def mreadReq : Handler := fun s p =>
  let a := leAt p 0 4
  let n := leAt p 4 2
  if p.length ≠ 6 then (statusOnly 2, s)
  else if n = 0 ∨ 255 < n then s.freeStatus
  else if memRangeBad a n then (statusOnly 8, s)
  else if s.blkBusy 4 then (okRsp (wordBytes (List.replicate n 0)), s)
  else
    let (ws, t) := (s.nvmAddrWrite .svc (w32 a)).memRead n
    (okRsp (wordBytes ws), t)

/-- Words through the service context until one is refused or discarded: the count and the state (R515, R527). -/
def State.memWrite (s : State) : Nat → List Word → Nat × State
  | k, [] => (k, s)
  | k, w :: ws =>
    let t := (s.nvmDone .svc).nvmDataWrite .svc w
    if (t.window .svc).posted.isSome then t.memWrite (k + 1) ws else (k, t)

/-- MWRITE: SERVICE for the user area, FACTORY for an image slot (Table 16-2). -/
def mwriteReq : Handler := fun s p =>
  let a := leAt p 0 4
  let n := leAt p 4 2
  if p.length < 6 ∨ p.length ≠ 6 + 4 * n then (statusOnly 2, s)
  else if s.svc.level = .view ∨ (a < 0x10000 ∧ s.svc.level ≠ .factory) then (statusOnly 3, s)
  else if n = 0 ∨ 255 < n then s.freeStatus
  else if memRangeBad a n then (statusOnly 8, s)
  else if s.blkBusy 4 then (okRsp (leBytes 2 0 ++ leBytes 1 (s.nvmStatW .svc).toNat), s)
  else
    let (k, t) := ((s.nvmDone .svc).nvmAddrWrite .svc (w32 a)).memWrite 0 (bytesWords (p.drop 6))
    let t := t.nvmDone .svc
    (okRsp (leBytes 2 k ++ leBytes 1 (t.nvmStatW .svc).toNat), t)

/-! ### Identity, challenge and certificates (R517 to R520) -/

/-- Lengths of the device certificate and the issuer chain. -/
def State.certLens (s : State) : Nat × Nat := (fld (s.mshow 0x15004) 0 16, fld (s.mshow 0x15004) 16 16)

/-- CHALLENGE. -/
def challengeReq : Handler := fun s p =>
  if p.length ≠ 1 then (statusOnly 2, s)
  else if s.svc.idBad then (statusOnly 5, s)
  else if s.svc.lockEnd.isSome then (statusOnly 7, s)
  else if leAt p 0 1 ≠ 1 ∧ leAt p 0 1 ≠ 2 then s.freeStatus
  else
    let (n, t) := s.takeRandom 32
    (okRsp (n ++ leBytes 8 s.uid.toNat ++ leBytes 2 s.certLens.1), t.modSvc fun v => { v with nonce := some ⟨n, s.ticks⟩ })

/-- CERT: the bytes from the offset on, up to 1,000; an invalid identity partition gives none. -/
def certReq : Handler := fun s p =>
  let sel := leAt p 0 1
  let off := leAt p 1 2
  if p.length ≠ 3 then (statusOnly 2, s)
  else if 1 < sel then s.freeStatus
  else
    let (base, len) := if sel = 0 then (0x15050, s.certLens.1) else (0x15450, s.certLens.2)
    let all := if s.svc.idBad then [] else (wordBytes ((List.range ((len + 3) / 4)).map fun i => s.mshow (base + 4 * i))).take len
    let l := (all.drop off).take 1000
    (okRsp (leBytes 2 l.length ++ l), s)

/-! ### The service certificate (R519, Table 16-8) -/

/-- What AUTH needs of a service certificate: the signed bytes, serial number, FACTORY in its OU, key and signature. -/
structure SvcCert where
  tbs     : List Byte
  serial  : Nat
  factory : Bool
  x       : Nat
  y       : Nat
  r       : Nat
  sv      : Nat
  deriving DecidableEq, Repr

/-- Content of an element of the given tag that fills the whole string. -/
def derWhole (tag : Nat) (l : List Byte) : Option (List Byte) :=
  match derTake l with
  | some (t, c, []) => if t = tag then some c else none
  | _ => none

/-- A non-negative INTEGER content. -/
def derNat (c : List Byte) : Option Nat :=
  match c with
  | b :: _ => if b.toNat < 0x80 then some (ofBe c) else none
  | [] => none

/-- The object identifier of an algorithm without parameters is ecdsa-with-SHA256. -/
def ecdsaAlg (c : List Byte) : Bool :=
  decide (derSeq 2 c = some [(6, bytesOf [0x2A, 0x86, 0x48, 0xCE, 0x3D, 4, 3, 2])])

/-- The two integers of a signature in a BIT STRING. -/
def derSig (c : List Byte) : Option (Nat × Nat) :=
  match c with
  | z :: rest =>
    if z ≠ 0#8 then none
    else
      match (derWhole 0x30 rest).bind (derSeq 2) with
      | some [(2, r), (2, v)] => (derNat r).bind fun a => (derNat v).map fun b => (a, b)
      | _ => none
  | [] => none

/-- Attributes of a distinguished name: object identifier and text. -/
def nameAttrs (c : List Byte) : Option (List (List Byte × List Byte)) :=
  match derSeq 32 c with
  | some rdns =>
    let attr (l : List Byte) : List (List Byte × List Byte) :=
      match derSeq 2 l with
      | some [(6, o), (_, v)] => [(o, v)]
      | _ => []
    let rdn (e : Nat × List Byte) : List (List Byte × List Byte) :=
      match derSeq 8 e.2 with
      | some l => l.flatMap fun a => attr a.2
      | none => []
    some (rdns.flatMap rdn)
  | none => none

/-- The OU grants FACTORY, or SERVICE; none: neither. -/
def nameLevel (c : List Byte) : Option Bool :=
  match nameAttrs c with
  | some l =>
    let ou (t : String) : Bool := l.any fun a => decide (a.1 = bytesOf [0x55, 4, 0x0B]) && decide (a.2 = bytesOf (codesOf t))
    if ou "Suindelm FACTORY" then some true else if ou "Suindelm SERVICE" then some false else none
  | none => none

/-- The public key of a SubjectPublicKeyInfo: an uncompressed point of prime256v1. -/
def derKey (c : List Byte) : Option (Nat × Nat) :=
  match derSeq 2 c with
  | some [(0x30, alg), (3, k)] =>
    let algOk := decide (derSeq 2 alg = some [(6, bytesOf [0x2A, 0x86, 0x48, 0xCE, 0x3D, 2, 1]),
      (6, bytesOf [0x2A, 0x86, 0x48, 0xCE, 0x3D, 3, 1, 7])])
    if algOk ∧ k.length = 66 ∧ k.take 2 = bytesOf [0, 4] then some (ofBe ((k.drop 2).take 32), ofBe (k.drop 34)) else none
  | _ => none

/-- One extension: object identifier, critical flag, value. -/
def derExt (c : List Byte) : Option (List Byte × Bool × List Byte) :=
  match derSeq 3 c with
  | some [(6, o), (4, v)] => some (o, false, v)
  | some [(6, o), (1, b), (4, v)] => some (o, decide (b ≠ [0#8]), v)
  | _ => none

/-- basicConstraints with CA=FALSE. -/
def caFalse (v : List Byte) : Bool :=
  match (derWhole 0x30 v).bind (derSeq 2) with
  | some [] => true
  | some [(1, b)] => decide (b = [0#8])
  | _ => false

/-- The extensions suit the profile: basicConstraints CA=FALSE, and no other critical one. -/
def extsOk (c : List Byte) : Bool :=
  match (derWhole 0x30 c).bind (derSeq 32) with
  | some l =>
    let es := l.map fun e => derExt e.2
    let bc := bytesOf [0x55, 0x1D, 0x13]
    es.all (fun e => match e with
      | some (o, crit, v) => if o = bc then caFalse v else !crit
      | none => false) &&
    es.any (fun e => match e with
      | some (o, _, _) => decide (o = bc)
      | none => false)
  | none => false

/-- The fields of the signed part, in the order of X.509 v3. -/
def tbsFields (c : List Byte) : Option (Nat × Bool × Nat × Nat) :=
  match derSeq 12 c with
  | some ((0xA0, ver) :: (2, ser) :: (0x30, alg) :: (0x30, _) :: (0x30, _) :: (0x30, subj) :: (0x30, key) :: rest) =>
    let exts := (rest.find? fun e => decide (e.1 = 0xA3)).map fun e => e.2
    if derWhole 2 ver = some [2#8] ∧ ecdsaAlg alg ∧ ser.length ≤ 8 ∧ (exts.map extsOk) = some true then
      match derNat ser, nameLevel subj, derKey key with
      | some n, some f, some (x, y) => if n = 0 then none else some (n, f, x, y)
      | _, _, _ => none
    else none
  | _ => none

/-- A service certificate under Table 16-8. -/
def parseCert (l : List Byte) : Option SvcCert :=
  match derWhole 0x30 l with
  | some c =>
    match derTake c with
    | some (0x30, t, rest) =>
      match derSeq 2 rest with
      | some [(0x30, alg), (3, sig)] =>
        if !ecdsaAlg alg then none
        else
          match tbsFields t, derSig sig with
          | some (n, f, x, y), some (r, v) =>
            some { tbs := c.take (c.length - rest.length), serial := n, factory := f, x := x, y := y, r := r, sv := v }
          | _, _ => none
      | _ => none
    | _ => none
  | none => none

/-! ### AUTH (R521 to R523) -/

/-- The 45 signed bytes (R521). -/
def State.authMessage (s : State) (n : List Byte) (lvl : Byte) : List Byte :=
  bytesOf (codesOf "SDM1") ++ n ++ leBytes 8 s.uid.toNat ++ [lvl]

/-- The nonce is valid for 60 s (R520). -/
def State.nonceValid (s : State) : Option (List Byte) :=
  match s.svc.nonce with
  | some n => if s.passed n.since 60000000 then none else some n.bytes
  | none => none

/-- Checks 3 to 8 of R522; some: whether the OPEN exception applied. -/
def State.authChecks (s : State) (n p : List Byte) : Option Bool :=
  let key := (p.drop 1).take 64
  let sig := (p.drop 65).take 64
  match s.keyAccepted key with
  | none => none
  | some exc =>
    match parseCert (p.drop 131) with
    | none => none
    | some c =>
      let lvl := leAt p 0 1
      if !ecdsaVerify (ofBe (key.take 32)) (ofBe (key.drop 32)) c.r c.sv c.tbs then none
      else if c.serial < highBit (s.fuseW 7) then none
      else if !(decide (lvl = 1) || (decide (lvl = 2) && c.factory)) then none
      else if !ecdsaVerify c.x c.y (ofBe (sig.take 32)) (ofBe (sig.drop 32)) (s.authMessage n (p.getD 0 0#8)) then none
      else some exc

/-- A failed AUTH: it spends the nonce, and from the third failure on in a row it locks out for 60 s (R522, R523). -/
def State.authFailed (s : State) : State :=
  let k := min 255 (s.svc.authFail + 1)
  (s.modSvc fun v =>
    { v with authFail := k, nonce := none, lockEnd := if 3 ≤ k then some (s.ticks + 60000000) else v.lockEnd }).raise Reg.svcEvt 2

/-- An accepted AUTH. -/
def State.authGranted (s : State) (lvl : Nat) (exc : Bool) : State :=
  (s.modSvc fun v =>
    { v with authFail := 0, nonce := none, level := if lvl = 2 then .factory else .service, devAuth := exc }).raise Reg.svcEvt 1

/-- AUTH. In SAFE_IDLE the level never leaves VIEW (R102). -/
def authReq : Handler := fun s p =>
  let len := leAt p 129 2
  if p.length < 132 ∨ p.length ≠ 131 + len ∨ 800 < len then (statusOnly 2, s)
  else if s.role.state = .safeIdle then (statusOnly 5, s)
  else
    match s.nonceValid with
    | none => (statusOnly 0x0B, s)
    | some n =>
      if s.svc.lockEnd.isSome then (statusOnly 7, s.modSvc fun v => { v with nonce := none })
      else
        match s.authChecks n p with
        | some exc => (okRsp (p.take 1), s.authGranted (leAt p 0 1) exc)
        | none => (statusOnly 6, s.authFailed)

/-- LOGOUT. -/
def logoutReq : Handler := fun s p => if p ≠ [] then (statusOnly 2, s) else (okRsp [], s.toView)

/-! ### EXPORT (R525, R526) -/

/-- The 1,400 words of the export (Table 16-10). One step reads it whole, so nothing moves during it. -/
def State.exportWords (s : State) (nonce : List Byte) : List Word :=
  let bad := s.mbadIn 0x10000 768 || s.mbadIn 0x14000 96 || s.mbadIn 0x14400 513
  let show_ (a n : Nat) : List Word := (List.range n).map fun i => s.mshow (a + 4 * i)
  [0x4C585031#32, 0x00010578#32, s.uid.setWidth 32, s.uid.extractLsb' 32 32, s.reg Reg.sysId, s.reg Reg.sysRev, s.tb.epoch,
    s.tb.up.setWidth 32, s.tb.up.extractLsb' 32 32, (if s.boot.bench then 0 else s.img.runVer), s.rst.cause, s.logRecW, s.logHistW,
    s.secStatW, 0, 0] ++ bytesWords nonce ++ show_ 0x10000 768 ++ show_ 0x14000 96 ++ show_ 0x14400 513 ++
    [s.logRecW, s.logHistW, if bad then 2#32 else 0#32]

/-- The chunks of an export: status, index, up to 1,021 bytes; bit 15 of the index marks the last. -/
def exportChunks (l : List Byte) : List (List Byte) :=
  let n := (l.length + 1020) / 1021
  (List.range n).map fun i => b8 0 :: (leBytes 2 (i + (if i + 1 = n then 0x8000 else 0)) ++ (l.drop (1021 * i)).take 1021)

/-- EXPORT. The signature is a free value: the device key is no part of the spec. -/
def exportReq : Handler := fun s p =>
  if p.length ≠ 16 then (statusOnly 2, s)
  else if s.svc.idBad then (statusOnly 5, s)
  else
    let body := wordBytes (s.exportWords p)
    let h := sha256 body
    (exportChunks (body ++ h ++ (List.range 64).map (Config.devSign s.free h)), { s with free := s.free + 1 })

/-! ### Fuses (R530 to R534) -/

/-- Fuse word w may be programmed in a lifecycle (Table 16-6). -/
def fuseOpen (life w : Nat) : Bool :=
  match life with
  | 0 => decide (w ≤ 15)
  | 1 => decide (w ≤ 7)
  | _ => decide (w = 0) || decide (w = 3) || decide (w = 7)

/-- Bits of a fuse word that are not reserved (Table 16-9). -/
def fuseMask : Nat → Word
  | 0 => 0x3#32
  | 1 => 0x33F#32
  | 5 => 0xFFFF#32
  | 6 => 0x00FFFFFC#32
  | _ => 0xFFFFFFFF#32

/-- A word of the fuse array. -/
def State.fuseArr (s : State) (w : Nat) : Word := s.svc.fuses.getD w 0

/-- FUSE_DENIED (R534). -/
def State.fuseDenied (s : State) (w : Nat) (mask : Word) : Bool :=
  !fuseOpen s.lifecycle w || decide (mask &&& ~~~(fuseMask w) ≠ 0#32) ||
    (decide (w = 0) && bit mask 1 && !bit (s.fuseArr 0) 0) ||
    (decide (w = 0) && bit mask 0 && (List.range 8).all fun k => decide (s.fuseArr (8 + k) = 0#32))

/-- FUSE is refused with STATE (R531). -/
def State.fuseState (s : State) : Bool :=
  s.boot.bench || s.srcFault || (s.rail && s.img.running.isSome && decide (s.imgSeqState ≠ .idle))

/-- A bit of the array becomes 1. -/
def State.fuseSet (s : State) (w i : Nat) : State := s.modSvc fun x => { x with fuses := modAt x.fuses w fun f => setBit f i true }

/-- A bit was programmed. -/
def State.fusePulsed (s : State) : State := (s.modSvc fun x => { x with fusePend := true }).raise Reg.svcEvt 4

/-- The pulses of a request: the missing bits in ascending order. Whether a bit verifies is a free value, and so is what a bit holds that
did not; `cut` is the bit in whose pulse a reset source is raised, which ends the request. True: every bit verified. -/
def State.pulseBits (s : State) (w : Nat) : List Nat → Option Nat → Bool × State
  | [], _ => (true, s)
  | i :: l, cut =>
    let (good, s) := s.takeBit
    let (v, s) := s.takeBit
    let part := if v then (s.fuseSet w i).fusePulsed else s
    match cut with
    | some 0 => (false, part)
    | _ => if good then ((s.fuseSet w i).fusePulsed).pulseBits w l (cut.map (· - 1)) else (false, part)

/-- FUSE. -/
def fuseReq (cut : Option Nat) : Handler := fun s p =>
  let w := leAt p 0 1
  let mask := w32 (leAt p 1 4)
  if p.length ≠ 5 then (statusOnly 2, s)
  else if s.svc.level ≠ .factory then (statusOnly 3, s)
  else if s.fuseState then (statusOnly 5, s)
  else if s.fuseDenied w mask then (statusOnly 9, s)
  else
    let bits := (List.range 32).filter fun i => bit mask i && !bit (s.fuseArr w) i
    let cut := cut.filter fun k => decide (k < bits.length)
    let (good, t) := s.pulseBits w bits cut
    if cut.isSome then ([], t)
    else ([b8 (if good then 0 else 0x0A) :: leBytes 4 (t.fuseArr w).toNat], t)

/-! ### The rows -/

/-- INFO (R514). -/
def execInfo (busy : Bool) (seq : Byte) (payload : List Byte) (s : State) : Out := ok (s.svcRequest busy 0x01 seq payload infoReq)

/-- RREAD (R515). -/
def execRread (busy : Bool) (seq : Byte) (payload : List Byte) (s : State) : Out := ok (s.svcRequest busy 0x02 seq payload rreadReq)

/-- RWRITE (R510, R511). -/
def execRwrite (busy : Bool) (seq : Byte) (payload : List Byte) (s : State) : Out := ok (s.svcRequest busy 0x03 seq payload rwriteReq)

/-- MREAD (R515). -/
def execMread (busy : Bool) (seq : Byte) (payload : List Byte) (s : State) : Out := ok (s.svcRequest busy 0x04 seq payload mreadReq)

/-- MWRITE (R515, R527). -/
def execMwrite (busy : Bool) (seq : Byte) (payload : List Byte) (s : State) : Out := ok (s.svcRequest busy 0x05 seq payload mwriteReq)

/-- CHALLENGE (R520). -/
def execChallenge (busy : Bool) (seq : Byte) (payload : List Byte) (s : State) : Out :=
  ok (s.svcRequest busy 0x06 seq payload challengeReq)

/-- AUTH (R521 to R523). -/
def execAuth (busy : Bool) (seq : Byte) (payload : List Byte) (s : State) : Out := ok (s.svcRequest busy 0x07 seq payload authReq)

/-- LOGOUT (R509). -/
def execLogout (busy : Bool) (seq : Byte) (payload : List Byte) (s : State) : Out := ok (s.svcRequest busy 0x08 seq payload logoutReq)

/-- EXPORT (R525). -/
def execSignedExport (busy : Bool) (seq : Byte) (payload : List Byte) (s : State) : Out := ok (s.svcRequest busy 0x09 seq payload exportReq)

/-- CERT (Table 16-4). -/
def execCert (busy : Bool) (seq : Byte) (payload : List Byte) (s : State) : Out := ok (s.svcRequest busy 0x0A seq payload certReq)

/-- RESET is answered OK and raises source SVC (R516). -/
def State.svcResets (s : State) (payload : List Byte) : Bool :=
  decide (s.svc.level ≠ .view) && decide (payload = leBytes 2 0xC1A0)

/-- RESET. -/
def resetReq : Handler := fun s p =>
  if p.length ≠ 2 then (statusOnly 2, s)
  else if s.svc.level = .view then (statusOnly 3, s)
  else if s.svcResets p then (okRsp [], s)
  else s.freeStatus

/-- SVC_RESET (R516): the response goes out first; the reset ends the session, so nothing is kept for a repeat. -/
def execSvcReset (busy : Bool) (seq : Byte) (payload : List Byte) (s : State) (co : List RstSource := []) : Out :=
  let t := s.svcRequest busy 0x0B seq payload resetReq
  ok (if s.usbOn && !busy && s.svcResets payload && decide (s.svc.lastReq ≠ some (0x0B, seq, payload)) then t.raiseWith (plainReq .svc) co else t)

/-- FUSE_PROGRAM (R530 to R534). -/
def execFuseProgram (busy : Bool) (seq : Byte) (payload : List Byte) (cut : Option Nat) (s : State) : Out :=
  ok (s.svcRequest busy 0x0C seq payload (fuseReq cut))

/-- SUINDELM_UNKNOWN_TYPE (R514): BAD_TYPE. -/
def execSuindelmUnknownType (busy : Bool) (type seq : Byte) (payload : List Byte) (s : State) : Out :=
  if 1 ≤ type.toNat ∧ type.toNat ≤ 12 then ok s
  else ok (s.svcRequest busy type seq payload fun t _ => (statusOnly 1, t))

/-- What stood between two delimiters is a frame that R513 discards. -/
def frameBad (l : List Byte) : Bool :=
  let b := svcUnescape l
  decide (b.length < 6) || decide (1024 < leAt b 0 2) || decide (b.length ≠ 6 + leAt b 0 2) ||
    decide (leAt b (b.length - 2) 2 ≠ crc16 (b.take (b.length - 2)))

/-- SUINDELM_FRAME_DISCARD (R513). -/
def execSuindelmFrameDiscard (bytes : List Byte) (s : State) : Out :=
  if s.usbOn && frameBad bytes then ok (s.count Reg.svcCnt 8 8 1) else ok s

/-! ### Timed events -/

/-- SESSION_IDLE_TIMEOUT (R509). -/
def execSessionIdleTimeout (s : State) : Out := if s.svc.attached && s.passed s.svc.lastFrame s.idleTime then ok s.toView else ok s

/-- NONCE_EXPIRY (R520). -/
def execNonceExpiry (s : State) : Out :=
  match s.svc.nonce with
  | some n => if s.passed n.since 60000000 then ok (s.modSvc fun v => { v with nonce := none }) else ok s
  | none => ok s

/-- AUTH_LOCKOUT_EXPIRY (R523). -/
def execAuthLockoutExpiry (s : State) : Out :=
  match s.svc.lockEnd with
  | some t => if t ≤ s.ticks then ok (s.modSvc fun v => { v with lockEnd := none }) else ok s
  | none => ok s

end Sys2Proof.Machine
end

