-- ==== Sys2Proof/Machine/RegExec.lean ====
section
/-! DEFINITION. The rows that are one register access, by any path, with the REACT edges and the wet-check step
(spec/00_scope.md R6 to R12; spec/05_configuration_image_and_thatch_fabric.md R174 to R191; spec/06_ladder_front_end_and_measurement.md
R209 to R226; spec/13_redundant_pair.md R439). What the written value asks for is decided by the register's own rules. -/

namespace Sys2Proof.Machine

/-! ### Register writes -/

/-- REGISTER_WRITE (R8): one register write by a path. -/
def execRegisterWrite (p : Port) (addr : Nat) (v : Word) (s : State) : Out := ok (s.access p addr v)

/-- LIVE_WRITE (R11): a write of a LIVE register. -/
def execLiveWrite (p : Port) (addr : Nat) (v : Word) (s : State) : Out := ok (s.access p addr v)

/-- DOZE_REQUEST (R107): a write of `SYS_PWR`. -/
def execDozeRequest (p : Port) (v : Word) (s : State) : Out := ok (s.access p Reg.sysPwr v)

/-- A write of v to `RST_CMD` by a path raises source HOST: it arrives, and carries the key and `GO` (R140). -/
def State.hostResets (s : State) (p : Port) (v : Word) : Bool :=
  s.pathOpen p && decide (p ≠ .svc) && !(decide (p = .host) && s.hostIgnored Reg.rstCmd) && (s.reach p Reg.rstCmd).isSome &&
    decide (fld v 16 16 = 0xC1A0) && bit v 0

/-- RST_CMD_WRITE (R140): a write of `RST_CMD`, with the sources whose reset coincides with its own (R124). -/
def execRstCmdWrite (p : Port) (v : Word) (s : State) (co : List RstSource := []) : Out :=
  ok (if s.hostResets p v then s.rstCmd v co else s.access p Reg.rstCmd v)

/-- BLOCK_RESET_REQUEST (R141): a write of `RST_BLK`. -/
def execBlockResetRequest (p : Port) (v : Word) (s : State) : Out := ok (s.access p Reg.rstBlk v)

/-- IMG_VERIFY (R177): a write of `IMG_CTRL`. -/
def execImgVerify (p : Port) (v : Word) (s : State) : Out := ok (s.access p Reg.imgCtrl v)

/-- IMG_ACTIVATE_LIVE (R178): a write of `IMG_CTRL`. -/
def execImgActivateLive (p : Port) (v : Word) (s : State) : Out := ok (s.access p Reg.imgCtrl v)

/-- IMG_ACTIVATE_FULL (R181): a write of `IMG_CTRL`. -/
def execImgActivateFull (p : Port) (v : Word) (s : State) : Out := ok (s.access p Reg.imgCtrl v)

/-- IMG_NO_ACTION (R174): a write of `IMG_CTRL` without an action. -/
def execImgNoAction (p : Port) (v : Word) (s : State) : Out := ok (s.access p Reg.imgCtrl v)

/-- SCAN_STOP (R209): a write of `RES_SCAN_CTRL`. -/
def execScanStop (p : Port) (v : Word) (s : State) : Out := ok (s.access p Reg.resScanCtrl v)

/-- SCAN_RESTART (R209): a write of `RES_SCAN_CTRL`. -/
def execScanRestart (p : Port) (v : Word) (s : State) : Out := ok (s.access p Reg.resScanCtrl v)

/-- SNAP (R219): a write of `RES_SNAP_CTRL`. -/
def execSnap (p : Port) (v : Word) (s : State) : Out := ok (s.access p Reg.resSnapCtrl v)

/-- SNAP_NEXT (R219): a write of `RES_SNAP_CTRL`. -/
def execSnapNext (p : Port) (v : Word) (s : State) : Out := ok (s.access p Reg.resSnapCtrl v)

/-- WET_CHECK_START (R221): a write of `CH_WET_CTRL`. -/
def execWetCheckStart (p : Port) (v : Word) (s : State) : Out := ok (s.access p Reg.chWetCtrl v)

/-- WET_CHECK_ABORT (R226): a write of `CH_WET_CTRL`. -/
def execWetCheckAbort (p : Port) (v : Word) (s : State) : Out := ok (s.access p Reg.chWetCtrl v)

/-- LATCH_CLEAR (R241): a write of a comparator latch register. -/
def execLatchClear (p : Port) (addr : Nat) (v : Word) (s : State) : Out := ok (s.access p addr v)

/-- SELF_CHECK_START (R247): a write of `CMP_CHK_CTRL`. -/
def execSelfCheckStart (p : Port) (v : Word) (s : State) : Out := ok (s.access p Reg.cmpChkCtrl v)

/-- SEQ_START_CMD (R275): a write of `SEQ_CTRL`. -/
def execSeqStartCmd (p : Port) (v : Word) (s : State) : Out := ok (s.access p Reg.seqCtrl v)

/-- SEQ_STOP_CMD (R275): a write of `SEQ_CTRL`. -/
def execSeqStopCmd (p : Port) (v : Word) (s : State) : Out := ok (s.access p Reg.seqCtrl v)

/-- SEQ_HOLD_CMD (R278): a write of `SEQ_CTRL`. -/
def execSeqHoldCmd (p : Port) (v : Word) (s : State) : Out := ok (s.access p Reg.seqCtrl v)

/-- SEQ_RELEASE_CMD (R280): a write of `SEQ_CTRL`. -/
def execSeqReleaseCmd (p : Port) (v : Word) (s : State) : Out := ok (s.access p Reg.seqCtrl v)

/-- GRP_START_CMD (R275): a write of `SEQ_CTRL`. -/
def execGrpStartCmd (p : Port) (v : Word) (s : State) : Out := ok (s.access p Reg.seqCtrl v)

/-- GRP_STOP_CMD (R275): a write of `SEQ_CTRL`. -/
def execGrpStopCmd (p : Port) (v : Word) (s : State) : Out := ok (s.access p Reg.seqCtrl v)

/-- HOLD_BATT_WRITE (R286): a write of `SEQ_SRC_CTRL`. -/
def execHoldBattWrite (p : Port) (v : Word) (s : State) : Out := ok (s.access p Reg.seqSrcCtrl v)

/-- MARGIN_NOMINAL (R320): a write of `MRG_CTRL`. -/
def execMarginNominal (p : Port) (v : Word) (s : State) : Out := ok (s.access p Reg.mrgCtrl v)

/-- MARGIN_HIGH (R320): a write of `MRG_CTRL`. -/
def execMarginHigh (p : Port) (v : Word) (s : State) : Out := ok (s.access p Reg.mrgCtrl v)

/-- MARGIN_LOW (R320): a write of `MRG_CTRL`. -/
def execMarginLow (p : Port) (v : Word) (s : State) : Out := ok (s.access p Reg.mrgCtrl v)

/-- LOG_CLEAR (R348): a write of `LOG_CTRL`. -/
def execLogClear (p : Port) (v : Word) (s : State) : Out := ok (s.access p Reg.logCtrl v)

/-- COUNTER_CLEAR (R348): a write of `LOG_CTRL`. -/
def execCounterClear (p : Port) (v : Word) (s : State) : Out := ok (s.access p Reg.logCtrl v)

/-- LOG_ADDR_WRITE (R350): a write of `LOG_ADDR`. -/
def execLogAddrWrite (p : Port) (v : Word) (s : State) : Out := ok (s.access p Reg.logAddr v)

/-- NVM_DATA_WRITE (R351): a write of `NVM_DATA`. -/
def execNvmDataWrite (p : Port) (v : Word) (s : State) : Out := ok (s.access p Reg.nvmData v)

/-- UNSENSED_CLEAR (R415): a write of `SCHED_US`. -/
def execUnsensedClear (p : Port) (v : Word) (s : State) : Out := ok (s.access p Reg.schedUs v)

/-- YIELD_REQUEST (R443): a write of `PAIR_CTRL`. -/
def execYieldRequest (p : Port) (v : Word) (s : State) : Out := ok (s.access p Reg.pairCtrl v)

/-- RESYNC_REQUEST (R444): a write of `PAIR_CTRL`. -/
def execResyncRequest (p : Port) (v : Word) (s : State) : Out := ok (s.access p Reg.pairCtrl v)

/-- WDT_KICK (R498): a write of `SYS_WDT_KICK`. -/
def execWdtKick (p : Port) (v : Word) (s : State) : Out := ok (s.access p Reg.sysWdtKick v)

/-- DUTY_WRITE (R396): a write of `SCHED_Le_DUTY`. -/
def execDutyWrite (p : Port) (e : Nat) (v : Word) (s : State) : Out := if e < 64 then ok (s.access p (Reg.schedLDuty e) v) else ok s

/-! ### Register reads -/

/-- RC_FIELD_READ (R8, R10): one register read by a path. -/
def execRcFieldRead (p : Port) (addr : Nat) (s : State) : Out := ok (s.fetch p addr)

/-- TB_UP_LO_READ (R92). -/
def execTbUpLoRead (p : Port) (s : State) : Out := ok (s.fetch p Reg.tbUpLo)

/-- RESULT_READ (R217): a read of `RES_CHn`. -/
def execResultRead (p : Port) (n : Nat) (s : State) : Out := if n < 24 then ok (s.fetch p (Reg.resCh n)) else ok s

/-- SNAP_READ (R219): a read of `RES_SNAPn`. -/
def execSnapRead (p : Port) (n : Nat) (s : State) : Out := if n < 24 then ok (s.fetch p (Reg.resSnap n)) else ok s

/-- LOG_DATA_READ (R350): a read of `LOG_DATA`. -/
def execLogDataRead (p : Port) (s : State) : Out := ok (s.fetch p Reg.logData)

/-- NVM_DATA_READ (R351): a read of `NVM_DATA`. -/
def execNvmDataRead (p : Port) (s : State) : Out := ok (s.fetch p Reg.nvmData)

/-! ### Engine rows -/

/-- WET_STEP_DONE (R222): the step of the wet check ends with its codes. -/
def execWetStepDone (codes : List Int) (s : State) : Out := ok (s.wetStep codes)

/-- A SHADOW's own cut-off (R439): AND rails that the copy shows ON trip. -/
def State.tripAnd (s : State) (l : List Nat) : State :=
  let hit := l.filter fun n =>
    decide (n < 24) && decide (2 ≤ s.arb n) && decide (s.reaction n ≠ .ignore) && decide (fld (s.copyW (64 + 2 * n)) 0 3 = 3)
  (s.modPair fun p => { p with andTrip := hit.foldl (fun a n => a ||| BitVec.ofNat 24 (2 ^ n)) p.andTrip }).shadowPins

/-- REACT_EDGE (R191, R311, R439): the REACT edges of one fabric cycle, with its GRPDN edges. -/
def execReactEdge (s : State) : Out :=
  match s.takeEdges (· < 0x20) with
  | some (l, t) => if t.isShadow then ok (t.tripAnd l) else if t.seqRuns then ok (t.reactEdges l false false)
    else if t.heldRails then ok (t.gateEdges l) else ok t
  | none => ok s

end Sys2Proof.Machine
end

