-- ==== Sys2Proof/Machine/Dispatch.lean ====
section
/-! DEFINITION. One arm per constructor of `Instr`, each one direct call of its meaning (the table of operations and
events, spec/opcode_table.json). -/

namespace Sys2Proof.Machine

/-- The effect of one command on everything but the queue. -/
def exec (i : Instr) (s : State) : Host.Outcome State Fault Refusal :=
  match i with
  | .registerWrite p addr v => Sys2Proof.Machine.execRegisterWrite p addr v s
  | .liveWrite p addr v => Sys2Proof.Machine.execLiveWrite p addr v s
  | .rcFieldRead p addr => Sys2Proof.Machine.execRcFieldRead p addr s
  | .powerOnReset => Sys2Proof.Machine.execPowerOnReset s
  | .porRearm => Sys2Proof.Machine.execPorRearm s
  | .rcReady => Sys2Proof.Machine.execRcReady s
  | .regulatorsReady => Sys2Proof.Machine.execRegulatorsReady s
  | .fuseLoadDone senseOk => Sys2Proof.Machine.execFuseLoadDone senseOk s
  | .xtalTimeout => Sys2Proof.Machine.execXtalTimeout s
  | .pllLock => Sys2Proof.Machine.execPllLock s
  | .imageSelectDone => Sys2Proof.Machine.execImageSelectDone s
  | .resetReleaseStep => Sys2Proof.Machine.execResetReleaseStep s
  | .hostIfRelease => Sys2Proof.Machine.execHostIfRelease s
  | .rstoutRelease => Sys2Proof.Machine.execRstoutRelease s
  | .cpReady => Sys2Proof.Machine.execCpReady s
  | .stage6Done => Sys2Proof.Machine.execStage6Done s
  | .stageTimeout => Sys2Proof.Machine.execStageTimeout s
  | .retryWaitExpiry => Sys2Proof.Machine.execRetryWaitExpiry s
  | .vddioRise => Sys2Proof.Machine.execVddioRise s
  | .vddioLost => Sys2Proof.Machine.execVddioLost s
  | .srcFaultEdge co => Sys2Proof.Machine.execSrcFaultEdge co s
  | .srcRecover => Sys2Proof.Machine.execSrcRecover s
  | .clockFail kind co => Sys2Proof.Machine.execClockFail kind s co
  | .tbUpLoRead p => Sys2Proof.Machine.execTbUpLoRead p s
  | .benchEntry => Sys2Proof.Machine.execBenchEntry s
  | .benchExit co => Sys2Proof.Machine.execBenchExit s co
  | .vbusLoss => Sys2Proof.Machine.execVbusLoss s
  | .dozeRequest p v => Sys2Proof.Machine.execDozeRequest p v s
  | .dozeWake cause => Sys2Proof.Machine.execDozeWake cause s
  | .masterListenEnd => Sys2Proof.Machine.execMasterListenEnd s
  | .secondMasterDetected => Sys2Proof.Machine.execSecondMasterDetected s
  | .pinReset co => Sys2Proof.Machine.execPinReset co s
  | .resetPinRelease => Sys2Proof.Machine.execResetPinRelease s
  | .resetAssertMinExpiry => Sys2Proof.Machine.execResetAssertMinExpiry s
  | .parityError shadow co => Sys2Proof.Machine.execParityError shadow co s
  | .ecc2Error sram co => Sys2Proof.Machine.execEcc2Error sram co s
  | .rstCmdWrite p v co => Sys2Proof.Machine.execRstCmdWrite p v s co
  | .blockResetRequest p v => Sys2Proof.Machine.execBlockResetRequest p v s
  | .blockResetEnd blk => Sys2Proof.Machine.execBlockResetEnd blk s
  | .adoptSample => Sys2Proof.Machine.execAdoptSample s
  | .sysreactRestart => Sys2Proof.Machine.execSysreactRestart s
  | .bgCheckPass intact co => Sys2Proof.Machine.execBgCheckPass intact s co
  | .imgVerify p v => Sys2Proof.Machine.execImgVerify p v s
  | .verifyDone => Sys2Proof.Machine.execVerifyDone s
  | .imgActivateLive p v => Sys2Proof.Machine.execImgActivateLive p v s
  | .imgActivateFull p v => Sys2Proof.Machine.execImgActivateFull p v s
  | .imgNoAction p v => Sys2Proof.Machine.execImgNoAction p v s
  | .reloadCheckDone => Sys2Proof.Machine.execReloadCheckDone s
  | .reloadCopyDone copyOk => Sys2Proof.Machine.execReloadCopyDone copyOk s
  | .fabTimerExpiry cell => Sys2Proof.Machine.execFabTimerExpiry cell s
  | .reactEdge => Sys2Proof.Machine.execReactEdge s
  | .grpdnEdge g => Sys2Proof.Machine.execGrpdnEdge g s
  | .fabSysReset co => Sys2Proof.Machine.execFabSysReset s co
  | .fabSeqStart => Sys2Proof.Machine.execFabSeqStart s
  | .fabSeqStop => Sys2Proof.Machine.execFabSeqStop s
  | .fabIrqEdge n => Sys2Proof.Machine.execFabIrqEdge n s
  | .ridgeTxEdge n => Sys2Proof.Machine.execRidgeTxEdge n s
  | .marginAbortEdge => Sys2Proof.Machine.execMarginAbortEdge s
  | .scanEdge codes avdd => Sys2Proof.Machine.execScanEdge codes avdd s
  | .publication => Sys2Proof.Machine.execPublication s
  | .scanStop p v => Sys2Proof.Machine.execScanStop p v s
  | .scanRestart p v => Sys2Proof.Machine.execScanRestart p v s
  | .resultRead p n => Sys2Proof.Machine.execResultRead p n s
  | .snap p v => Sys2Proof.Machine.execSnap p v s
  | .snapNext p v => Sys2Proof.Machine.execSnapNext p v s
  | .snapRead p n => Sys2Proof.Machine.execSnapRead p n s
  | .wetCheckStart p v => Sys2Proof.Machine.execWetCheckStart p v s
  | .wetCheckAbort p v => Sys2Proof.Machine.execWetCheckAbort p v s
  | .wetStepDone codes => Sys2Proof.Machine.execWetStepDone codes s
  | .comparatorCrossing n high width => Sys2Proof.Machine.execComparatorCrossing n high width s
  | .comparatorRelease n high => Sys2Proof.Machine.execComparatorRelease n high s
  | .deglitchQualify n high => Sys2Proof.Machine.execDeglitchQualify n high s
  | .armHoldExpiry n high => Sys2Proof.Machine.execArmHoldExpiry n high s
  | .newtStrobe n high code => Sys2Proof.Machine.execNewtStrobe n high code s
  | .latchClear p addr v => Sys2Proof.Machine.execLatchClear p addr v s
  | .selfCheckStart p v => Sys2Proof.Machine.execSelfCheckStart p v s
  | .selfCheckPeriodic => Sys2Proof.Machine.execSelfCheckPeriodic s
  | .selfCheckStep strobe => Sys2Proof.Machine.execSelfCheckStep strobe s
  | .seqStartCmd p v => Sys2Proof.Machine.execSeqStartCmd p v s
  | .seqStopCmd p v => Sys2Proof.Machine.execSeqStopCmd p v s
  | .seqHoldCmd p v => Sys2Proof.Machine.execSeqHoldCmd p v s
  | .seqReleaseCmd p v => Sys2Proof.Machine.execSeqReleaseCmd p v s
  | .grpStartCmd p v => Sys2Proof.Machine.execGrpStartCmd p v s
  | .grpStopCmd p v => Sys2Proof.Machine.execGrpStopCmd p v s
  | .startLaunch => Sys2Proof.Machine.execStartLaunch s
  | .stopLaunch => Sys2Proof.Machine.execStopLaunch s
  | .grpStartLaunch => Sys2Proof.Machine.execGrpStartLaunch s
  | .grpStopLaunch => Sys2Proof.Machine.execGrpStopLaunch s
  | .railOnInstant n => Sys2Proof.Machine.execRailOnInstant n s
  | .rampInWindow n => Sys2Proof.Machine.execRampInWindow n s
  | .rampTimeout n co => Sys2Proof.Machine.execRampTimeout n s co
  | .railOffInstant n => Sys2Proof.Machine.execRailOffInstant n s
  | .dischTimeout n => Sys2Proof.Machine.execDischTimeout n s
  | .retryGapExpiry n => Sys2Proof.Machine.execRetryGapExpiry n s
  | .minOffExpiry => Sys2Proof.Machine.execMinOffExpiry s
  | .forgiveExpiry n => Sys2Proof.Machine.execForgiveExpiry n s
  | .sysForgiveExpiry => Sys2Proof.Machine.execSysForgiveExpiry s
  | .bbmGapExpiry => Sys2Proof.Machine.execBbmGapExpiry s
  | .returnDwellExpiry => Sys2Proof.Machine.execReturnDwellExpiry s
  | .holdBattWrite p v => Sys2Proof.Machine.execHoldBattWrite p v s
  | .systemFabricReset co => Sys2Proof.Machine.execSystemFabricReset s co
  | .marginNominal p v => Sys2Proof.Machine.execMarginNominal p v s
  | .marginHigh p v => Sys2Proof.Machine.execMarginHigh p v s
  | .marginLow p v => Sys2Proof.Machine.execMarginLow p v s
  | .marginSlewStep m => Sys2Proof.Machine.execMarginSlewStep m s
  | .marginTimeout m => Sys2Proof.Machine.execMarginTimeout m s
  | .recordCommit => Sys2Proof.Machine.execRecordCommit s
  | .historyCommit => Sys2Proof.Machine.execHistoryCommit s
  | .counterFlush => Sys2Proof.Machine.execCounterFlush s
  | .logRebuildDone => Sys2Proof.Machine.execLogRebuildDone s
  | .logClear p v => Sys2Proof.Machine.execLogClear p v s
  | .counterClear p v => Sys2Proof.Machine.execCounterClear p v s
  | .logClearApply => Sys2Proof.Machine.execLogClearApply s
  | .logAddrWrite p v => Sys2Proof.Machine.execLogAddrWrite p v s
  | .logDataRead p => Sys2Proof.Machine.execLogDataRead p s
  | .nvmDataRead p => Sys2Proof.Machine.execNvmDataRead p s
  | .nvmDataWrite p v => Sys2Proof.Machine.execNvmDataWrite p v s
  | .nvmWriteDone p => Sys2Proof.Machine.execNvmWriteDone p s
  | .frameTick => Sys2Proof.Machine.execFrameTick s
  | .burstBSend => Sys2Proof.Machine.execBurstBSend s
  | .tickEdgeReceive e => Sys2Proof.Machine.execTickEdgeReceive e s
  | .headerReceive bytes => Sys2Proof.Machine.execHeaderReceive bytes s
  | .burstReceive bytes => Sys2Proof.Machine.execBurstReceive bytes s
  | .replySend => Sys2Proof.Machine.execReplySend s
  | .replyReceive n bytes arrival => Sys2Proof.Machine.execReplyReceive n bytes arrival s
  | .replyMissing n => Sys2Proof.Machine.execReplyMissing n s
  | .ridgeStart => Sys2Proof.Machine.execRidgeStart s
  | .ridgeStop => Sys2Proof.Machine.execRidgeStop s
  | .ridgeGrpStart => Sys2Proof.Machine.execRidgeGrpStart s
  | .ridgeGrpStop => Sys2Proof.Machine.execRidgeGrpStop s
  | .ridgeGrant => Sys2Proof.Machine.execRidgeGrant s
  | .ridgeEvent => Sys2Proof.Machine.execRidgeEvent s
  | .ridgeMargin => Sys2Proof.Machine.execRidgeMargin s
  | .ridgeReset co => Sys2Proof.Machine.execRidgeReset s co
  | .ridgeAdmit uid n => Sys2Proof.Machine.execRidgeAdmit uid n s
  | .ridgeReject uid => Sys2Proof.Machine.execRidgeReject uid s
  | .ridgeDelay d => Sys2Proof.Machine.execRidgeDelay d s
  | .ridgeRegRead addr => Sys2Proof.Machine.execRidgeRegRead addr s
  | .ridgeRegWrite addr v => Sys2Proof.Machine.execRidgeRegWrite addr v s
  | .croakSend => Sys2Proof.Machine.execCroakSend s
  | .croakAnswerTimeout => Sys2Proof.Machine.execCroakAnswerTimeout s
  | .croakReceive bytes => Sys2Proof.Machine.execCroakReceive bytes s
  | .lockTickTimeout => Sys2Proof.Machine.execLockTickTimeout s
  | .joiningTimeout => Sys2Proof.Machine.execJoiningTimeout s
  | .masterLoss => Sys2Proof.Machine.execMasterLoss s
  | .ridgeHcmdWrite p v => Sys2Proof.Machine.execRidgeHcmdWrite p v s
  | .proxyRead p v => Sys2Proof.Machine.execProxyRead p v s
  | .proxyWrite p v => Sys2Proof.Machine.execProxyWrite p v s
  | .proxyReadTimeout => Sys2Proof.Machine.execProxyReadTimeout s
  | .nodeForget p v => Sys2Proof.Machine.execNodeForget p v s
  | .zxEdge rising => Sys2Proof.Machine.execZxEdge rising s
  | .zxLost => Sys2Proof.Machine.execZxLost s
  | .grantLaunch => Sys2Proof.Machine.execGrantLaunch s
  | .grantEnd => Sys2Proof.Machine.execGrantEnd s
  | .unsensedClear p v => Sys2Proof.Machine.execUnsensedClear p v s
  | .dutyWrite p e v => Sys2Proof.Machine.execDutyWrite p e v s
  | .pairListenEnd => Sys2Proof.Machine.execPairListenEnd s
  | .pairClaimWaitExpiry => Sys2Proof.Machine.execPairClaimWaitExpiry s
  | .claimSend => Sys2Proof.Machine.execClaimSend s
  | .claimReceive bytes => Sys2Proof.Machine.execClaimReceive bytes s
  | .heartbeatSend => Sys2Proof.Machine.execHeartbeatSend s
  | .heartbeatReceive bytes => Sys2Proof.Machine.execHeartbeatReceive bytes s
  | .deltaReceive bytes => Sys2Proof.Machine.execDeltaReceive bytes s
  | .epochCommit => Sys2Proof.Machine.execEpochCommit s
  | .commitReceive bytes => Sys2Proof.Machine.execCommitReceive bytes s
  | .digestReceive bytes => Sys2Proof.Machine.execDigestReceive bytes s
  | .digestMissed => Sys2Proof.Machine.execDigestMissed s
  | .snapreqReceive bytes => Sys2Proof.Machine.execSnapreqReceive bytes s
  | .chunkReceive bytes => Sys2Proof.Machine.execChunkReceive bytes s
  | .yieldReceive bytes => Sys2Proof.Machine.execYieldReceive bytes s
  | .mirrorResend => Sys2Proof.Machine.execMirrorResend s
  | .guardToggle => Sys2Proof.Machine.execGuardToggle s
  | .partnerLost => Sys2Proof.Machine.execPartnerLost s
  | .yieldRequest p v => Sys2Proof.Machine.execYieldRequest p v s
  | .resyncRequest p v => Sys2Proof.Machine.execResyncRequest p v s
  | .yieldLaunch => Sys2Proof.Machine.execYieldLaunch s
  | .yieldAbandon => Sys2Proof.Machine.execYieldAbandon s
  | .balancePeriodStart => Sys2Proof.Machine.execBalancePeriodStart s
  | .balanceDutyEnd c => Sys2Proof.Machine.execBalanceDutyEnd c s
  | .balancePauseStart => Sys2Proof.Machine.execBalancePauseStart s
  | .balancePauseEnd => Sys2Proof.Machine.execBalancePauseEnd s
  | .enumReceive bytes => Sys2Proof.Machine.execEnumReceive bytes s
  | .enumTopTimeout => Sys2Proof.Machine.execEnumTopTimeout s
  | .takenReceive p1 bytes => Sys2Proof.Machine.execTakenReceive p1 bytes s
  | .enumEndReceive p1 bytes => Sys2Proof.Machine.execEnumEndReceive p1 bytes s
  | .enumTimeout p1 => Sys2Proof.Machine.execEnumTimeout p1 s
  | .frameRepeat up bytes => Sys2Proof.Machine.execFrameRepeat up bytes s
  | .chainRead bytes => Sys2Proof.Machine.execChainRead bytes s
  | .chainWrite bytes => Sys2Proof.Machine.execChainWrite bytes s
  | .chainSnap bytes => Sys2Proof.Machine.execChainSnap bytes s
  | .chainBaloff bytes => Sys2Proof.Machine.execChainBaloff bytes s
  | .chainSleep bytes => Sys2Proof.Machine.execChainSleep bytes s
  | .commTimeout => Sys2Proof.Machine.execCommTimeout s
  | .wakeToneDetect => Sys2Proof.Machine.execWakeToneDetect s
  | .stackWakePin => Sys2Proof.Machine.execStackWakePin s
  | .chainReplyReceive p1 bytes => Sys2Proof.Machine.execChainReplyReceive p1 bytes s
  | .chainReplyTimeout p1 => Sys2Proof.Machine.execChainReplyTimeout p1 s
  | .stackProxyRead p v => Sys2Proof.Machine.execStackProxyRead p v s
  | .stackProxyWrite p v => Sys2Proof.Machine.execStackProxyWrite p v s
  | .portWakeEnum p v => Sys2Proof.Machine.execPortWakeEnum p v s
  | .portEnum p v => Sys2Proof.Machine.execPortEnum p v s
  | .portSleep p v => Sys2Proof.Machine.execPortSleep p v s
  | .portBaloff p v => Sys2Proof.Machine.execPortBaloff p v s
  | .portSnap p v => Sys2Proof.Machine.execPortSnap p v s
  | .wakeWaitExpiry p1 => Sys2Proof.Machine.execWakeWaitExpiry p1 s
  | .hostReadTransaction bus bytes got => Sys2Proof.Machine.execHostReadTransaction bus bytes got s
  | .hostWriteTransaction bus bytes => Sys2Proof.Machine.execHostWriteTransaction bus bytes s
  | .writeQueueApply => Sys2Proof.Machine.execWriteQueueApply s
  | .writeQueueWaitTimeout => Sys2Proof.Machine.execWriteQueueWaitTimeout s
  | .i2cStallTimeout => Sys2Proof.Machine.execI2cStallTimeout s
  | .wdtKick p v => Sys2Proof.Machine.execWdtKick p v s
  | .wdtDeadline co => Sys2Proof.Machine.execWdtDeadline s co
  | .usbAttach => Sys2Proof.Machine.execUsbAttach s
  | .usbSuspend => Sys2Proof.Machine.execUsbSuspend s
  | .usbResume => Sys2Proof.Machine.execUsbResume s
  | .usbBusReset => Sys2Proof.Machine.execUsbBusReset s
  | .setLineCoding bytes => Sys2Proof.Machine.execSetLineCoding bytes s
  | .getLineCoding => Sys2Proof.Machine.execGetLineCoding s
  | .sendBreak => Sys2Proof.Machine.execSendBreak s
  | .setControlLineState dtr => Sys2Proof.Machine.execSetControlLineState dtr s
  | .unsupportedClassRequest req => Sys2Proof.Machine.execUnsupportedClassRequest req s
  | .info busy seq payload => Sys2Proof.Machine.execInfo busy seq payload s
  | .rread busy seq payload => Sys2Proof.Machine.execRread busy seq payload s
  | .rwrite busy seq payload => Sys2Proof.Machine.execRwrite busy seq payload s
  | .mread busy seq payload => Sys2Proof.Machine.execMread busy seq payload s
  | .mwrite busy seq payload => Sys2Proof.Machine.execMwrite busy seq payload s
  | .challenge busy seq payload => Sys2Proof.Machine.execChallenge busy seq payload s
  | .auth busy seq payload => Sys2Proof.Machine.execAuth busy seq payload s
  | .logout busy seq payload => Sys2Proof.Machine.execLogout busy seq payload s
  | .signedExport busy seq payload => Sys2Proof.Machine.execSignedExport busy seq payload s
  | .cert busy seq payload => Sys2Proof.Machine.execCert busy seq payload s
  | .svcReset busy seq payload co => Sys2Proof.Machine.execSvcReset busy seq payload s co
  | .fuseProgram busy seq payload cut => Sys2Proof.Machine.execFuseProgram busy seq payload cut s
  | .sessionIdleTimeout => Sys2Proof.Machine.execSessionIdleTimeout s
  | .nonceExpiry => Sys2Proof.Machine.execNonceExpiry s
  | .authLockoutExpiry => Sys2Proof.Machine.execAuthLockoutExpiry s
  | .gpioInputChange n level => Sys2Proof.Machine.execGpioInputChange n level s
  | .wakePinLevel level => Sys2Proof.Machine.execWakePinLevel level s
  | .startOfFrame => Sys2Proof.Machine.execStartOfFrame s
  | .usbStandardRequest setup => Sys2Proof.Machine.execUsbStandardRequest setup s
  | .suindelmFrameDiscard bytes => Sys2Proof.Machine.execSuindelmFrameDiscard bytes s
  | .suindelmUnknownType busy type seq payload => Sys2Proof.Machine.execSuindelmUnknownType busy type seq payload s
  | .mirrorFrameDiscard bytes => Sys2Proof.Machine.execMirrorFrameDiscard bytes s
  | .croakCollision => Sys2Proof.Machine.execCroakCollision s
  | .headerCrcFail bytes => Sys2Proof.Machine.execHeaderCrcFail bytes s

end Sys2Proof.Machine
end

