-- ==== Sys2Proof/Machine/Step.lean ====
section
/-! DEFINITION. The step: the command at the front of the queue, or one microsecond of time on an empty queue
(spec/03_supplies_clocks_and_start_up.md R88 to R91, R111; log entry 1). -/

namespace Sys2Proof.Machine

/-- Steps of `CLK_AON`, 32.768 kHz, within n microseconds. -/
def aonSteps (n : Nat) : Nat := n * 512 / 15625

/-- Whole microseconds in k steps of `CLK_AON`. -/
def aonUs (k : Nat) : Nat := k * 15625 / 512

/-- What a tick of `CLK_TB` advances: `TB_NOW` and `TB_UP` (R91). In stack sleep, and in a wake from it until the timebase runs,
`TB_UP` goes on alone, carried by `CLK_AON` in steps of 30.5 µs. A correction still being slewed shifts `TB_NOW` against the ticks, by
at most 500 ppm, and never backwards (R89, R368). -/
def State.tbTick (s : State) : State :=
  s.modTb fun t =>
    if t.running then (t.slewed).counted
    else if s.pwr.sleep || s.boot.wakeRun then
      { t with sleepUs := t.sleepUs + 1, up := t.up + BitVec.ofNat 64 (aonUs (aonSteps (t.sleepUs + 1)) - aonUs (aonSteps t.sleepUs)) }
    else t

/-- The divider of the 1 ms ticks, and the counts that use it (R186, R247, R344). -/
def State.divTick (s : State) : Bool × State :=
  let ms := decide (999 ≤ s.fab.div)
  let s := s.modFab fun f => { f with div := if ms then 0 else f.div + 1 }
  if ms then
    let per := s.regFld Reg.cmpChkCfg 0 16
    let s := s.modCmp fun c => { c with perCnt := if per = 0 then 0 else c.perCnt + 1 }
    (true, s.modNvm fun v => { v with flushMs := v.flushMs + 1 })
  else (false, s)

/-- In HOLD, and while the clocks are gated, no delay and no timeout of the sequencer advances (R278, R131), and gated clocks stop
the margin DACs too. -/
def State.holdTick (s : State) : State :=
  if s.seqRuns && !s.seqCounts then
    let s := s.modSeq fun q =>
      { q with srcAt := q.srcAt + 1, downAt := q.downAt + 1, rails := q.rails.map fun r => { r with since := r.since + 1 } }
    if s.clk.gated then
      s.modMrg fun g => { g with dacs := g.dacs.map fun d => { d with stepAt := d.stepAt + 1, cmdAt := d.cmdAt + 1 } }
    else s
  else s

/-- What the engines on `CLK_CORE` do by themselves in a microsecond: log writer, wet check, mirror stream, host write queue. The clock
stands in DOZE and while a CLKFAIL reset gates it, and with it a self-check in progress (R80, R131, R247). -/
def State.coreTick (s : State) : State :=
  if !s.coreRuns then s.modCmp fun c => { c with chk := c.chk.map fun k => { k with since := k.since + 1 } }
  else
    let s := if s.isShadow then s else s.logTick
    let s := s.wetTick.pairTick
    if s.hif.queue.isEmpty then s else s.queueDrain

/-- One microsecond in which no command acts. Without power only the model's own time passes. -/
def State.tick (s : State) : State :=
  let old := s.tb.now
  let s := { s with ticks := s.ticks + 1 }
  if !s.supply.aon then s
  else
    let s := (s.tbTick.ridgeTick old).holdTick.strapTick
    let (ms, s) := s.divTick
    if s.pwr.sleep then s else ((s.timerTick ms).fabTick).coreTick

/-- The step: `exec` on the command at the front, with the rest of the queue; on an empty queue a tick. -/
def step (s : State) : Host.Outcome State Fault Refusal :=
  match s.pending with
  | c :: rest => exec c { s with pending := rest }
  | [] => .next s.tick

/-- The command that a word spells, put at the front of the queue; the state itself where the word spells none. -/
def State.withFetchWord (s : State) (nbits w : Nat) : State :=
  match Sys2Proof.decodeTableWord nbits w with
  | some c => { s with pending := c :: s.pending }
  | none => s

end Sys2Proof.Machine
end

