-- ==== Sys2Proof/Machine/Pads.lean ====
section
/-! DEFINITION. What stands on the pins of a state (spec/02_pins_and_package.md R53, Table 2-10; spec/11_ridge_link.md R358, R361,
R362, R367), and the first fault of a cascade (spec/17_guarantees_and_worked_designs.md R545). Views of the state: nothing here
changes it. -/

namespace Sys2Proof.Machine

/-! ### Phases and pins (R53, Table 2-10) -/

/-- The phases of Table 2-10. -/
inductive PinPhase where
  | unpowered | preShadow | reset | released | bench | safeIdle | sleep
  deriving DecidableEq, Repr

/-- What the device does to a pin: nothing, a weak pull, or a driven level. -/
inductive Pad where
  | highZ | pullUp | pullDown | low | high
  deriving DecidableEq, Repr

/-- The phase a device is in. -/
def State.pinPhase (s : State) : PinPhase :=
  if !s.supply.aon then .unpowered
  else if s.boot.bench then .bench
  else if s.pwr.sleep then .sleep
  else if s.role.state = .safeIdle then .safeIdle
  else if !s.boot.shadowOk then .preShadow
  else if s.rst.run.isSome then .reset
  else .released

/-- A logic input on VDDIO: the host inputs, ZX, MRX and a GPIO without an output function. -/
def State.inputPad (s : State) : Pad :=
  match s.pinPhase with
  | .unpowered | .bench => .highZ
  | .preShadow | .reset | .released | .safeIdle | .sleep => .pullUp

/-- SDO between transactions, and MTX between frames. -/
def State.serialPad (s : State) : Pad := s.inputPad

/-- RESET_N and WAKE. -/
def State.aonPad (s : State) : Pad := if s.supply.aon then .pullUp else .highZ

/-- TEST. -/
def State.testPad (s : State) : Pad := if s.supply.aon then .pullDown else .highZ

/-- A pin the device drives by its function: an open drain in `od`, else push-pull, at level `b`. -/
def drivePad (od b : Bool) : Pad := if b then (if od then .highZ else .high) else .low

/-- GPIO n: its output function, once it has one (R39, Table 2-13). -/
def State.gpioPad (s : State) (n : Nat) : Pad :=
  if !s.gpioOn then s.inputPad
  else
    match s.gpioFn n with
    | 2 => drivePad false (s.regBit Reg.sysGpioOut n)
    | 3 => drivePad true (s.regBit Reg.sysGpioOut n)
    | 4 => drivePad false (s.sinkBit (0x28 + n))
    | 5 => drivePad true (s.sinkBit (0x28 + n))
    | 6 => if n = 6 then drivePad false s.pair.gpio6 else s.inputPad
    | _ => s.inputPad

/-- PG (R62, R70). -/
def State.pgPad (s : State) : Pad :=
  if !s.supply.aon || !s.supply.vddioOk then .highZ else drivePad false s.pgHigh

/-- IRQ_N, an open drain (R495). -/
def State.irqPad (s : State) : Pad := drivePad true (!s.irqN)

/-- FAULT_N, an open drain (R61). -/
def State.faultPad (s : State) : Pad := drivePad true (!(s.supply.aon && s.faultAsserted))

/-- RSTOUT_N, an open drain (R60). -/
def State.rstoutPad (s : State) : Pad := drivePad true (!(s.supply.aon && s.pins.rstout))

/-- EN n: the passive pull-down, LOW, HIGH to VDDIO, high-Z, or the drive mode of the role (R53 to R58). A sinking current is `low`. -/
def State.enPad (s : State) (n : Nat) : Pad :=
  match s.pins.en.getD n .low with
  | .pullDown => .pullDown
  | .low => .low
  | .high => if s.supply.vddioOk then .high else .highZ
  | .highZ => .highZ
  | .role m a =>
    match m.toNat with
    | 0 => drivePad true (!a)
    | 1 => if a && !s.supply.vddioOk then .highZ else drivePad false a
    | 2 => drivePad true (!a)
    | _ => drivePad false a

/-- USBDP has its pull-up (R506). -/
def State.usbPad (s : State) : Pad := if s.svc.attached then .pullUp else .highZ

/-- AIN n and its ground sense work: a role runs with a channel there. -/
def State.ainOn (s : State) (n : Nat) : Bool := s.running && decide (s.chKind n ≠ 0)

/-- MRG m carries its margin current; in NOMINAL it is high-Z (R317). -/
def State.mrgOn (s : State) (m : Nat) : Bool := s.running && decide ((s.dac m).state ≠ .nominal)

/-! ### The Ridge pairs (R358, R361, R362, R367) -/

/-- Time on the line of n bytes, 0.8 µs a byte, in whole microseconds begun. -/
def ridgeTime (n : Nat) : Nat := (8 * n + 9) / 10

/-- The tick pair: driven only by the master, negative at rest, positive for 2.0 µs from the tick; none: high-Z. -/
def State.tickPair (s : State) : Option Bool :=
  if s.mstDrives then some (!s.ridge.m.sentB && decide (s.ticks < s.ridge.txAt + 2)) else none

/-- The data driver is enabled: the master in the header, 4.0 to 28.8 µs after the tick, in burst A from 30.0 µs on and in burst B; a
slave while it sends its reply or croak. -/
def State.dataDriven (s : State) : Bool :=
  let o := s.ticks - s.ridge.txAt
  let n := s.ridge.tx.length
  if s.mstDrives then
    if s.ridge.m.cut then false
    else if s.ridge.m.sentB then decide (o < ridgeTime n)
    else decide (4 ≤ o ∧ o < 29) || decide (30 ≤ o ∧ o < 30 + ridgeTime (n - 31))
  else s.slaveDrives && decide (o < ridgeTime n)

/-! ### The chain ports (R462, R471, Table 2-10) -/

/-- A chain master's port may drive its pair; otherwise the pair is high-Z (R478). -/
def State.chainPairOn (s : State) (p1 : Bool) : Bool := s.portLive p1 && decide ((s.port p1).state ≠ .off)

/-! ### The first fault of a cascade (R545) -/

/-- The first-fault data of this node, while `REACT_FIRST.VALID` = 1: the rail, which is its channel, and the Ridge time. -/
def State.firstFault (s : State) : Option (Nat × BitVec 32) :=
  if s.regBit Reg.reactFirst 31 then some (s.regFld Reg.reactFirst 16 5, s.reg Reg.reactFirstT) else none

/-- One node's first fault: node number, channel and Ridge time. -/
structure NodeFault where
  node : Nat
  ch   : Nat
  t    : BitVec 32
  deriving DecidableEq, Repr

/-- Fault a comes before fault b: smaller time since `SEQ_T0` of the master, then lower node, then lower channel. -/
def faultBefore (t0 : BitVec 32) (a b : NodeFault) : Bool :=
  let da := (a.t - t0).toNat
  let db := (b.t - t0).toNat
  decide (da < db) || (decide (da = db) && (decide (a.node < b.node) || (decide (a.node = b.node) && decide (a.ch < b.ch))))

/-- The cascade first fault. A fault more than 2^31 after `SEQ_T0` takes no part. -/
def cascadeFirst (t0 : BitVec 32) (l : List NodeFault) : Option NodeFault :=
  (l.filter fun f => decide ((f.t - t0).toNat ≤ 2 ^ 31)).foldl
    (fun m f => match m with
      | none => some f
      | some g => if faultBefore t0 f g then some f else some g) none

end Sys2Proof.Machine
end

