-- ==== Sys2Proof/WellFormed.lean ====
section
/-! DEFINITION. When a command is one that the device's surroundings can present: the ranges of its operands
(spec/00_scope.md R3; the row of the command in spec/opcode_table.json). The meanings are total: an ill-formed command
finds no register, rail or port and changes nothing there, or its frame is discarded. -/

namespace Sys2Proof

/-- A register address: word-aligned, of 16 bits (R5). -/
def addrWf (a : Nat) : Bool := decide (a < 0x10000) && decide (a % 4 = 0)

/-- A channel or rail number (R3). -/
def chanWf (n : Nat) : Bool := decide (n < 24)

/-- The sources of one cycle are named once, and none is the row's own; a coinciding POR or CLKFAIL is that source's own row, which
names the others (R124). -/
def coWf (own : RstSource) (co : List RstSource) : Bool :=
  decide co.Nodup && decide (own ∉ co) && decide (RstSource.por ∉ co) && decide (RstSource.clkfail ∉ co)

/-- A frame has at least one byte. -/
def frameWf (bytes : List Byte) : Bool := decide (bytes ≠ [])

/-- A Suindelm payload has at most 1,024 bytes (R512, R513). -/
def payloadWf (payload : List Byte) : Bool := decide (payload.length ≤ 1024)

/-- A corrected code has 16 bits, signed (R200). -/
def codeWf (c : Int) : Bool := decide (-32768 ≤ c) && decide (c ≤ 32767)

/-- The command's operands lie in the ranges the table and the spec give them. -/
def Instr.wf : Instr → Bool
  | .registerWrite _ a _ => addrWf a
  | .liveWrite _ a _ => addrWf a
  | .rcFieldRead _ a => addrWf a
  | .latchClear _ a _ => addrWf a
  | .ridgeRegRead a => addrWf a
  | .ridgeRegWrite a _ => addrWf a
  | .srcFaultEdge _ => true
  | .pinReset co => coWf .pin co
  | .parityError _ co => coWf .parity co
  | .ecc2Error _ co => coWf .ecc2 co
  | .blockResetEnd b => decide (b < 5)
  | .fabTimerExpiry k => decide (k < 64)
  | .grpdnEdge g => decide (g < 8)
  | .scanEdge codes _ => decide (codes.length = 24) && codes.all codeWf
  | .wetStepDone codes => decide (codes.length < 64) && codes.all codeWf
  | .resultRead _ n => chanWf n
  | .snapRead _ n => chanWf n
  | .comparatorCrossing n _ _ => chanWf n
  | .comparatorRelease n _ => chanWf n
  | .deglitchQualify n _ => chanWf n
  | .armHoldExpiry n _ => chanWf n
  | .newtStrobe n _ code => chanWf n && codeWf code
  | .railOnInstant n => chanWf n
  | .rampInWindow n => chanWf n
  | .rampTimeout n _ => chanWf n
  | .railOffInstant n => chanWf n
  | .dischTimeout n => chanWf n
  | .retryGapExpiry n => chanWf n
  | .forgiveExpiry n => chanWf n
  | .marginSlewStep m => decide (m < 8)
  | .marginTimeout m => decide (m < 8)
  | .headerReceive b => frameWf b
  | .burstReceive b => frameWf b
  | .replyReceive n b _ => decide (1 ≤ n) && decide (n ≤ 31) && frameWf b
  | .replyMissing n => decide (1 ≤ n) && decide (n ≤ 31)
  | .ridgeAdmit _ n => decide (1 ≤ n) && decide (n ≤ 31)
  | .croakReceive b => frameWf b
  | .headerCrcFail b => frameWf b
  | .dutyWrite _ e _ => decide (e < 64)
  | .claimReceive b => frameWf b
  | .heartbeatReceive b => frameWf b
  | .deltaReceive b => frameWf b
  | .commitReceive b => frameWf b
  | .digestReceive b => frameWf b
  | .snapreqReceive b => frameWf b
  | .chunkReceive b => frameWf b
  | .yieldReceive b => frameWf b
  | .mirrorFrameDiscard b => frameWf b
  | .balanceDutyEnd c => decide (c < 16)
  | .enumReceive b => frameWf b
  | .takenReceive _ b => frameWf b
  | .enumEndReceive _ b => frameWf b
  | .frameRepeat _ b => frameWf b
  | .chainRead b => frameWf b
  | .chainWrite b => frameWf b
  | .chainSnap b => frameWf b
  | .chainBaloff b => frameWf b
  | .chainSleep b => frameWf b
  | .chainReplyReceive _ b => frameWf b
  | .hostReadTransaction _ b _ => frameWf b
  | .hostWriteTransaction _ b => frameWf b
  | .setLineCoding b => decide (b.length ≤ 64)
  | .info _ _ p => payloadWf p
  | .rread _ _ p => payloadWf p
  | .rwrite _ _ p => payloadWf p
  | .mread _ _ p => payloadWf p
  | .mwrite _ _ p => payloadWf p
  | .challenge _ _ p => payloadWf p
  | .auth _ _ p => payloadWf p
  | .logout _ _ p => payloadWf p
  | .signedExport _ _ p => payloadWf p
  | .cert _ _ p => payloadWf p
  | .svcReset _ _ p co => payloadWf p && coWf .svc co
  | .fuseProgram _ _ p _ => payloadWf p
  | .suindelmUnknownType _ _ _ p => payloadWf p
  | .gpioInputChange n _ => decide (n < 8)
  | .usbStandardRequest setup => decide (setup.length = 8)
  | .suindelmFrameDiscard b => frameWf b
  | .powerOnReset => true
  | .porRearm => true
  | .rcReady => true
  | .regulatorsReady => true
  | .fuseLoadDone _ => true
  | .xtalTimeout => true
  | .pllLock => true
  | .imageSelectDone => true
  | .resetReleaseStep => true
  | .hostIfRelease => true
  | .rstoutRelease => true
  | .cpReady => true
  | .stage6Done => true
  | .stageTimeout => true
  | .retryWaitExpiry => true
  | .vddioRise => true
  | .vddioLost => true
  | .srcRecover => true
  | .clockFail _ co => coWf .clkfail co
  | .tbUpLoRead _ => true
  | .benchEntry => true
  | .benchExit co => coWf .por co
  | .vbusLoss => true
  | .dozeRequest _ _ => true
  | .dozeWake _ => true
  | .masterListenEnd => true
  | .secondMasterDetected => true
  | .resetPinRelease => true
  | .resetAssertMinExpiry => true
  | .rstCmdWrite _ _ co => coWf .host co
  | .blockResetRequest _ _ => true
  | .adoptSample => true
  | .sysreactRestart => true
  | .bgCheckPass _ co => coWf .image co
  | .imgVerify _ _ => true
  | .verifyDone => true
  | .imgActivateLive _ _ => true
  | .imgActivateFull _ _ => true
  | .imgNoAction _ _ => true
  | .reloadCheckDone => true
  | .reloadCopyDone _ => true
  | .reactEdge => true
  | .fabSysReset co => coWf .fabric co
  | .fabSeqStart => true
  | .fabSeqStop => true
  | .fabIrqEdge n => decide (n < 8)
  | .ridgeTxEdge n => decide (n < 16)
  | .marginAbortEdge => true
  | .publication => true
  | .scanStop _ _ => true
  | .scanRestart _ _ => true
  | .snap _ _ => true
  | .snapNext _ _ => true
  | .wetCheckStart _ _ => true
  | .wetCheckAbort _ _ => true
  | .selfCheckStart _ _ => true
  | .selfCheckPeriodic => true
  | .selfCheckStep _ => true
  | .seqStartCmd _ _ => true
  | .seqStopCmd _ _ => true
  | .seqHoldCmd _ _ => true
  | .seqReleaseCmd _ _ => true
  | .grpStartCmd _ _ => true
  | .grpStopCmd _ _ => true
  | .startLaunch => true
  | .stopLaunch => true
  | .grpStartLaunch => true
  | .grpStopLaunch => true
  | .minOffExpiry => true
  | .sysForgiveExpiry => true
  | .bbmGapExpiry => true
  | .returnDwellExpiry => true
  | .holdBattWrite _ _ => true
  | .systemFabricReset co => coWf .fabric co
  | .marginNominal _ _ => true
  | .marginHigh _ _ => true
  | .marginLow _ _ => true
  | .recordCommit => true
  | .historyCommit => true
  | .counterFlush => true
  | .logRebuildDone => true
  | .logClear _ _ => true
  | .counterClear _ _ => true
  | .logClearApply => true
  | .logAddrWrite _ _ => true
  | .logDataRead _ => true
  | .nvmDataRead _ => true
  | .nvmDataWrite _ _ => true
  | .nvmWriteDone _ => true
  | .frameTick => true
  | .burstBSend => true
  | .tickEdgeReceive _ => true
  | .replySend => true
  | .ridgeStart => true
  | .ridgeStop => true
  | .ridgeGrpStart => true
  | .ridgeGrpStop => true
  | .ridgeGrant => true
  | .ridgeEvent => true
  | .ridgeMargin => true
  | .ridgeReset co => coWf .ridge co
  | .ridgeReject _ => true
  | .ridgeDelay _ => true
  | .croakSend => true
  | .croakAnswerTimeout => true
  | .lockTickTimeout => true
  | .joiningTimeout => true
  | .masterLoss => true
  | .ridgeHcmdWrite _ _ => true
  | .proxyRead _ _ => true
  | .proxyWrite _ _ => true
  | .proxyReadTimeout => true
  | .nodeForget _ _ => true
  | .zxEdge _ => true
  | .zxLost => true
  | .grantLaunch => true
  | .grantEnd => true
  | .unsensedClear _ _ => true
  | .pairListenEnd => true
  | .pairClaimWaitExpiry => true
  | .claimSend => true
  | .heartbeatSend => true
  | .epochCommit => true
  | .digestMissed => true
  | .mirrorResend => true
  | .guardToggle => true
  | .partnerLost => true
  | .yieldRequest _ _ => true
  | .resyncRequest _ _ => true
  | .yieldLaunch => true
  | .yieldAbandon => true
  | .balancePeriodStart => true
  | .balancePauseStart => true
  | .balancePauseEnd => true
  | .enumTopTimeout => true
  | .enumTimeout _ => true
  | .commTimeout => true
  | .wakeToneDetect => true
  | .stackWakePin => true
  | .chainReplyTimeout _ => true
  | .stackProxyRead _ _ => true
  | .stackProxyWrite _ _ => true
  | .portWakeEnum _ _ => true
  | .portEnum _ _ => true
  | .portSleep _ _ => true
  | .portBaloff _ _ => true
  | .portSnap _ _ => true
  | .wakeWaitExpiry _ => true
  | .writeQueueApply => true
  | .writeQueueWaitTimeout => true
  | .i2cStallTimeout => true
  | .wdtKick _ _ => true
  | .wdtDeadline co => coWf .wdt co
  | .usbAttach => true
  | .usbSuspend => true
  | .usbResume => true
  | .usbBusReset => true
  | .getLineCoding => true
  | .sendBreak => true
  | .setControlLineState _ => true
  | .unsupportedClassRequest _ => true
  | .sessionIdleTimeout => true
  | .nonceExpiry => true
  | .authLockoutExpiry => true
  | .wakePinLevel _ => true
  | .startOfFrame => true
  | .croakCollision => true
end Sys2Proof
end

