-- ==== Sys2Proof/Safety.lean ====
section
/-! DEFINITION. What the statements speak of: a command that answers, an access that reaches its register, a reset that
begins, and the invariant of the stores (spec/00_scope.md R3, R8; spec/04_reset_controller.md R122 to R126). -/

namespace Sys2Proof.Machine

/-- The command answers a next state, and P holds of it. -/
def Answers (c : Instr) (s : State) (P : State → Prop) : Prop := ∃ t, exec c s = .next t ∧ P t

/-- A write by path p arrives at the register at a: the path is open, the service port's level and policy allow the write, the
host is not one whose writes are ignored, the block is not in block reset, and the register exists for the path. -/
def Reaches (s : State) (p : Port) (a : Nat) : Prop :=
  s.pathOpen p = true ∧ (p = .svc → s.svcWriteStatus a = 0) ∧ (p = .host → s.hostIgnored a = false) ∧ s.blkErr a = false ∧
    (s.reach p a).isSome = true

/-- A read by path p meets the register at a. -/
def Readable (s : State) (p : Port) (a : Nat) : Prop :=
  s.pathOpen p = true ∧ s.blkErr a = false ∧ (s.reach p a).isSome = true

/-- Power, no reset in progress, no retry wait, clocks running. -/
def Settled (s : State) : Prop :=
  s.supply.aon = true ∧ s.rst.run = none ∧ s.boot.retryEnd = none ∧ s.clk.gated = false

/-- A reset by source c alone begins in t: its level is the one R122 gives in s, `RST_CAUSE` shows source and level, every domain
is held, the access paths are closed, and the link address is gone. -/
def ResetBegins (c : RstSource) (s t : State) : Prop :=
  let l := (s.levelFor (plainReq c)).1
  t.rst.run = some { level := levelOf l, asserted := true, since := s.ticks } ∧
    fld t.rst.cause 0 4 = srcCode c ∧ fld t.rst.cause 4 2 = l % 4 ∧
    t.rst.domains = 0 ∧ t.rst.hifUp = false ∧ t.svc.attached = false ∧ t.role.addr = 0

/-- Register file and MRAM stand in the one canonical form. -/
def StoresWf (s : State) : Prop := Store.wf regDflt s.regs = true ∧ Store.wf mramDflt s.nvm.mram = true

/-- Every list with a fixed number of elements has that number. -/
def ListsWf (s : State) : Prop :=
  s.pins.en.length = 24 ∧ s.cmp.ch.length = 24 ∧ s.meas.ch.length = 24 ∧ s.seq.rails.length = 24 ∧ s.react.rails.length = 24 ∧
    s.mrg.dacs.length = 8 ∧ s.fab.cells.length = 64 ∧ s.sched.loads.length = 64 ∧ s.sched.sup.length = 24 ∧
    s.ridge.m.nodes.length = 32 ∧ s.nvm.cnt.length = 96 ∧ s.svc.fuses.length = 64 ∧ s.svc.shadow.length = 64

/-- A comparator works continuously now: armed, past its hold after power-up, not blind, and the other one of its channel is
released. -/
def WorksNow (s : State) (n : Nat) (high : Bool) : Prop :=
  s.cmp.armed = true ∧ (s.comp n high).holdTo = none ∧ s.blind n high = false ∧ s.workMode n high = 1 ∧
    (s.comp n (!high)).out = false

/-- The word has left by the path it was asked on. -/
def Delivered (p : Port) (t : State) (w : Word) : Prop :=
  match p with
  | .host => t.hif.tx = beBytes 4 w.toNat
  | .svc => t.svc.tx = [leBytes 4 w.toNat]
  | .ridge => t.ridge.s.data = w ∧ t.ridge.s.dvalid = true
  | .chain => t.unit.txD = leBytes 4 w.toNat

/-- The service port answers a request with a status, in one frame or more (Tables 16-3, 16-5), each escaped behind its delimiter. -/
def SvcAnswers (t : State) (type : Nat) (seq : Byte) (status : Nat) : Prop :=
  ∃ f rest, t.svc.tx = svcLine f :: rest ∧ leAt f 2 1 = type + 128 ∧ leAt f 3 1 = seq.toNat ∧ leAt f 4 1 = status

/-- A new request reaches the service port: it answers, and the request is no repeat of the last one. -/
def SvcNew (s : State) (type : Nat) (seq : Byte) (payload : List Byte) : Prop :=
  s.usbOn = true ∧ payload.length ≤ 1024 ∧ s.svc.lastReq ≠ some (b8 type, seq, payload)

/-- The launch time that a write of `SEQ_CTRL` asks for: the register, or the earliest one with `NOW` (Table 8-13). -/
def launchTime (s : State) (v : Word) : BitVec 32 := if bit v 7 then s.after s.minLead else s.reg Reg.seqLaunch

end Sys2Proof.Machine
end

