-- ==== Sys2Proof/Certificates/Slice0/Obligations.lean ====
section
/-! DEFINITION. The statements for the provers. Hypotheses stand on the state and the operands alone; the conclusion of a
completion statement is that the command answers a next state, with what that state holds. -/

open Sys2Proof Sys2Proof.Machine


/-! ### The machine as a whole -/

/-- A step runs the command at the front of the queue on the state with the queue's rest. -/
def Obligations.StepRunsFrontCommand : Prop :=
  ∀ (c : Instr) (rest : List Instr) (s : State), s.pending = c :: rest → step s = exec c { s with pending := rest }

/-- No command touches the queue or the model's time: both move in `step` alone. On an empty queue a step is one microsecond (log
entry 1). With power and a running timebase `TB_UP` advances by one, and `TB_NOW` by one while no correction is being slewed in; a
correction shifts it by at most one count, never backwards. In stack sleep `TB_UP` alone goes on, carried by `CLK_AON`. Without power only
the model's time passes. -/
def Obligations.QueueAndTimeMoveInStep : Prop :=
  (∀ (c : Instr) (s t : State), exec c s = .next t → t.pending = s.pending ∧ t.ticks = s.ticks) ∧
  (∀ s : State, s.pending = [] →
      ∃ t, step s = .next t ∧ t.pending = [] ∧ t.ticks = s.ticks + 1 ∧ t.svc.fuses = s.svc.fuses ∧
        (s.supply.aon = true → s.tb.running = true →
          t.tb.up = s.tb.up + 1 ∧
          (0 ≤ s.tb.frac → s.tb.frac < 2000 →
            (s.tb.slew = 0 → t.tb.now = s.tb.now + 1 ∧ t.tb.frac = s.tb.frac) ∧
            (t.tb.now = s.tb.now ∨ t.tb.now = s.tb.now + 1 ∨ t.tb.now = s.tb.now + 2) ∧ 0 ≤ t.tb.frac ∧ t.tb.frac < 2000 ∧
            t.tb.slew.natAbs = s.tb.slew.natAbs - 1)) ∧
        (s.supply.aon = true → s.tb.running = false → t.tb.now = s.tb.now ∧
          (s.pwr.sleep = false → s.boot.wakeRun = false → t.tb = s.tb) ∧
          (s.pwr.sleep = true →
            t.tb.up = s.tb.up + BitVec.ofNat 64 (aonUs (aonSteps (s.tb.sleepUs + 1)) - aonUs (aonSteps s.tb.sleepUs)))) ∧
        (s.supply.aon = false → t = { s with ticks := s.ticks + 1 }))

/-- A fuse bit never clears; the array changes only by FUSE at FACTORY on a working port; and a session's level rises only by AUTH
with a valid nonce and outside a lockout. -/
def Obligations.FusesAndLevelsGuarded : Prop :=
  ∀ (c : Instr) (s t : State), exec c s = .next t →
    (∀ w i, bit (s.svc.fuses.getD w 0) i = true → bit (t.svc.fuses.getD w 0) i = true) ∧
    (t.svc.fuses ≠ s.svc.fuses → (∃ q p k, c = .fuseProgram false q p k) ∧ s.svc.level = .factory ∧ s.usbOn = true) ∧
    (t.svc.level = s.svc.level ∨ t.svc.level = .view ∨
      ((∃ q p, c = .auth false q p) ∧ s.nonceValid.isSome = true ∧ s.svc.lockEnd = none))

/-- Frames of the commands that stay within one or two blocks of the state: each names the blocks it may change, and everything
else, MRAM, registers and pins included, stays as it was. -/
def Obligations.SmallFrames : Prop :=
  ∀ (c : Instr) (s t : State), exec c s = .next t →
    match c with
    | .wakeWaitExpiry _ => t = { s with chain := t.chain }
    | .startOfFrame | .xtalTimeout => t = { s with clk := t.clk }
    | .selfCheckPeriodic => t = { s with cmp := t.cmp }
    | .fabTimerExpiry _ => t = { s with fab := t.fab }
    | .i2cStallTimeout => t = { s with hif := t.hif }
    | .marginSlewStep _ | .marginTimeout _ => t = { s with mrg := t.mrg }
    | .counterFlush | .historyCommit | .recordCommit => t = { s with nvm := t.nvm }
    | .claimSend | .guardToggle | .heartbeatSend | .mirrorResend | .yieldAbandon => t = { s with pair := t.pair }
    | .resetPinRelease | .rstoutRelease | .wakePinLevel _ => t = { s with pins := t.pins }
    | .forgiveExpiry _ | .sysForgiveExpiry => t = { s with react := t.react }
    | .croakCollision | .mirrorFrameDiscard _ | .suindelmFrameDiscard _ => t = { s with regs := t.regs }
    | .burstBSend | .croakSend | .joiningTimeout | .lockTickTimeout | .replySend | .ridgeAdmit _ _ | .tickEdgeReceive _ => t = { s with ridge := t.ridge }
    | .vddioLost | .vddioRise => t = { s with supply := t.supply }
    | .authLockoutExpiry | .getLineCoding | .nonceExpiry | .sendBreak | .sessionIdleTimeout | .setControlLineState _
    | .setLineCoding _ | .unsupportedClassRequest _ | .usbStandardRequest _ => t = { s with svc := t.svc }
    | .enumTopTimeout => t = { s with unit := t.unit }
    | .rcReady => t = { s with boot := t.boot, clk := t.clk }
    | .masterListenEnd => t = { s with boot := t.boot, ridge := t.ridge }
    | .retryWaitExpiry => t = { s with boot := t.boot, rst := t.rst }
    | .resetAssertMinExpiry => t = { s with boot := t.boot, rst := t.rst, supply := t.supply }
    | .regulatorsReady => t = { s with boot := t.boot, pins := t.pins, unit := t.unit }
    | .usbBusReset | .usbResume | .usbSuspend => t = { s with clk := t.clk, svc := t.svc }
    | .marginAbortEdge => t = { s with fab := t.fab, mrg := t.mrg }
    | .ridgeEvent => t = { s with fab := t.fab, ridge := t.ridge }
    | .croakAnswerTimeout => t = { s with free := t.free, ridge := t.ridge }
    | .writeQueueWaitTimeout => t = { s with nvm := t.nvm, hif := t.hif }
    | .gpioInputChange _ _ => t = { s with pins := t.pins, pair := t.pair }
    | .balanceDutyEnd _ | .balancePauseEnd | .balancePauseStart | .balancePeriodStart => t = { s with pins := t.pins, unit := t.unit }
    | .chainReplyTimeout _ | .enumEndReceive _ _ | .enumTimeout _ => t = { s with regs := t.regs, chain := t.chain }
    | .fabIrqEdge _ => t = { s with regs := t.regs, fab := t.fab }
    | .logClearApply => t = { s with regs := t.regs, nvm := t.nvm }
    | .digestMissed | .epochCommit | .snapreqReceive _ | .yieldReceive _ => t = { s with regs := t.regs, pair := t.pair }
    | .headerCrcFail _ | .proxyReadTimeout | .ridgeReject _ => t = { s with regs := t.regs, ridge := t.ridge }
    | .ridgeDelay _ => t = { s with regs := t.regs, ridge := t.ridge, tb := t.tb }
    | .zxLost => t = { s with regs := t.regs, sched := t.sched }
    | .auth _ _ _ | .info _ _ _ | .logout _ _ _ | .suindelmUnknownType _ _ _ _ => t = { s with regs := t.regs, svc := t.svc }
    | .chainSnap _ | .frameRepeat _ _ | .takenReceive _ _ => t = { s with regs := t.regs, unit := t.unit }
    | _ => True

/-- Register file and MRAM keep their canonical form over every step. Every step keeps the number of elements of the lists that
have a fixed number: channels, rails, cells, fuses and the like. -/
def Obligations.StepKeepsInvariants : Prop :=
  (∀ s t : State, StoresWf s → step s = .next t → StoresWf t) ∧
  (∀ s t : State, ListsWf s → step s = .next t → ListsWf t)

/-- After reset every register reads the reset value of the field table, nothing is pending, the sequencer is IDLE, the link OFF,
nothing is measured, the service port is detached, the watchdog stands still, every EN pin is low, every domain is held, and
start-up is in stage 1. Register file and MRAM are in canonical form there. Every list has its number of elements. -/
def Obligations.ResetState : Prop :=
  ((∀ a, State.reset.reg a = regDflt a) ∧ State.reset.live = [] ∧ State.reset.pending = [] ∧
      State.reset.seq.state = .idle ∧ State.reset.ridge.lstate = .off ∧ State.reset.role.state = .starting ∧
      State.reset.boot.stage = 1 ∧ State.reset.tb.now = 0 ∧ State.reset.tb.up = 0 ∧ State.reset.svc.attached = false ∧
      State.reset.wdt.run = false ∧ State.reset.hif.queue = [] ∧ State.reset.meas.active = false ∧
      (∀ n, n < 24 → State.reset.pins.en.getD n .highZ = .low) ∧ State.reset.rst.domains = 0) ∧
  (StoresWf State.reset) ∧
  (ListsWf State.reset)

/-- Every command answers a next state in every state, but FUSE_LOAD_DONE where it leads to production test. Production test: the
load completes with TEST sampled high and lifecycle OPEN in the fuses, and nothing else stops. -/
def Obligations.EveryCommandAnswers : Prop :=
  (∀ (c : Instr) (s : State),
      (∃ t, exec c s = .next t) ∨ (c = .fuseLoadDone true ∧ exec c s = .refused .productionTest)) ∧
  (∀ s : State, s.inStage 3 = true → s.pins.strapTest = true → fld (s.svc.fuses.getD 0 0) 0 2 = 0 →
      exec (.fuseLoadDone true) s = .refused .productionTest)

/-! ### Start-up, supplies and clocks (chapter 3) -/

/-- The stages end as their events come: the RC starts stage 2, the regulators stage 3 with no valid shadow and every EN pin low, a fuse
load without error stage 4 with the shadow taken from the array, a lock stage 5, the selection of an image stage 6; only a wake from stack
sleep passes stage 3 with its shadow kept. A stage that does not end in its time ends in a retry: the failed stage is kept, the count
advances, FAULT_N is asserted but on a stack unit, and stage 1 begins again when the wait is over. -/
def Obligations.StartStagesComplete : Prop :=
  ((∀ s : State, s.inStage 1 = true → s.resetHigh = true →
      Answers .rcReady s fun t =>
        t = { s with boot := { s.boot with stage := 2, stageAt := s.ticks }, clk := { s.clk with aonRcOk := true } }) ∧
    (∀ s : State, s.inStage 2 = true → ¬(s.boot.wakeRun = true ∧ s.boot.shadowOk = true) →
      Answers .regulatorsReady s fun t =>
        t.pins.en = s.pins.en.map (fun _ => EnDrive.low) ∧
        t = { s with boot := { s.boot with stage := 3, stageAt := s.ticks, fuseTry := 1, shadowOk := false },
                     pins := { s.pins with en := t.pins.en, held := List.replicate 24 .low } }) ∧
    (∀ s : State, s.inStage 2 = true → s.boot.wakeRun = true → s.boot.shadowOk = true →
      Answers .regulatorsReady s fun t =>
        t = { s with boot := { s.boot with stage := 4, stageAt := s.ticks }, unit := t.unit } ∧
        (s.unit.toneDue = false → t.unit = s.unit) ∧
        (s.unit.toneDue = true → t.unit = { s.unit with toneU := true, txU := [], toneDue := false })) ∧
    (∀ s : State, s.inStage 3 = true → s.pins.strapTest = false →
      Answers (.fuseLoadDone true) s fun t =>
        t.boot.stage = 4 ∧ t.boot.stageAt = s.ticks ∧ t.boot.shadowOk = true ∧ t.svc = { s.svc with shadow := s.svc.fuses } ∧
        t.role = s.role ∧ t.rst = s.rst ∧ t.regs = s.regs ∧ t.nvm = s.nvm) ∧
    (∀ s : State, s.inStage 3 = true → s.boot.fuseTry < 3 →
      Answers (.fuseLoadDone false) s fun t =>
        t.boot = { s.boot with fuseTry := s.boot.fuseTry + 1, stageAt := s.ticks, shadowOk := false } ∧ t.role = s.role ∧
        t.svc = s.svc ∧ t.pins.en = s.pins.en.map (fun _ => EnDrive.low)) ∧
    (∀ s : State, s.inStage 3 = true → 3 ≤ s.boot.fuseTry →
      Answers (.fuseLoadDone false) s fun t =>
        t.role.state = .safeIdle ∧ t.boot.faultN = true ∧ t.boot.shadowOk = false ∧ t.rst.run = none ∧
        t.pins.en = s.pins.en.map (fun _ => EnDrive.low)) ∧
    (∀ s : State, s.inStage 4 = true → s.clk.pllFromRc = false → s.boot.stageAt + 8000 ≤ s.ticks →
      Answers .xtalTimeout s fun t => t = { s with clk := { s.clk with fallback := true, pllFromRc := true, xtalOk := false } }) ∧
    (∀ s : State, s.inStage 4 = true → s.clk.gated = false → s.pwr.waking = false →
      Answers .pllLock s fun t =>
        t.boot.stage = 5 ∧ t.boot.stageAt = s.ticks ∧ t.boot.epochDone = (s.boot.epochDone || !s.boot.wakeRun) ∧
        t.clk.pllLock = true ∧ t.clk.armed = true ∧ t.clk.xtalOk = !s.clk.pllFromRc ∧ t.rst = { s.rst with sramOk := false } ∧
        t.regs = s.regs ∧ t.pins = s.pins) ∧
    (∀ s : State, s.inStage 5 = true →
      Answers .imageSelectDone s fun t =>
        t.boot.stage = 6 ∧ t.boot.stageAt = s.ticks ∧ t.rst = { s.rst with sramOk := true } ∧ t.nvm = s.nvm ∧ t.pins = s.pins ∧
        (s.boot.bench = true → t.img = s.img ∧ t.regs = s.regs) ∧
        (s.boot.bench = false → t.live = [] ∧ (t.usesGate = true → t.supply.cpRun = true)))) ∧
  ((∀ s : State, s.boot.stage ≠ 3 → 1 ≤ s.boot.stage → s.boot.stage < 7 → s.inStage s.boot.stage = true →
      s.stageStart + stageLimit s.boot.stage ≤ s.ticks → s.resetHigh = true →
      Answers .stageTimeout s fun t =>
        t.boot.stage = 0 ∧ t.boot.failStage = s.boot.stage ∧ t.boot.retryCnt = min 0xFF (s.boot.retryCnt + 1) ∧
        t.boot.retryEnd = some (s.ticks + s.retryWait) ∧ t.boot.faultN = !s.boot.stk ∧ t.rst.run = none ∧ t.rst.domains = 0 ∧
        t.role = RoleRec.init ∧ t.svc.fuses = s.svc.fuses ∧ t.nvm.mram = s.nvm.mram ∧ t.tb.running = false) ∧
    (∀ s : State, s.boot.stage = 3 → s.inStage 3 = true → s.boot.stageAt + 1000 ≤ s.ticks → s.boot.fuseTry < 3 →
      Answers .stageTimeout s fun t => t.boot.stage = 3 ∧ t.boot.fuseTry = s.boot.fuseTry + 1 ∧ t.boot.stageAt = s.ticks) ∧
    (∀ s : State, s.boot.stage = 3 → s.inStage 3 = true → s.boot.stageAt + 1000 ≤ s.ticks → 3 ≤ s.boot.fuseTry →
      Answers .stageTimeout s fun t => t.role.state = .safeIdle ∧ t.boot.faultN = true) ∧
    (∀ (s : State) (k : Nat), s.boot.retryEnd = some k → k ≤ s.ticks →
      Answers .retryWaitExpiry s fun t =>
        t = { s with boot := { s.boot with stage := 1, stageAt := s.ticks, retryEnd := none, fuseTry := 0 },
                     rst := { s.rst with run := some { level := .l0, asserted := true, since := s.ticks } } }))

/-- The `EPOCH` update of a start: the word is advanced in MRAM before stage 5 and the marker slot of the new epoch is cleared,
and no other word of MRAM changes; an uncorrectable word starts again at 1, and the largest one stays. In bench mode the register takes
the word and nothing is written (R104, R507). -/
def Obligations.EpochAdvancesBeforeStage5 : Prop :=
  (∀ s : State, s.inStage 4 = true → s.clk.gated = false → s.pwr.waking = false → s.boot.bench = false → s.boot.wakeRun = false →
    s.boot.epochDone = false → Store.wf mramDflt s.nvm.mram = true →
    Answers .pllLock s fun t =>
      (s.mbad 0x14C00 = true → t.tb.epoch = 1 ∧ t.tb.epochLost = true) ∧
      (s.mbad 0x14C00 = false → s.mread 0x14C00 ≠ 0xFFFFFFFF#32 → t.tb.epoch = s.mread 0x14C00 + 1) ∧
      (s.mbad 0x14C00 = false → s.mread 0x14C00 = 0xFFFFFFFF#32 → t.tb.epoch = s.mread 0x14C00 ∧ t.tb.epochSat = true) ∧
      t.mread 0x14C00 = t.tb.epoch ∧ t.mread (markAddr t.tb.epoch) = 0 ∧ t.boot.epochDone = true ∧
      ∀ a, a ≠ 0x14C00 → a ≠ markAddr t.tb.epoch → t.mread a = s.mread a) ∧
  (∀ s : State, s.inStage 4 = true → s.clk.gated = false → s.pwr.waking = false → s.boot.bench = true → s.boot.wakeRun = false →
    s.boot.epochDone = false → s.mbad 0x14C00 = false →
    Answers .pllLock s fun t => t.tb.epoch = s.mread 0x14C00 ∧ t.nvm = s.nvm)

/-- Release of the domains, one step at a time (R128, R129). At L3 the steps only count, take a strap sample with CORE and attach the
service port with USB (R130). At the other levels CORE does not touch pins but the strap samples, TB starts the timebase at L0, and USB
opens the 100 µs after which RSTOUT_N rises. Three samples 1 µs apart give the straps. In bench mode only CORE and USB are released. The
host interface opens 12 µs after CORE, which ends the release of an L3 reset; an L1 to L3 reset ends its assertion after 20 µs. Stage 6
ends with the role decided: start-up is over and no reset is in progress. -/
def Obligations.ReleaseAndRole : Prop :=
  ((∀ s : State, s.releasing = true → s.rst.domains < 6 → s.runLevel = .l3 →
      Answers .resetReleaseStep s fun t =>
        (s.rst.domains = 0 →
          t = { s with rst := { s.rst with domains := 1, coreAt := some s.ticks },
                       pins := { s.pins with strapSamp := [if s.supply.vddioOk = true then (s.pins.ifselPin, s.pins.adrPin) else (false, 0)] } }) ∧
        (1 ≤ s.rst.domains → s.rst.domains < 5 → t = { s with rst := { s.rst with domains := s.rst.domains + 1 } }) ∧
        (s.rst.domains = 5 → t.rst = { s.rst with domains := 6 } ∧ t.pins = s.pins ∧ t.svc.attached = (s.svc.attached || s.supply.vbus) ∧
          t.seq = s.seq ∧ t.fab = s.fab)) ∧
    (∀ s : State, s.releasing = true → s.rst.domains < 6 → s.runLevel ≠ .l3 → ¬(s.rst.domains = 0 ∧ s.boot.bench = true) →
      Answers .resetReleaseStep s fun t =>
        t.rst.domains = s.rst.domains + 1 ∧ t.role = s.role ∧ t.seq = s.seq ∧ t.boot = s.boot ∧ t.nvm = s.nvm ∧ t.pins.en = s.pins.en ∧
        (s.rst.domains = 0 → t.rst.coreAt = some s.ticks ∧ t.pins.strapSamp.length = 1 ∧ t.tb = s.tb) ∧
        (s.rst.domains = 1 → t.fab.run = s.fabImage ∧ t.fab.guard = false ∧ t.tb = s.tb ∧ t.pins = s.pins) ∧
        (s.rst.domains = 2 → t.fab = s.fab ∧ t.tb = s.tb ∧ t.pins = s.pins) ∧
        (s.rst.domains = 3 → t = { s with rst := t.rst, tb := { s.tb with running := s.tb.running || decide (s.runLevel = .l0) } }) ∧
        (s.rst.domains = 4 → t = { s with rst := t.rst }) ∧
        (s.rst.domains = 5 → t.pins = { s.pins with usbOutAt := some s.ticks } ∧ t.svc.attached = (s.svc.attached || s.supply.vbus))) ∧
    (∀ s : State, s.releasing = true → s.rst.domains = 0 → s.boot.bench = true → s.runLevel ≠ .l3 →
      Answers .resetReleaseStep s fun t => t.rst.domains = 5 ∧ t.rst.coreAt = some s.ticks ∧ t.fab = s.fab ∧ t.tb = s.tb) ∧
    (∀ (s : State) (a b : Bool × BitVec 2) (k : Nat), s.rst.coreAt = some k → s.pending = [] → s.supply.aon = true →
      s.pins.strapSamp = [b, a] → k + 1 ≤ s.ticks → s.supply.vddioOk = true →
      ∃ t, step s = .next t ∧
        t.pins.strapIf = ((a.1 && b.1) || (a.1 && s.pins.ifselPin) || (b.1 && s.pins.ifselPin)) ∧
        t.pins.strapAdr = (a.2 &&& b.2 ||| a.2 &&& s.pins.adrPin ||| b.2 &&& s.pins.adrPin)) ∧
    (∀ (s : State) (k : Nat), s.rst.coreAt = some k → s.releasing = true → s.rst.hifUp = false → k + 12 ≤ s.ticks →
      s.rst.domains = 6 → (s.runLevel ≠ .l3 ∨ s.inStage 6 = true) →
      Answers .hostIfRelease s fun t =>
        t = { s with rst := { s.rst with hifUp := !s.boot.bench }, hif := { s.hif with irqBoot := true } }) ∧
    (∀ (s : State) (k : Nat), s.rst.coreAt = some k → s.releasing = true → s.rst.hifUp = false → k + 12 ≤ s.ticks →
      s.rst.domains = 6 → s.runLevel = .l3 → s.inStage 6 = false → ¬(s.isRole .mst = true ∧ s.clk.fallback = true) →
      Answers .hostIfRelease s fun t =>
        t.rst.hifUp = (!s.boot.bench) ∧ t.rst.run = none ∧ t.hif = { s.hif with irqBoot := true } ∧ t.pins = s.pins ∧ t.regs = s.regs ∧
        t.role.addrValid = (s.role.addrValid || s.isRole .mst) ∧ t.rst.sysArmed = false ∧
        t.rst.sysRestart =
          if s.rst.sysArmed = true then (if s.isRole .slv = true then none else some (s.tb.now + 2000)) else s.rst.sysRestart) ∧
    (∀ (s : State) (k : Nat), s.rst.coreAt = some k → s.releasing = true → s.rst.hifUp = false → k + 12 ≤ s.ticks →
      s.rst.domains = 6 → s.runLevel = .l3 → s.inStage 6 = false → s.isRole .mst = true → s.clk.fallback = true →
      Answers .hostIfRelease s fun t => t.rst.run = none ∧ t.role.state = .refused ∧ t.role.reason = .clkFallback ∧ t.boot.faultN = true) ∧
    (∀ (s : State) (k : Nat), s.pins.usbOutAt = some k → s.boot.bench = false → k + 100 ≤ s.ticks →
      Answers .rstoutRelease s fun t => t = { s with pins := { s.pins with rstout := false, usbOutAt := none } }) ∧
    (∀ (s : State) (r : ResetRun), s.rst.run = some r → r.level ≠ .l0 → r.asserted = true → r.since + 20 ≤ s.ticks → s.resetHeld = false →
      Answers .resetAssertMinExpiry s fun t =>
        t.rst.run = some { r with asserted := false } ∧
        (r.level = .l1 → t = { s with boot := { s.boot with stage := 5, stageAt := s.ticks },
                                      rst := { s.rst with run := some { r with asserted := false }, sramOk := false } }) ∧
        (r.level = .l2 → t.boot = { s.boot with stage := 6, stageAt := s.ticks } ∧ t.pins = s.pins ∧ t.regs = s.regs) ∧
        (r.level = .l3 → t = { s with rst := { s.rst with run := some { r with asserted := false } } })) ∧
    (∀ s : State, s.pins.resetN = false →
      Answers .resetPinRelease s fun t => t = { s with pins := { s.pins with resetN := true, resetRise := some s.ticks } })) ∧
  (∀ s : State, s.stage6Ready = true → (s.runLevel = .l2 → s.role.saved ≠ .starting) →
      Answers .stage6Done s fun t =>
        t.boot.stage = 7 ∧ t.boot.backoffK = 0 ∧ t.boot.wakeRun = false ∧ t.rst.run = none ∧ t.role.state ≠ .starting ∧ t.nvm.mram = s.nvm.mram ∧
        (s.boot.bench = true → t.role.role = .none ∧ t.role.state = .bench ∧ t.boot.faultN = true) ∧
        (s.boot.bench = false → s.runLevel ≠ .l2 → s.boot.wakeRun = false →
          (s.img.running = none → s.role.stkDflt = false → t.role.role = .none ∧ t.role.state = .unconfigured ∧
            t.role.reason = s.img.noImage ∧ t.boot.faultN = true) ∧
          (s.img.running = none → s.role.stkDflt = true → t.role.role = .stk ∧ t.role.state = .running ∧ t.boot.faultN = false) ∧
          (∀ g, s.img.running = some g → g.role = .mst → s.clk.fallback = true →
            t.role.role = .mst ∧ t.role.state = .refused ∧ t.role.reason = .clkFallback ∧ t.boot.faultN = true) ∧
          (∀ g, s.img.running = some g → ¬(g.role = .mst ∧ s.clk.fallback = true) →
            t.role.role = g.role ∧ t.role.pair = g.pair ∧ t.role.state = .running ∧ t.boot.faultN = false ∧
            (g.role = .sgl → g.pair = false → t.seq.state = .adopt ∧ t.rst.adopt.isSome = true))))

/-- Power and bench mode: an L0 start from POR, the loss of power that clears the registers and keeps MRAM and fuses, and entry
and exit of bench mode. VDDIO and the charge pump. DOZE is entered from IDLE with nothing in progress, stops the PLL and the watchdog and
moves no pin; any other request is refused with `DOZE_REF` (R107). That the entry ends a running self-check and wet check is the model's
choice (log entry 30). -/
def Obligations.PowerTransitionsComplete : Prop :=
  ((∀ s : State, s.supply.aon = false →
      Answers .powerOnReset s fun t =>
        t.supply.aon = true ∧ t.supply.vin = true ∧ t.boot.stage = 1 ∧ t.boot.bench = false ∧ t.regs = [] ∧
        t.rst.run = some { level := .l0, asserted := true, since := s.ticks } ∧ t.nvm.mram = s.nvm.mram ∧ t.svc.fuses = s.svc.fuses ∧
        t.pins.strapTest = s.pins.test ∧ t.pins.en = List.replicate 24 .low ∧ t.pins.rstout = true) ∧
    (∀ s : State, s.supply.aon = true → s.boot.bench = false →
      Answers .porRearm s fun t =>
        t.supply.aon = false ∧ t.boot.stage = 0 ∧ t.regs = [] ∧ t.nvm.mram = s.nvm.mram ∧ t.nvm.bad = s.nvm.bad ∧
        t.svc.fuses = s.svc.fuses ∧ t.pins.en = List.replicate 24 .pullDown ∧ t.pins.rstout = false) ∧
    (∀ s : State, s.supply.aon = false →
      Answers .benchEntry s fun t =>
        t.supply.aon = true ∧ t.supply.vbus = true ∧ t.supply.vin = false ∧ t.boot.bench = true ∧ t.boot.faultN = true ∧ t.boot.stage = 1) ∧
    (∀ s : State, s.boot.bench = true → s.supply.aon = true →
      Answers (.benchExit []) s fun t =>
        t.boot.bench = false ∧ t.supply.vin = true ∧ t.pins.strapTest = s.pins.test ∧ t.boot.stage = 1 ∧ t.boot.faultN = false ∧
        t.rst.run = some { level := .l0, asserted := true, since := s.ticks } ∧ fld t.rst.cause 0 4 = 0) ∧
    (∀ s : State, s.boot.bench = false →
      Answers .vbusLoss s fun t =>
        t = { s with supply := { s.supply with vbus := false }, svc := t.svc, clk := { s.clk with sofTrim := false, sofCount := 0 } } ∧
        t.svc.attached = false ∧ t.svc.level = .view ∧ t.svc.fuses = s.svc.fuses ∧ t.svc.lockEnd = s.svc.lockEnd) ∧
    (∀ s : State, s.boot.bench = true →
      Answers .vbusLoss s fun t => t.supply.aon = false ∧ t.supply.vbus = false ∧ t.boot.stage = 0) ∧
    (∀ s : State, Answers .vddioRise s fun t => t = { s with supply := { s.supply with vddioOk := true } }) ∧
    (∀ s : State, Answers .vddioLost s fun t =>
        t = { s with supply := { s.supply with vddioOk := false, vddioLost := s.supply.vddioLost || s.pastStage6 } }) ∧
    (∀ s : State, s.supply.cpRun = true → s.supply.cpOk = false →
      Answers .cpReady s fun t => t.supply = { s.supply with cpOk := true } ∧ t.role = s.role ∧ t.boot = s.boot ∧ t.rst = s.rst)) ∧
  (∀ (s : State) (p : Port) (v : Word), Reaches s p Reg.sysPwr → bit v 0 = true →
      (s.isRole .sgl = true → s.role.pair = false → s.seq.state = .idle → s.dozeQuiet = true →
        Answers (.dozeRequest p v) s fun t =>
          t.pwr.doze = true ∧ t.pwr.waking = false ∧ t.clk.pllLock = false ∧ t.wdt.run = false ∧ t.seq.state = .idle ∧
          (s.seq.src = .none → s.fab.guard = false → t.pins = s.pins) ∧ t.nvm.mram = s.nvm.mram ∧ t.cmp.chk = none ∧ t.meas.wet = none) ∧
      (s.isRole .sgl = false ∨ s.role.pair = true ∨ s.seq.state ≠ .idle ∨ s.dozeQuiet = false →
        Answers (.dozeRequest p v) s fun t =>
          t.pwr.dozeRef = true ∧ t.pwr.doze = s.pwr.doze ∧ t.pwr.wakeCmpEn = bit v 3 ∧ t.pwr.wakePinEn = bit v 2 ∧ t = { s with pwr := t.pwr }))

/-- The pins the board moves, start of frame, the listening window and the wake from DOZE. A clock failure that the monitor watches for
(not the crystal's once the PLL runs from the RC, and in DOZE the crystal's alone) gates the clocks and sets `CLKMON_EVT`; below L0 the
level acts after the lock that runs them again. -/
def Obligations.PinAndClockEventsComplete : Prop :=
  ((∀ (s : State) (n : Nat) (b : Bool), n < 8 →
      Answers (.gpioInputChange n b) s fun t =>
        t.pins.gpio.getLsbD n = b ∧ (∀ k, k < 8 → k ≠ n → t.pins.gpio.getLsbD k = s.pins.gpio.getLsbD k) ∧
        t = { s with pins := { s.pins with gpio := t.pins.gpio }, pair := t.pair } ∧
        (n ≠ 7 ∨ s.paired = false ∨ s.pins.gpio.getLsbD n = b → t.pair = s.pair) ∧
        (n = 7 → s.paired = true → s.pins.gpio.getLsbD n ≠ b → t.pair = { s.pair with lastEdge := some s.ticks })) ∧
    (∀ (s : State) (b : Bool), Answers (.wakePinLevel b) s fun t => t = { s with pins := { s.pins with wakeN := b } }) ∧
    (∀ s : State, s.svc.attached = true → s.clk.pllFromRc = true → s.clk.pllLock = true → s.clk.sofTrim = false →
      Answers .startOfFrame s fun t =>
        t.clk.sofCount = s.clk.sofCount + 1 ∧ (t.clk.sofTrim = true ↔ 3 ≤ s.clk.sofCount + 1) ∧ t = { s with clk := t.clk }) ∧
    (∀ (s : State) (k : Nat), s.boot.listenEnd = some k → k ≤ s.ticks → s.isRole .mst = true → s.ridge.lstate = .mstListen →
      Answers .masterListenEnd s fun t =>
        t = { s with ridge := { s.ridge with lstate := .master }, boot := { s.boot with listenEnd := none } }) ∧
    (∀ s : State, s.isRole .mst = true → s.isShadow = false → s.ridge.lstate = .mstListen ∨ s.ridge.lstate = .master →
      Answers .secondMasterDetected s fun t => t.role.state = .refused ∧ t.role.reason = .secondMaster ∧ t.ridge.lstate = .refused ∧
        t.boot.faultN = true) ∧
    (∀ (s : State) (c : WakeCause), s.pwr.doze = true → s.pwr.waking = false → s.wakeOpen c = true →
      Answers (.dozeWake c) s fun t =>
        t.pwr.waking = true ∧ t.pwr.wakeCause.getLsbD (wakeBit c) = true ∧ t.boot = { s.boot with wakeStart := true } ∧ t.regs = s.regs ∧
        t.seq = s.seq ∧ t = { s with pwr := t.pwr, boot := t.boot, pins := { s.pins with wakeN := s.pins.wakeN && decide (c ≠ .wakePin) } })) ∧
  ((∀ (s : State) (k : ClockFailKind), s.monWatches k = true → Settled s →
      Answers (.clockFail k []) s fun t =>
        fld t.rst.cause 0 4 = srcCode .clkfail ∧ (t.rst.run.map (·.level) = some (levelOf (s.levelFor (plainReq .clkfail)).1)) ∧
        ((s.levelFor (plainReq .clkfail)).1 ≠ 0 →
          t.clk.gated = true ∧ t.clk.pllLock = false ∧ t.clk.armed = false ∧ t.clk.monEvt = true ∧ t.boot.stage = 4 ∧
          t.boot.stageAt = s.ticks ∧ (t.rst.run.map (·.applied) = some false) ∧ t.pins = s.pins ∧ t.nvm.mram = s.nvm.mram ∧
          (k = .crystal → t.clk.fallback = true ∧ t.clk.pllFromRc = true) ∧ (k = .aon → t.clk.aonRcOk = false))) ∧
    (∀ (s : State) (r : ResetRun), s.rst.run = some r → s.inStage 4 = true → s.clk.gated = true → s.pwr.waking = false → r.level = .l3 →
      Answers .pllLock s fun t => t.clk.gated = false ∧ t.clk.pllLock = true ∧ t.boot.stage = 7 ∧ t.clk.aonRcOk = true ∧
        (r.applied = false → t.rst.domains = 0 ∧ t.rst.run = some { r with since := s.ticks, applied := true })))

/-! ### Resets (chapter 4) -/

/-- A reset by RESET_N, by a parity error, by an uncorrectable word, by the host's command, by the fabric, by the watchdog and by
the end of a SYSTEM FALLING begins with the level that R122 gives; a wrong key at `RST_CMD` sets BADKEY and does nothing else. -/
def Obligations.ResetSourcesBeginResets : Prop :=
  (∀ s : State, Settled s → Answers (.pinReset []) s fun t => ResetBegins .pin s t ∧ t.pins.resetN = false) ∧
  (∀ s : State, Settled s → Answers (.parityError false []) s fun t => ResetBegins .parity s t) ∧
  (∀ s : State, Settled s → Answers (.parityError true []) s fun t =>
      t.rst.run = some { level := .l0, asserted := true, since := s.ticks } ∧ fld t.rst.cause 0 4 = 7 ∧ t.pins.strapTest = s.pins.test) ∧
  (∀ s : State, Settled s → Answers (.ecc2Error false []) s fun t => ResetBegins .ecc2 s t) ∧
  (∀ s : State, Settled s → Answers (.ecc2Error true []) s fun t =>
      fld t.rst.cause 0 4 = 8 ∧ fld t.rst.cause 4 2 ≤ 1 ∧ t.rst.domains = 0) ∧
  (∀ (s : State) (p : Port) (v : Word), Settled s → p ≠ .svc → Reaches s p Reg.rstCmd → fld v 16 16 = 0xC1A0 → bit v 0 = true →
    Answers (.rstCmdWrite p v []) s fun t => ResetBegins .host s t) ∧
  (∀ (s : State) (p : Port) (v : Word), p ≠ .svc → Reaches s p Reg.rstCmd → fld v 16 16 ≠ 0xC1A0 →
    Answers (.rstCmdWrite p v []) s fun t => t = { s with rst := { s.rst with badKey := true } }) ∧
  (∀ (s u : State) (l : List Nat), s.takeEdges (· = 0x20) = some (l, u) → Settled s →
    Answers (.fabSysReset []) s fun t => ResetBegins .fabric s t) ∧
  (∀ s : State, Settled s → s.wdt.run = true → s.wdt.since + s.wdtDeadline ≤ s.ticks →
    Answers (.wdtDeadline []) s fun t => ResetBegins .wdt s t ∧ t.wdt.wcause = 1) ∧
  (∀ (s : State) (k : Nat), s.react.sysEnd = some k → Settled s → s.recordSettled = true ∨ k + 50 ≤ s.ticks → s.seq.state = .falling →
    Answers (.systemFabricReset []) s fun t =>
      fld t.rst.cause 0 4 = 6 ∧ bit t.rst.cause 12 = s.react.restart ∧ t.rst.domains = 0 ∧ t.react.sysEnd = none ∧
      t.rst.sysArmed = s.react.restart)

/-- A source that arrives while a reset of a smaller level runs only sets MERGED; sources of one cycle set MERGED. An L3 reset
keeps rails, configuration, measurement, comparators and fabric, and only interfaces are reset; an image operation that R150 and R179
end at every level ends (the model's choice between these rules and R175, log entry 10). The block resets: a keyed request holds the block for 2 µs with a new generation tag; a wrong key is refused. -/
def Obligations.MergedAndSmallResets : Prop :=
  ((∀ (s : State) (r : ResetRun), s.rst.run = some r → s.supply.aon = true → s.boot.retryEnd = none →
      r.level.num < (s.levelFor (plainReq .pin)).1 →
      Answers (.pinReset []) s fun t =>
        bit t.rst.cause 13 = true ∧
        t = { s with pins := { s.pins with resetN := false }, rst := { s.rst with cause := t.rst.cause } }) ∧
    (∀ (s : State) (c : RstSource) (co : List RstSource), Settled s → coWf .pin (c :: co) = true →
      Answers (.pinReset (c :: co)) s fun t => bit t.rst.cause 13 = true ∧ t.pins.resetN = false)) ∧
  ((∀ s : State, Settled s → s.pwr.doze = false → (s.levelFor (plainReq .pin)).1 = 3 → s.liveImg = none → s.img.reload ≠ 1 →
      Answers (.pinReset []) s fun t =>
        t.seq = s.seq ∧ t.fab = s.fab ∧ t.meas = s.meas ∧ t.cmp = s.cmp ∧ t.mrg = s.mrg ∧ t.react = s.react ∧ t.live = s.live ∧
        t.rst.hifUp = false ∧ t.hif.queue = [] ∧ t.tb = s.tb ∧ t.clk = s.clk ∧ t.nvm.mram = s.nvm.mram ∧ t.img.running = s.img.running ∧
        (s.isRole .stk = false → t.pins.en = s.pins.en)) ∧
    (∀ s : State, Settled s → (s.levelFor (plainReq .pin)).1 = 3 → s.img.reload = 1 ∨ s.liveImg.isSome = true →
      Answers (.pinReset []) s fun t => t.img.op = .none ∧ t.img.reload = s.img.reload - b2n (decide (s.img.reload = 1)) ∧ t.liveImg = none ∧
        t.img.running = s.img.running)) ∧
  ((∀ (s : State) (p : Port) (v : Word), Reaches s p Reg.rstBlk → fld v 16 16 = 0xB10C → fld v 0 8 = 1 →
      Answers (.blockResetRequest p v) s fun t =>
        t.blkBusy 0 = true ∧ t.rst.genRidge = s.rst.genRidge + 1 ∧ t.ridge.m.burst = [] ∧ t.seq = s.seq ∧ t.chain = s.chain ∧
        bit (t.reg Reg.ridgePxStat) 31 = false) ∧
    (∀ (s : State) (p : Port) (v : Word), Reaches s p Reg.rstBlk → fld v 16 16 = 0xB10C → fld v 0 8 = 8 →
      Answers (.blockResetRequest p v) s fun t =>
        t.blkBusy 3 = true ∧ t.rst.genSvc = s.rst.genSvc + 1 ∧ t.svc.attached = false ∧ t.svc.level = .view ∧ t.seq = s.seq ∧ t.ridge = s.ridge) ∧
    (∀ (s : State) (p : Port) (v : Word), Reaches s p Reg.rstBlk → fld v 16 16 = 0xB10C → fld v 0 8 = 16 →
      Answers (.blockResetRequest p v) s fun t => t.blkBusy 4 = true ∧ t.rst.genLogw = s.rst.genLogw + 1 ∧ t.nvm.job = none ∧ t.seq = s.seq) ∧
    (∀ (s : State) (p : Port) (v : Word), Reaches s p Reg.rstBlk → fld v 16 16 ≠ 0xB10C →
      Answers (.blockResetRequest p v) s fun t => t = { s with rst := { s.rst with badKey := true } }) ∧
    (∀ (s : State) (b k : Nat), s.rst.busy.find? (fun x => decide (x.1 = b)) = some (b, k) → k + 2 ≤ s.ticks →
      Answers (.blockResetEnd b) s fun t => t.blkBusy b = false ∧ t.seq = s.seq ∧ t.ridge = s.ridge ∧
        (∀ c, c ≠ b → t.blkBusy c = s.blkBusy c)))

/-- A reset raised during the retry wait of a stage-timeout retry ends the wait at once, starts at stage 1 and writes `RST_CAUSE`,
and leaves `RETRY_CNT` and `FAIL_STAGE` (R126), whichever source raises it. -/
def Obligations.ResetEndsTheRetryWait : Prop :=
  (∀ (s : State) (c : RstSource), s.supply.aon = true → s.boot.retryEnd.isSome = true →
    let t := s.raise1 c
    t.boot.retryEnd = none ∧ t.boot.stage = 1 ∧ t.rst.run = some { level := .l0, asserted := true, since := s.ticks } ∧
      fld t.rst.cause 0 4 = srcCode c ∧ t.boot.retryCnt = s.boot.retryCnt ∧ t.boot.failStage = s.boot.failStage) ∧
  (∀ s : State, s.supply.aon = true → s.boot.retryEnd.isSome = true →
    Answers (.pinReset []) s fun t =>
      t.boot.retryEnd = none ∧ t.boot.stage = 1 ∧ fld t.rst.cause 0 4 = 1 ∧ t.boot.retryCnt = s.boot.retryCnt ∧
      t.boot.failStage = s.boot.failStage)

/-- The level of a reset is never weaker than the minimum of its source, and without a fuse shadow, or in bench mode, it is L0. -/
def Obligations.ResetLevelRules : Prop :=
  ∀ (s : State) (c : RstSource),
    (s.levelFor (plainReq c)).1 ≤ minLevel c ∧
    (s.boot.shadowOk = false → (s.levelFor (plainReq c)).1 = 0) ∧
    (s.boot.bench = true → (s.levelFor (plainReq c)).1 = 0) ∧
    (s.role.state = .safeIdle → (s.levelFor (plainReq c)).1 = 0) ∧
    (s.rst.sramOk = false → (s.levelFor (plainReq c)).1 ≤ 1) ∧
    (s.boot.shadowOk = true → c ≠ .por → s.fuseLevel (srcCode c) ∈ [1, 2, 3])

/-- ADOPT: samples 20 µs and 30 µs after it began, and the exit at 40 µs. With both source rails found on, SOURCE_BATT is off at the
second sample; with no rail under the sequencer the device is IDLE (the model's choice between two exits of R155, log entry 10). The restart that
follows a SYSTEM FABRIC reset raises the rails. -/
def Obligations.AdoptCompletes : Prop :=
  (∀ (s : State) (a : AdoptRun), s.rst.adopt = some a → a.samples = [] → a.since + 20 ≤ s.ticks →
    Answers .adoptSample s fun t => t = { s with rst := { s.rst with adopt := some { a with samples := [s.adoptRead] } } }) ∧
  (∀ (s : State) (a : AdoptRun), s.rst.adopt = some a → a.samples.length = 1 → a.since + 30 ≤ s.ticks → s.hasPair = false →
    Answers .adoptSample s fun t =>
      t = { s with rst := { s.rst with adopt := some { a with samples := a.samples ++ [s.adoptRead] } } }) ∧
  (∀ (s : State) (m : Nat), s.railOf .mains = some m → ∀ b, s.railOf .batt = some b → ∀ a, s.rst.adopt = some a → ListsWf s →
    a.samples.length = 1 → a.since + 30 ≤ s.ticks →
    (a.samples.any fun x => x.1.getLsbD m) = true → (a.samples.any fun x => x.1.getLsbD b) = true →
    Answers .adoptSample s fun t =>
      t.rstate b = .faulted ∧ (t.railAt b).en = false ∧ t.rst.adopt = some { a with samples := a.samples ++ [s.adoptRead] } ∧
      ∀ n, n ≠ b → t.railAt n = s.railAt n) ∧
  (∀ (s : State) (a : AdoptRun), s.rst.adopt = some a → a.samples.length = 2 → a.since + 40 ≤ s.ticks →
    Answers .adoptSample s fun t =>
      t.rst.adopt = none ∧ t.boot = s.boot ∧ t.role = s.role ∧ t.seq.state ≠ .adopt ∧
      ((∀ n, n < 24 → s.rkind n = .none) → s.seq.heldStart = none → s.seq.heldStop = false → s.seq.heldGrp = [] → t.seq.state = .idle)) ∧
  (∀ (s : State) (k : BitVec 32), s.rst.sysRestart = some k → s.due k = true → s.seqRuns = true → s.seq.state = .idle →
    s.isRole .slv = false →
    Answers .sysreactRestart s fun t => t.rst.sysRestart = none ∧ t.seq.startReq = true ∧ (t.seq.state = .rising ∨ t.seq.state = .up))

/-! ### Images and configuration (chapter 5) -/

/-- The commands of `IMG_CTRL` and the ends of their operations. A command with a wrong key is refused with BAD_KEY and changes
nothing but `ERR`, by whichever of the rows it is written. -/
def Obligations.ImageCommandsComplete : Prop :=
  ((∀ (s : State) (p : Port) (v : Word), Reaches s p Reg.imgCtrl → fld v 16 16 = 0x1A6E → fld v 8 2 = 1 → s.img.op = .none →
      ¬(s.img.running.isSome = true ∧ s.img.runSlot = bit v 0) →
      Answers (.imgVerify p v) s fun t =>
        t = { s with img := { s.img with err := 0, vslot := bit v 0, verified := false, liveOk := false, vrej := 0xF, op := .verify } }) ∧
    (∀ s : State, s.img.op = .verify →
      Answers .verifyDone s fun t =>
        t.img.op = .none ∧ t.img.verified = (s.checkSlot s.img.vslot).2.isSome ∧
        t.img.vrej = BitVec.ofNat 4 (s.checkSlot s.img.vslot).1 ∧ t.hif.irqImg = true ∧ t.img.running = s.img.running ∧
        t = { s with img := t.img, hif := t.hif }) ∧
    (∀ (s : State) (p : Port) (v : Word) (g : ImageInfo), (s.checkSlot (bit v 0)).2 = some g → Reaches s p Reg.imgCtrl →
      fld v 16 16 = 0x1A6E → fld v 8 2 = 2 → s.img.op = .none → s.running = true → s.img.verified = true → s.img.vslot = bit v 0 →
      s.img.liveOk = true → s.scanStopped = false →
      Answers (.imgActivateLive p v) s fun t =>
        t = { s with liveImg := some g, img := { s.img with err := 0, op := .live } }) ∧
    (∀ (s : State) (p : Port) (v : Word) (g : ImageInfo), (s.checkSlot (bit v 0)).2 = some g → Reaches s p Reg.imgCtrl →
      fld v 16 16 = 0x1A6E → fld v 8 2 = 3 → s.img.op = .none → s.running = true → s.img.verified = true → s.img.vslot = bit v 0 →
      s.fullRefuses g = 0 →
      Answers (.imgActivateFull p v) s fun t =>
        t.img = { s.img with err := 0, op := .full, reload := 1 } ∧ t.fab.guard = true ∧ t.fab.run = false ∧ t.cmp.chk = none ∧
        t.seq.state = s.seq.state ∧ t.pins = s.pins) ∧
    (∀ (s : State) (p : Port) (v : Word), Reaches s p Reg.imgCtrl → fld v 16 16 = 0x1A6E → fld v 8 2 = 0 →
      Answers (.imgNoAction p v) s fun t => t = { s with img := { s.img with err := 0 } }) ∧
    (∀ s : State, s.img.reload = 1 → s.rereadSlot = 0 → Answers .reloadCheckDone s fun t => t = { s with img := { s.img with reload := 3 } }) ∧
    (∀ s : State, s.img.reload = 1 → s.rereadSlot ≠ 0 →
      Answers .reloadCheckDone s fun t => t.img.reload = 0 ∧ t.img.op = .none ∧ t.img.verified = false ∧
        t.img.vrej = BitVec.ofNat 4 s.rereadSlot ∧ t.img.running = s.img.running ∧ t.regs = s.regs ∧ t.seq = s.seq) ∧
    (∀ (s : State) (secs : List Section), s.reloadRead = .ok secs → s.img.reload = 3 →
      Answers (.reloadCopyDone true) s fun t =>
        t.img.reload = 0 ∧ t.img.op = .none ∧ t.img.runSlot = s.img.vslot ∧ t.role = s.role ∧
        t.img.running = some (s.imageOf s.img.vslot s.reloadEnd s.role.role s.role.pair secs) ∧
        (s.seqRuns = true → t.seq.state = .adopt ∧ t.rst.adopt = some { since := s.ticks, samples := [] })) ∧
    (∀ s : State, Settled s → s.img.reload = 3 → Answers (.reloadCopyDone false) s fun t => ResetBegins .image s t) ∧
    (∀ s : State, s.img.running.isSome = true → s.img.reload = 0 → s.rst.sramOk = true → s.running = true →
      s.clk.gated = false → s.pwr.doze = false →
      Answers (.bgCheckPass true []) s fun t => t = { s with img := { s.img with bgchk := min 0xFFFF (s.img.bgchk + 1) } }) ∧
    (∀ s : State, Settled s → s.img.running.isSome = true → s.img.reload = 0 → s.rst.sramOk = true → s.running = true →
      s.pwr.doze = false →
      Answers (.bgCheckPass false []) s fun t => ResetBegins .image s t)) ∧
  (∀ (s : State) (p : Port) (v : Word), Reaches s p Reg.imgCtrl → fld v 16 16 ≠ 0x1A6E →
      ∀ c, (c = .imgVerify p v ∨ c = .imgActivateLive p v ∨ c = .imgActivateFull p v ∨ c = .imgNoAction p v) →
        Answers c s fun t => t = { s with img := { s.img with err := 1 } })

/-! ### Registers (chapters 0 and 18) -/

/-- A write that reaches a plain register acts by its access code: RW stores the masked value and nothing else changes, W1C clears
the written bits, RO and RC ignore it. A write to a LIVE register is pending while the scan engine runs: it reads back at once
in the form the register takes, and no value in force changes. -/
def Obligations.RegisterWrites : Prop :=
  (∀ (s : State) (p : Port) (a : Nat) (v : Word) (r : RegRow), regRow? a = some r → Reaches s p a →
      Store.wf regDflt s.regs = true →
      (r.acc = .rw → s.rwWrite p a v = none →
        Answers (.registerWrite p a v) s fun t =>
          t.reg (s.keyOf p a) = v &&& w32 r.mask ∧ (∀ b, b ≠ s.keyOf p a → t.reg b = s.reg b) ∧ t = { s with regs := t.regs }) ∧
      (r.acc = .w1c → a ≠ Reg.cmpFlLat → a ≠ Reg.cmpFhLat → a ≠ Reg.schedUs →
        Answers (.registerWrite p a v) s fun t =>
          t.reg a = s.reg a &&& ~~~(v &&& w32 r.mask) ∧ (∀ b, b ≠ a → t.reg b = s.reg b) ∧ t = { s with regs := t.regs }) ∧
      (r.acc = .ro ∨ r.acc = .rc → Answers (.registerWrite p a v) s fun t => t = s)) ∧
  (∀ (s : State) (p : Port) (a : Nat) (v : Word) (r : RegRow), regRow? a = some r → Reaches s p a → r.acc = .live →
      s.scanStopped = false →
      Answers (.liveWrite p a v) s fun t => t.liveValue a = s.liveForm a v ∧ t.regs = s.regs ∧ t = { s with live := t.live })

/-- A write that finds its path closed changes nothing, whichever register it names. A write by the host or the chain to a
register that the active role lacks is ignored, and a read of it answers 0 (R3). A read by the host of a register whose bits a
read clears delivers the word and clears it. -/
def Obligations.ReadsAndClosedPaths : Prop :=
  (∀ (s : State) (p : Port) (a : Nat) (v : Word), s.pathOpen p = false →
      exec (.registerWrite p a v) s = .next s ∧ exec (.liveWrite p a v) s = .next s ∧ exec (.latchClear p a v) s = .next s ∧
      exec (.rcFieldRead p a) s = .next s) ∧
  (∀ (s : State) (p : Port) (a : Nat) (v : Word), s.present a = none → p ≠ .ridge → p ≠ .svc → s.pathOpen p = true →
      exec (.registerWrite p a v) s = .next s ∧ exec (.rcFieldRead p a) s = .next (s.deliver p 0)) ∧
  (∀ (s : State) (a : Nat) (r : RegRow), regRow? a = some r → Readable s .host a → r.acc = .rc →
      Store.wf regDflt s.regs = true → a ≠ Reg.logData → a ≠ Reg.nvmData → a ≠ Reg.tbUpLo →
      Answers (.rcFieldRead .host a) s fun t =>
        t.hif.tx = beBytes 4 (s.shown .host r a).toNat ∧ t.reg a = 0 ∧ ∀ b, b ≠ a → t.reg b = s.reg b)

/-! ### Fabric (chapter 5) -/

/-- A cell's timer, and the edges of the sinks FAB_IRQ, SEQ_START, SEQ_STOP, GRPDN, RIDGE_TX and MARGIN_ABORT. -/
def Obligations.FabricEventsComplete : Prop :=
  (∀ (s : State) (k : Nat), k < 64 → ListsWf s → s.fabRuns = true → s.cellN k ≠ 0 → (s.cell k).tcnt = s.cellN k →
    Answers (.fabTimerExpiry k) s fun t =>
      ((s.cellMode k = 1 → (t.cell k).tout = true) ∧ (s.cellMode k = 2 ∨ s.cellMode k = 3 → (t.cell k).tout = false ∧ (t.cell k).tcnt = 0)) ∧
      (∀ j, j ≠ k → t.cell j = s.cell j) ∧ t = { s with fab := { s.fab with cells := t.fab.cells } }) ∧
  (∀ (s : State) (n : Nat), n < 8 → ∀ u l, s.takeEdges (· = 0x30 + n % 8) = some (l, u) → Store.wf regDflt s.regs = true →
    Answers (.fabIrqEdge n) s fun t => t.reg Reg.sysFabirq = s.reg Reg.sysFabirq ||| w32 (2 ^ n) ∧ t.fab = u.fab ∧
      ∀ a, a ≠ Reg.sysFabirq → t.reg a = s.reg a) ∧
  (∀ (s u : State) (l : List Nat), s.takeEdges (· = 0x21) = some (l, u) → s.seqRuns = true → s.react.lockout = false →
    s.ridge.m.queue.length < 64 → s.seq.state ≠ .hold →
    Answers .fabSeqStart s fun t => t.seq.pendStart = some (s.fabLaunch, true) ∧ t.seq.cmdErr = 0 ∧ t.fab = u.fab ∧ t.pins = s.pins) ∧
  (∀ (s u : State) (l : List Nat), s.takeEdges (· = 0x21) = some (l, u) → s.seqRuns = true → s.react.lockout = true →
    Answers .fabSeqStart s fun t => t = { u with seq := { s.seq with cmdErr := 2 } }) ∧
  (∀ (s u : State) (l : List Nat), s.takeEdges (· = 0x22) = some (l, u) → s.seqRuns = true →
    s.ridge.m.queue.length < 64 →
    Answers .fabSeqStop s fun t => t.seq.pendStop = some s.fabLaunch ∧ t.seq.cmdErr = 0 ∧ t.pins = s.pins) ∧
  (∀ (s : State) (g : Nat), g < 8 → ∀ u l, s.takeEdges (· = 0x18 + g % 8) = some (l, u) → s.seqRuns = true → s.seq.state = .up →
    Answers (.grpdnEdge g) s fun t => (t.seq.grpStop.getLsbD g || t.seq.grpDown.getLsbD g) = true ∧ t.seq.state = .up) ∧
  (∀ (s : State) (n : Nat), n < 16 → ∀ u l, s.takeEdges (· = 0x38 + n % 16) = some (l, u) → s.isShadow = false →
    s.isRole .slv = true →
    Answers (.ridgeTxEdge n) s fun t => t.ridge.s.evt = s.ridge.s.evt ^^^ BitVec.ofNat 16 (2 ^ n) ∧ t.regs = s.regs ∧ t.seq = s.seq) ∧
  (∀ (s u : State) (l : List Nat), s.takeEdges (· = 0x49) = some (l, u) → s.seqRuns = true →
    Answers .marginAbortEdge s fun t => ∀ m, m < 8 → (t.dac m).state = .nominal ∨ (t.dac m).state = .slewBack)

/-- A REACT edge on a rail that is ON in UP, with reaction GROUP: the EN pin goes off at once, the rail is FAULTED, and its group
stops; with reaction IGNORE the rail stays ON. -/
def Obligations.ReactEdgeTurnsOff : Prop :=
  ∀ (s : State) (n : Nat), n < 24 → ∀ u, s.takeEdges (· < 0x20) = some ([n], u) → ListsWf s → s.isShadow = false → s.seqRuns = true →
    s.seq.state = .up → s.rstate n = .on → s.hasEn n = true →
    (s.reaction n = .group →
      Answers .reactEdge s fun t =>
        t.rstate n = .faulted ∧ (t.railAt n).en = false ∧ t.pins.en.getD n .highZ = s.enDrive n false ∧
        (t.seq.grpStop.getLsbD (s.group n) || t.seq.grpDown.getLsbD (s.group n)) = true ∧ t.seq.state = .up) ∧
    (s.reaction n = .ignore → Answers .reactEdge s fun t => t.rstate n = .on ∧ (t.railAt n).en = (s.railAt n).en ∧ t.seq.state = .up)

/-! ### Measurement (chapter 6) -/

/-- A scan edge takes the codes with the timestamp of the edge; the publication that follows writes time and count and ends the
scan. Stopping and starting the scans. -/
def Obligations.ScansComplete : Prop :=
  ((∀ (s : State) (codes : List Int) (avdd : Int), s.scanDue = true → s.pwr.doze = false →
      Answers (.scanEdge codes avdd) s fun t =>
        (∃ r, t.meas.scan = some r ∧ r.ts = s.tb.now ∧ r.codes = codes ∧ r.avdd = avdd ∧ r.at_ = s.ticks) ∧
        t.meas.lastTs = s.tb.now ∧ t.meas.restart = false ∧ t.seq = s.seq ∧ t.pins = s.pins) ∧
    (∀ (s : State) (r : ScanRun), s.meas.scan = some r → s.clk.gated = false → Answers .publication s fun t => t.meas.scan = none ∧ t.fab = s.fab) ∧
    (∀ (s : State) (r : ScanRun), s.meas.scan = some r → s.clk.gated = false → Store.wf regDflt s.regs = true → s.live = [] → s.liveImg = none →
      Answers .publication s fun t =>
        t.reg Reg.resScanTime = r.ts ∧ fld (t.reg Reg.resScanStat) 16 16 = (s.regFld Reg.resScanStat 16 16 + 1) % 65536)) ∧
  ((∀ (s : State) (p : Port) (v : Word), Reaches s p Reg.resScanCtrl → bit v 0 = false → s.regBit Reg.resScanCtrl 0 = true →
      Answers (.scanStop p v) s fun t => t.meas.active = false ∧ t.meas.scan = s.meas.scan ∧ t.seq = s.seq) ∧
    (∀ (s : State) (p : Port) (v : Word), Reaches s p Reg.resScanCtrl → bit v 0 = true → s.regBit Reg.resScanCtrl 0 = false →
      Answers (.scanRestart p v) s fun t => t.meas.active = true ∧ t.meas.restart = true ∧ t.meas.notUntil = s.ticks + 2 ∧ t.seq = s.seq))

/-- Result words: a read delivers the word, and a read by the host or by the chain clears `FRESH` in the register it read, no
other path does; a snapshot copies all 24 words, clears `FRESH` in the live ones, and a later read of it does the same to its
own. -/
def Obligations.ResultsAndSnapshots : Prop :=
  (∀ (s : State) (p : Port) (n : Nat), n < 24 → Store.wf regDflt s.regs = true → Readable s p (Reg.resCh n) →
    Answers (.resultRead p n) s fun t =>
      (p = .host → t.hif.tx = beBytes 4 (s.reg (Reg.resCh n)).toNat) ∧ (p = .ridge → t.ridge.s.data = s.reg (Reg.resCh n)) ∧
      (p = .host ∨ p = .chain → t.reg (Reg.resCh n) = setBit (s.reg (Reg.resCh n)) 7 false) ∧
      (p = .svc ∨ p = .ridge → t.regs = s.regs) ∧ (∀ a, a ≠ Reg.resCh n → t.reg a = s.reg a)) ∧
  (∀ (s : State) (p : Port) (n : Nat), n < 24 → Store.wf regDflt s.regs = true → Readable s p (Reg.resSnap n) →
    Answers (.snapRead p n) s fun t =>
      (p = .host → t.hif.tx = beBytes 4 (s.reg (Reg.resSnap n)).toNat) ∧
      (p = .host ∨ p = .chain → t.reg (Reg.resSnap n) = setBit (s.reg (Reg.resSnap n)) 7 false) ∧
      (p = .svc ∨ p = .ridge → t.regs = s.regs) ∧ (∀ a, a ≠ Reg.resSnap n → t.reg a = s.reg a)) ∧
  (∀ (s : State) (p : Port) (v : Word), Store.wf regDflt s.regs = true → Reaches s p Reg.resSnapCtrl → bit v 0 = true →
    Answers (.snap p v) s fun t =>
      (∀ n, n < 24 → t.reg (Reg.resSnap n) = s.reg (Reg.resCh n) ∧ t.reg (Reg.resCh n) = setBit (s.reg (Reg.resCh n)) 7 false) ∧
      t.reg Reg.resSnapTime = s.reg Reg.resScanTime ∧ bit (t.reg Reg.resSnapStat) 0 = true ∧ t = { s with regs := t.regs }) ∧
  (∀ (s : State) (p : Port) (v : Word), Store.wf regDflt s.regs = true → Reaches s p Reg.resSnapCtrl → bit v 0 = false → bit v 1 = true →
    Answers (.snapNext p v) s fun t =>
      bit (t.reg Reg.resSnapStat) 0 = false ∧ bit (t.reg Reg.resSnapStat) 1 = true ∧ t = { s with regs := t.regs })

/-- The wet check: a start of one channel begins its first step, and is refused in every rail state but IDLE; an abort ends it,
and each step leads to the next. Self-checks: a start of one channel takes its FL comparator under check, a start that is not
possible is refused, a periodic pass begins or is skipped, and a step leads to the next. -/
def Obligations.ChecksComplete : Prop :=
  ((∀ (s : State) (p : Port) (n : Nat), n < 24 → Reaches s p Reg.chWetCtrl → s.wetRefused = false → s.chKind n ≠ 0 → s.cmp.chk = none →
      Answers (.wetCheckStart p (w32 (2 ^ 24 + 2 ^ n))) s fun t =>
        (∃ w, t.meas.wet = some w ∧ w.todo = [n] ∧ w.step = 1) ∧ t.seq = s.seq ∧ t.cmp = s.cmp) ∧
    (∀ (s : State) (p : Port) (v : Word), Store.wf regDflt s.regs = true → Reaches s p Reg.chWetCtrl → bit v 24 = true → fld v 0 24 ≠ 0 →
      s.rail = true → s.seq.state ≠ .idle →
      Answers (.wetCheckStart p v) s fun t => bit (t.reg Reg.chWetStat) 30 = true ∧ t = { s with regs := t.regs }) ∧
    (∀ (s : State) (p : Port) (w : WetRun), s.meas.wet = some w → Store.wf regDflt s.regs = true → Reaches s p Reg.chWetCtrl →
      Answers (.wetCheckAbort p (w32 (2 ^ 24))) s fun t => t.meas.wet = none ∧ bit (t.reg Reg.chWetStat) 29 = true ∧ t.seq = s.seq) ∧
    (∀ (s : State) (codes : List Int) (w : WetRun), s.meas.wet = some w → ∀ n l, w.todo = n :: l → s.meas.active = true → w.settle ≤ s.ticks →
      codes.length = s.regFld Reg.chWetCfg 16 6 → codes ≠ [] → 1 ≤ w.step → w.step < 3 →
      Answers (.wetStepDone codes) s fun t =>
        (∃ x, t.meas.wet = some x ∧ x.step = w.step + 1 ∧ x.todo = w.todo) ∧ t.regs = s.regs ∧ t.cmp = s.cmp)) ∧
  ((∀ (s : State) (p : Port) (n : Nat), n < 24 → Reaches s p Reg.cmpChkCtrl → s.chkBlocked = false → s.clk.gated = false →
      s.pwr.doze = false → s.cmpMode n false ≠ 0 → s.wetOn n = false →
      Answers (.selfCheckStart p (w32 (2 ^ 24 + 2 ^ n))) s fun t =>
        t.cmp.chk = some { todo := [2 * n, 2 * n + 1], step := 0, n := (s.comp n false).q, since := s.ticks, periodic := false } ∧ t = { s with cmp := t.cmp }) ∧
    (∀ (s : State) (p : Port) (v : Word), Reaches s p Reg.cmpChkCtrl → bit v 24 = true → fld v 0 24 ≠ 0 → s.chkBlocked = true →
      Answers (.selfCheckStart p v) s fun t => t = { s with cmp := { s.cmp with chkRefused := true } }) ∧
    (∀ s : State, s.regFld Reg.cmpChkCfg 0 16 ≠ 0 → s.regFld Reg.cmpChkCfg 0 16 ≤ s.cmp.perCnt → s.clk.gated = false →
      s.pwr.doze = false → s.boot.bench = false →
      Answers .selfCheckPeriodic s fun t =>
        t.cmp.perCnt = s.cmp.perCnt - s.regFld Reg.cmpChkCfg 0 16 ∧ (s.chkBlocked = true → t.cmp.pskip = true) ∧ t = { s with cmp := t.cmp }) ∧
    (∀ (s : State) (b : Bool) (c : ChkRun), s.cmp.chk = some c → ∀ k l, c.todo = k :: l → c.step < 3 → s.coreRuns = true →
      c.since + (2 * c.step + 1) ≤ s.ticks →
      Answers (.selfCheckStep b) s fun t => t.cmp.chk = some { c with step := c.step + 1 } ∧ t.meas = s.meas ∧ t.tb = s.tb))

/-! ### Comparators (chapter 7) -/

/-- A comparator that works continuously asserts its output at an input that stays across, releases it at the release level, takes
its qualified state after the qualifying time, ends its hold after 5 µs, and at a strobe takes the level of the code. A latch
clears at a 1 written, unless its qualified state is asserted; where no rail ramps, the latches of the other channels stay. -/
def Obligations.ComparatorEventsComplete : Prop :=
  ((∀ (s : State) (w : Nat) (high : Bool) (n : Nat), n < 24 → ListsWf s → 30 ≤ w → WorksNow s n high →
      Answers (.comparatorCrossing n high w) s fun t => (t.comp n high).out = true ∧ (t.comp n high).live = true ∧ t.meas = s.meas ∧ t.tb = s.tb) ∧
    (∀ (s : State) (n w : Nat) (high : Bool), n < 24 → w < 10 → Answers (.comparatorCrossing n high w) s fun t => t.cmp = s.cmp) ∧
    (∀ (s : State) (high : Bool) (n : Nat), n < 24 → ListsWf s → WorksNow s n high →
      Answers (.comparatorRelease n high) s fun t => (t.comp n high).out = false ∧ (t.comp n high).live = false ∧ t.meas = s.meas) ∧
    (∀ (s : State) (high : Bool) (n : Nat), n < 24 → ListsWf s → (s.comp n high).out = true → s.dgl n ≠ 0 → s.blind n high = false →
      s.clk.gated = false → s.pwr.doze = false →
      Answers (.deglitchQualify n high) s fun t => (t.comp n high).q = true ∧ (t.comp n high).out = true ∧ t.meas = s.meas) ∧
    (∀ (s : State) (high : Bool) (n : Nat), n < 24 → ∀ k, (s.comp n high).holdTo = some k → ListsWf s → k ≤ s.ticks →
      Answers (.armHoldExpiry n high) s fun t => (t.comp n high).holdTo = none ∧ t.meas = s.meas) ∧
    (∀ (s : State) (high : Bool) (x : Int) (n : Nat), n < 24 → ListsWf s → s.strobeDue n high = true → s.blind n high = false →
      (s.comp n high).out = false → (s.comp n (!high)).out = false →
      (if high = true then (s.cmpTh n high : Int) < x else x < (s.cmpTh n high : Int)) →
      Answers (.newtStrobe n high x) s fun t => (t.comp n high).out = true ∧ (t.comp n high).live = true)) ∧
  (∀ (s : State) (p : Port) (v : Word), Store.wf regDflt s.regs = true → Reaches s p Reg.cmpFlLat →
      Answers (.latchClear p Reg.cmpFlLat v) s fun t =>
        (∀ n, n < 24 → bit v n = true → (s.comp n false).q = false → t.lat n false = false) ∧
        (∀ n, n < 24 → bit v n = true → (s.comp n false).q = true → t.lat n false = s.lat n false) ∧
        (s.rail = false → (∀ n, n < 24 → bit v n = false → t.lat n false = s.lat n false) ∧
          (∀ a, a ≠ Reg.cmpFlLat → t.reg a = s.reg a)) ∧ t.cmp = s.cmp)

/-! ### Sequencer commands and launches (chapter 8) -/

/-- A START, a STOP and a group command in time become pending at their launch time, and one that is too late is refused with
`CMD_ERR` = 1. -/
def Obligations.SequenceCommandsBecomePending : Prop :=
  ∀ (s : State) (p : Port) (v : Word), Reaches s p Reg.seqCtrl → s.isShadow = false → s.ridge.m.queue.length < 64 →
    let t0 := launchTime s v
    (s.tooLate t0 s.minLead = false →
      (fld v 0 4 = 1 → s.seq.state ≠ .hold →
        Answers (.seqStartCmd p v) s fun t => t.seq.pendStart = some (t0, false) ∧ t.seq.cmdErr = 0 ∧ t.seq.state = s.seq.state ∧ t.pins = s.pins) ∧
      (fld v 0 4 = 2 →
        Answers (.seqStopCmd p v) s fun t => t.seq.pendStop = some t0 ∧ t.seq.cmdErr = 0 ∧ t.seq.state = s.seq.state ∧ t.pins = s.pins) ∧
      (fld v 0 4 = 5 →
        Answers (.grpStartCmd p v) s fun t =>
          t.seq.pendGrp = s.seq.pendGrp ++ [{ stop := false, g := fld v 8 3, t := t0 }] ∧ t.seq.cmdErr = 0 ∧ t.pins = s.pins) ∧
      (fld v 0 4 = 6 →
        Answers (.grpStopCmd p v) s fun t =>
          t.seq.pendGrp = s.seq.pendGrp ++ [{ stop := true, g := fld v 8 3, t := t0 }] ∧ t.seq.cmdErr = 0 ∧ t.pins = s.pins)) ∧
    (s.tooLate t0 s.minLead = true → fld v 0 4 = 2 ∨ fld v 0 4 = 5 ∨ fld v 0 4 = 6 →
      Answers (.seqStopCmd p v) s fun t => t = { s with seq := { s.seq with cmdErr := 1 } })

/-- HOLD keeps the state it came from and is refused while a rail or a hand-over is under way; RELEASE returns to it. -/
def Obligations.HoldAndRelease : Prop :=
  (∀ (s : State) (p : Port) (v : Word), Reaches s p Reg.seqCtrl → s.isShadow = false → fld v 0 4 = 3 →
    (s.seq.state = .idle ∨ s.seq.state = .up → s.seqBusy = false →
      Answers (.seqHoldCmd p v) s fun t => t.seq.state = .hold ∧ t.seq.holdFrom = s.seq.state ∧ t.seq.cmdErr = 0 ∧
        (∀ n, n < 24 → s.rkind n ≠ .budg → t.rstate n = s.rstate n)) ∧
    (s.seq.state ≠ .idle → s.seq.state ≠ .up →
      Answers (.seqHoldCmd p v) s fun t => t = { s with seq := { s.seq with cmdErr := 2 } }) ∧
    (s.seq.state = .idle ∨ s.seq.state = .up → s.seqBusy = true →
      Answers (.seqHoldCmd p v) s fun t => t = { s with seq := { s.seq with cmdErr := 3 } })) ∧
  (∀ (s : State) (p : Port) (v : Word), Reaches s p Reg.seqCtrl → s.isShadow = false → fld v 0 4 = 4 → s.seq.state = .hold →
    s.seq.holdFrom = .up ∨ s.seq.holdFrom = .idle → (∀ n, n < 24 → (s.railAt n).deferred = none) → s.seq.src = .none →
    s.seq.heldGrp = [] → s.seq.heldStop = false → s.seq.heldStart = none →
    Answers (.seqReleaseCmd p v) s fun t => t.seq.state = s.seq.holdFrom ∧ t.seq.cmdErr = 0 ∧ ∀ n, n < 24 → t.rstate n = s.rstate n) ∧
  (∀ (s : State) (p : Port) (v : Word), Reaches s p Reg.seqCtrl → s.isShadow = false → fld v 0 4 = 4 → s.seq.state ≠ .hold →
    Answers (.seqReleaseCmd p v) s fun t => t = { s with seq := { s.seq with cmdErr := 2 } })

/-- A START launched in IDLE begins RISING with its time in `SEQ_T0`; a STOP launched in UP begins FALLING with its time in
`SEQ_TSTOP`; group commands start and stop their group. A START launched in HOLD starts nothing. On a master a command that still waits in
the queue at its T is dropped, and the master does not execute it either (R372). -/
def Obligations.LaunchesAct : Prop :=
  (∀ (s : State) (b : Bool) (x : BitVec 32), s.seq.pendStart = some (x, b) → Store.wf regDflt s.regs = true → s.launchDue x = true →
    s.stopAtSame x = false → s.seq.state = .idle → s.unjoined = false → s.isRole .mst = false ∨ s.ridge.m.queue = [] →
    Answers .startLaunch s fun t =>
      t.seq.pendStart = none ∧ t.seq.startReq = true ∧ t.reg Reg.seqT0 = x ∧ (t.seq.state = .rising ∨ t.seq.state = .up)) ∧
  (∀ (s : State) (b : Bool) (x : BitVec 32), s.seq.pendStart = some (x, b) → s.launchDue x = true → s.stopAtSame x = false →
    s.seq.state = .hold → s.isRole .mst = false ∨ s.ridge.m.queue = [] →
    Answers .startLaunch s fun t =>
      t.seq.pendStart = none ∧ t.seq.state = .hold ∧ t.seq.startReq = s.seq.startReq ∧ t.seq.cmdErr = 2 ∧ t.pins = s.pins) ∧
  (∀ (s : State) (b : Bool) (x : BitVec 32), s.seq.pendStart = some (x, b) → s.launchDue x = true → s.stopAtSame x = true →
    s.isRole .mst = false ∨ s.ridge.m.queue = [] →
    Answers .startLaunch s fun t => t = { s with seq := { s.seq with pendStart := none } }) ∧
  (∀ (s : State) (b : Bool) (x : BitVec 32), s.seq.pendStart = some (x, b) → Store.wf regDflt s.regs = true → s.launchDue x = true →
    s.isRole .mst = true →
    s.ridge.m.queue = [{ cmd := { op := 1, dst := dstAll, cseq := 0, arg0 := x, arg1 := 0 }, chooseT := false, tries := 0, hcmd := false,
                         proxy := false }] →
    Answers .startLaunch s fun t =>
      t.seq.pendStart = none ∧ t.seq.state = s.seq.state ∧ t.seq.startReq = s.seq.startReq ∧ t.seq.cmdErr = 1 ∧ t.ridge.m.queue = [] ∧
      bit (t.reg Reg.ridgeEvt) 8 = true ∧ t.pins = s.pins) ∧
  (∀ (s : State) (x : BitVec 32), s.seq.pendStop = some x → Store.wf regDflt s.regs = true → s.launchDue x = true → s.seq.state = .up →
    s.isRole .mst = false ∨ s.ridge.m.queue = [] →
    Answers .stopLaunch s fun t =>
      t.seq.pendStop = none ∧ t.seq.startReq = false ∧ t.reg Reg.seqTstop = x ∧ (t.seq.state = .falling ∨ t.seq.state = .downHold)) ∧
  (∀ (s : State) (c : GrpCmd), s.grpDue false = some c → c.g < 8 → s.seq.state = .up → s.seq.grpDown.getLsbD c.g = true →
    s.seq.grpStop.getLsbD c.g = false → s.isRole .mst = false ∨ s.ridge.m.queue = [] →
    Answers .grpStartLaunch s fun t => t.seq.grpDown.getLsbD c.g = false ∧ t.seq.pendGrp = s.seq.pendGrp.erase c ∧ t.seq.state = .up) ∧
  (∀ (s : State) (c : GrpCmd), s.grpDue true = some c → c.g < 8 → s.seq.state = .up → s.isRole .mst = false ∨ s.ridge.m.queue = [] →
    Answers .grpStopLaunch s fun t =>
      (t.seq.grpStop.getLsbD c.g || t.seq.grpDown.getLsbD c.g) = true ∧ t.seq.pendGrp = s.seq.pendGrp.erase c ∧ t.seq.state = .up)

/-! ### Rails (chapter 8) -/

/-- The instants and timeouts of one rail outside the source pair, in UP: on to RAMP with the EN pin driven, RAMP to ON, a missed
ramp to FAULTED, WAIT_OFF to DISCHARGE with the pin off, DISCHARGE to OFF, and RETRY_WAIT to RAMP again. -/
def Obligations.RailEventsComplete : Prop :=
  ∀ (s : State) (n : Nat), n < 24 → ListsWf s → s.seqCounts = true → s.seq.state = .up → s.rkind n = .seq → s.fab.guard = false →
    s.stopDue n = false → s.edgeWaits n = false →
    (s.rstate n = .waitOn → s.due (s.railAt n).inst = true → s.canTurnOn n = true →
      Answers (.railOnInstant n) s fun t =>
        t.rstate n = .ramp ∧ (t.railAt n).en = true ∧ (t.railAt n).since = s.ticks ∧ t.pins.en.getD n .highZ = s.enDrive n true ∧
        ∀ m, m < 24 → m ≠ n → t.rstate m = s.rstate m ∧ t.pins.en.getD m .highZ = s.pins.en.getD m .highZ) ∧
    (∀ k, (s.railAt n).inWin = some k → s.rstate n = .ramp → k + 10 ≤ s.ticks →
      Answers (.rampInWindow n) s fun t => t.rstate n = .on ∧ (t.railAt n).onAt = s.ticks ∧ (t.railAt n).en = (s.railAt n).en) ∧
    (s.rstate n = .ramp → (s.railAt n).since + (s.railAt n).tmo ≤ s.ticks → s.reaction n = .group →
      Answers (.rampTimeout n false) s fun t =>
        t.rstate n = .faulted ∧ (t.railAt n).rampFail = true ∧ (t.railAt n).en = false ∧ t.pins.en.getD n .highZ = s.enDrive n false) ∧
    (s.rstate n = .waitOff → s.due (s.railAt n).inst = true → s.dischTmo n ≠ 0 →
      Answers (.railOffInstant n) s fun t =>
        t.rstate n = .discharge ∧ (t.railAt n).since = s.ticks ∧ (t.railAt n).en = false ∧ t.pins.en.getD n .highZ = s.enDrive n false) ∧
    (s.rstate n = .discharge → (s.railAt n).since + (s.railAt n).tmo ≤ s.ticks →
      Answers (.dischTimeout n) s fun t => t.rstate n = .off ∧ (t.railAt n).dischFail = true ∧ t.pins = s.pins) ∧
    (s.rstate n = .retryWait → (s.railAt n).since + (s.railAt n).tmo ≤ s.ticks → s.canTurnOn n = true →
      Answers (.retryGapExpiry n) s fun t => t.rstate n = .ramp ∧ (t.railAt n).en = true ∧ t.pins.en.getD n .highZ = s.enDrive n true)

/-- The end of `SEQ_MIN_OFF`, and the forgiving times of rails and of SYSTEM reactions. In HOLD, and with the clocks gated, no
delay of a rail ends; a STOP that is due at the same instant comes before an on instant, the end of a ramp and the end of a retry gap,
and a REACT edge of the rail that waits before its off instant and the end of its ramp. -/
def Obligations.SequencerTimersComplete : Prop :=
  ((∀ s : State, s.seqRuns = true → s.seq.state = .downHold → s.seq.startReq = false → s.seq.downAt + s.seq.minOff ≤ s.ticks →
      Answers .minOffExpiry s fun t => t.seq.state = .idle ∧ t.seq.restartT = none ∧ t.pins = s.pins ∧ t.seq.rails = s.seq.rails) ∧
    (∀ (s : State) (n : Nat), n < 24 → ListsWf s → s.forgive n ≠ 0 → s.rstate n = .on → (s.railAt n).onAt + s.forgive n ≤ s.ticks →
      Answers (.forgiveExpiry n) s fun t =>
        (t.reactAt n).used = 0 ∧ (∀ m, m ≠ n → t.reactAt m = s.reactAt m) ∧ t = { s with react := { s.react with rails := t.react.rails } }) ∧
    (∀ s : State, s.seqRuns = true → s.seq.state = .up → s.regFld Reg.reactSys 24 8 ≠ 0 →
      s.seq.upAt + 1000000 * s.regFld Reg.reactSys 24 8 ≤ s.ticks →
      Answers .sysForgiveExpiry s fun t => t = { s with react := { s.react with sysCnt := 0 } })) ∧
  (∀ (s : State) (n : Nat), s.seqCounts = false →
      exec (.railOnInstant n) s = .next s ∧ exec (.rampInWindow n) s = .next s ∧ exec (.rampTimeout n false) s = .next s ∧
      exec (.railOffInstant n) s = .next s ∧ exec (.dischTimeout n) s = .next s ∧ exec (.retryGapExpiry n) s = .next s ∧
      exec .bbmGapExpiry s = .next s ∧ exec .returnDwellExpiry s = .next s) ∧
  (∀ (s : State) (n : Nat), s.stopDue n = true →
      exec (.railOnInstant n) s = .next s ∧ exec (.rampInWindow n) s = .next s ∧ exec (.retryGapExpiry n) s = .next s) ∧
  (∀ (s : State) (n : Nat), s.edgeWaits n = true → exec (.rampInWindow n) s = .next s ∧ exec (.railOffInstant n) s = .next s)

/-! ### The source pair (chapter 8) -/

/-- Hand-over of the source pair: the gap ends in the other source with the entry counted, the dwell of BATT ends in the gap back,
HOLD_BATT leaves MAINS at once, and an SRC edge withdraws the start request; the release of the SRC comparator follows its
input. -/
def Obligations.SourcePairCompletes : Prop :=
  (∀ (s : State) (n : Nat), s.railOf .batt = some n → s.seqCounts = true → s.seq.srcAt + s.seq.srcTmo ≤ s.ticks → s.seq.src = .gapToBatt →
    s.canTurnOn n = true → s.seq.state ≠ .falling → s.seq.pendStop.toList.any s.due = false →
    Answers .bbmGapExpiry s fun t => t.seq.src = .batt ∧ t.seq.handovers = min 0xFFFF (s.seq.handovers + 1)) ∧
  (∀ s : State, s.seq.state = .falling ∨ s.seq.pendStop.toList.any s.due = true → exec .bbmGapExpiry s = .next s) ∧
  (∀ s : State, s.seqCounts = true → s.seq.src = .batt → s.seq.dwell = true → s.seq.srcAt + s.seq.srcTmo ≤ s.ticks →
    Answers .returnDwellExpiry s fun t =>
      t.seq.src = .gapToMains ∧ t.seq.dwell = false ∧ t.seq.srcAt = s.ticks ∧ t.seq.srcTmo = s.regFld Reg.seqCfg 0 17 ∧ t.regs = s.regs) ∧
  (∀ (s : State) (p : Port) (v : Word), Store.wf regDflt s.regs = true → Reaches s p Reg.seqSrcCtrl → bit v 0 = true → s.seqRuns = true →
    s.seq.state = .up → s.seq.src = .mains →
    Answers (.holdBattWrite p v) s fun t => t.seq.src = .gapToBatt ∧ t.seq.srcAt = s.ticks ∧ bit (t.reg Reg.seqSrcCtrl) 0 = true) ∧
  (∀ (s : State) (b : Bool), s.supply.srcEdge = true → s.pwr.doze = false → s.seqRuns = true →
    Answers (.srcFaultEdge b) s fun t => t.supply.srcEdge = false ∧ t.seq.startReq = false) ∧
  (∀ (s : State) (n : Nat), ListsWf s → s.srcCh = some n → n < 24 → WorksNow s n false →
    Answers .srcRecover s fun t => (t.comp n false).out = false ∧ (t.comp n false).live = false)

/-! ### Margins (chapter 9) -/

/-- Margin commands for the DAC of a rail that is ON in UP: HIGH and LOW set the goal and start the slew, NOMINAL slews back;
outside UP a HIGH or LOW is refused with error 1 and moves nothing. A DAC moves one code per step towards its goal and stops
there; a timeout sends it back. -/
def Obligations.MarginsComplete : Prop :=
  ((∀ (s : State) (p : Port) (v : Word) (m : Nat), m < 8 → ∀ n, s.mrgCh m = some n → ListsWf s → Store.wf regDflt s.regs = true →
      Reaches s p Reg.mrgCtrl → s.isShadow = false → fld v 0 8 = 2 ^ m →
      (fld v 8 2 = 1 → s.seq.state = .up → s.rstate n = .on → s.edgeWaits n = false → s.sinkBit 0x49 = false → s.edgeWaits 0x49 = false →
        Answers (.marginHigh p v) s fun t =>
          (t.dac m).goal = s.mrgGoal m false ∧ (t.dac m).target = false ∧ (t.dac m).cmdAt = s.ticks ∧ (t.dac m).cur = (s.dac m).cur ∧
          (t.dac m).state = (if (s.dac m).cur = s.mrgGoal m false then .held else .slewOut) ∧ t.reg Reg.mrgErr = 0 ∧
          ∀ k, k ≠ m → t.dac k = s.dac k) ∧
      (fld v 8 2 = 2 → s.seq.state = .up → s.rstate n = .on → s.edgeWaits n = false → s.sinkBit 0x49 = false → s.edgeWaits 0x49 = false →
        Answers (.marginLow p v) s fun t =>
          (t.dac m).goal = s.mrgGoal m true ∧ (t.dac m).target = true ∧ (t.dac m).cmdAt = s.ticks ∧ (t.dac m).cur = (s.dac m).cur ∧
          (t.dac m).state = (if (s.dac m).cur = s.mrgGoal m true then .held else .slewOut) ∧ t.reg Reg.mrgErr = 0 ∧
          ∀ k, k ≠ m → t.dac k = s.dac k) ∧
      (fld v 8 2 = 0 → (s.dac m).state ≠ .nominal → (s.dac m).cur ≠ 0 →
        Answers (.marginNominal p v) s fun t =>
          (t.dac m).state = .slewBack ∧ (t.dac m).goal = 0 ∧ (t.dac m).cur = (s.dac m).cur ∧ t.reg Reg.mrgErr = 0 ∧
          ∀ k, k ≠ m → t.dac k = s.dac k)) ∧
    (∀ (s : State) (p : Port) (v : Word), Store.wf regDflt s.regs = true → Reaches s p Reg.mrgCtrl → s.isShadow = false → s.seq.state ≠ .up →
      fld v 8 2 = 1 ∨ fld v 8 2 = 2 → fld v 0 8 ≠ 0 → (∀ m, m < 8 → (s.mrgCh m).isSome = true) →
      Answers (.marginHigh p v) s (fun t => fld (t.reg Reg.mrgErr) 0 4 = 1 ∧ t.mrg = s.mrg) ∧
      Answers (.marginLow p v) s (fun t => fld (t.reg Reg.mrgErr) 0 4 = 1 ∧ t.mrg = s.mrg))) ∧
  (∀ (s : State) (m : Nat), m < 8 → ListsWf s → s.coreRuns = true →
      ((s.dac m).state = .slewOut → (s.dac m).stepAt + 2 ^ s.regFld (Reg.mrgCfg m) 16 3 ≤ s.ticks → (s.dac m).cur ≠ (s.dac m).goal →
        Answers (.marginSlewStep m) s fun t =>
          ((t.dac m).cur - (s.dac m).cur).natAbs = 1 ∧
          ((t.dac m).cur - (s.dac m).goal).natAbs + 1 = ((s.dac m).cur - (s.dac m).goal).natAbs ∧
          (t.dac m).state = (if (t.dac m).cur = (s.dac m).goal then .held else .slewOut) ∧
          (t.dac m).stepAt = (s.dac m).stepAt + 2 ^ s.regFld (Reg.mrgCfg m) 16 3 ∧
          (∀ k, k ≠ m → t.dac k = s.dac k) ∧ t = { s with mrg := t.mrg }) ∧
      ((s.dac m).state = .slewOut ∨ (s.dac m).state = .held → s.regFld (Reg.mrgCfg m) 24 8 ≠ 0 →
        (s.dac m).cmdAt + 1000000 * s.regFld (Reg.mrgCfg m) 24 8 ≤ s.ticks →
        Answers (.marginTimeout m) s fun t =>
          (t.dac m).timeout = true ∧ ((t.dac m).state = .nominal ∨ (t.dac m).state = .slewBack) ∧ (t.dac m).cur = (s.dac m).cur ∧
          (∀ k, k ≠ m → t.dac k = s.dac k) ∧ t = { s with mrg := t.mrg }))

/-! ### Log, counters, windows (chapter 10); the watchdog (chapter 15); DOZE (chapter 3) -/

/-- A record and a history entry are committed by their commit word, the last one written (R334, R340); without a complete body
neither row does anything. The rebuild after an L0 start reads index and counters from MRAM: without an uncorrectable word
nothing is written, and each counter holds its stored value. -/
def Obligations.LogWriterComplete : Prop :=
  ((∀ (s : State) (j : LogJob), s.nvm.job = some j → Store.wf mramDflt s.nvm.mram = true → j.todo = [] →
      (j.kind = .record →
        Answers .recordCommit s fun t =>
          t.mread j.commit.1 = j.commit.2 ∧ (∀ a, a ≠ j.commit.1 → t.mread a = s.mread a) ∧ t.nvm.job = none ∧ t.nvm.recNew = true ∧
          t.nvm.recIdx.newest = some j.seq ∧ j.seq % 2 ∈ t.nvm.recIdx.valid ∧ t.nvm.histIdx = s.nvm.histIdx ∧ t = { s with nvm := t.nvm }) ∧
      (j.kind = .hist →
        Answers .historyCommit s fun t =>
          t.mread j.commit.1 = j.commit.2 ∧ (∀ a, a ≠ j.commit.1 → t.mread a = s.mread a) ∧ t.nvm.job = none ∧ t.nvm.histNew = true ∧
          t.nvm.histIdx.newest = some j.seq ∧ j.seq % 64 ∈ t.nvm.histIdx.valid ∧ t.nvm.recIdx = s.nvm.recIdx ∧ t = { s with nvm := t.nvm })) ∧
    (∀ (s : State) (j : LogJob), s.nvm.job = some j → j.todo ≠ [] →
      exec .recordCommit s = .next s ∧ exec .historyCommit s = .next s)) ∧
  (∀ s : State, s.nvm.rebuilt = false → s.inStage 6 = true → s.rst.domains ≠ 0 → s.nvm.bad = [] →
      Answers .logRebuildDone s fun t =>
        t.nvm.rebuilt = true ∧ t.nvm.mram = s.nvm.mram ∧ (∀ i, i < 96 → t.counter i = s.mread (counterAddr i)) ∧
        (∀ k slot, slot ∈ (t.logIdx k).valid ↔ slot < ringSize k ∧ s.slotValid k slot = true) ∧ t = { s with nvm := t.nvm })

/-- Flush and clear of the counters, and clear of the log. The flush writes every changed counter and nothing else, after the
words of records and entries; the log writer in block reset refuses it. LOG_CTRL acts
with the key, from the service port, and its clears are applied once no write is in progress. -/
def Obligations.CountersComplete : Prop :=
  (∀ s : State, Store.wf mramDflt s.nvm.mram = true → 1000 ≤ s.nvm.flushMs → s.nvm.job = none → s.nvm.buf = [] → s.coreOut = true →
    s.coreRuns = true → s.logwBusy = false →
    Answers .counterFlush s fun t =>
      (∀ i, i ∈ s.nvm.dirty → t.mread (counterAddr i) = s.counter i) ∧
      (∀ a, (∀ i, i ∈ s.nvm.dirty → a ≠ counterAddr i) → t.mread a = s.mread a) ∧
      t.nvm.dirty = [] ∧ t.nvm.cnt = s.nvm.cnt ∧ t.nvm.flushMs = s.nvm.flushMs - 1000 ∧ t = { s with nvm := t.nvm }) ∧
  (∀ s : State, 1000 ≤ s.nvm.flushMs → s.nvm.job = none → s.nvm.buf = [] → s.coreOut = true → s.coreRuns = true → s.logwBusy = true →
    Answers .counterFlush s fun t => t = { s with nvm := { s.nvm with flushMs := s.nvm.flushMs - 1000 } }) ∧
  (∀ s : State, s.nvm.job.isSome = true ∨ s.nvm.buf ≠ [] → exec .counterFlush s = .next s) ∧
  (∀ (s : State) (v : Word), Reaches s .svc Reg.logCtrl → fld v 16 16 = 0x6C0E →
    Answers (.logClear .svc v) s (fun t =>
      t.nvm.clrLog = (s.nvm.clrLog || bit v 9) ∧ t.nvm.mram = s.nvm.mram ∧ t.nvm.recIdx = s.nvm.recIdx ∧ t = { s with nvm := t.nvm }) ∧
    Answers (.counterClear .svc v) s (fun t =>
      (∀ n k, bit v 8 = true → n < 24 → k < 4 → bit v 5 = true ∨ fld v 0 5 = n → 4 * n + k ∈ t.nvm.clrCnt) ∧
      (bit v 8 = false → t.nvm.clrCnt = s.nvm.clrCnt) ∧ t.nvm.cnt = s.nvm.cnt ∧ t = { s with nvm := t.nvm })) ∧
  (∀ (s : State) (p : Port) (v : Word), p ≠ .svc ∨ fld v 16 16 ≠ 0x6C0E →
    exec (.logClear p v) s = .next s ∧ exec (.counterClear p v) s = .next s) ∧
  (∀ s : State, StoresWf s → s.nvm.job = none → s.coreRuns = true →
    Answers .logClearApply s fun t =>
      (s.nvm.clrLog = true →
        (∀ i, i < 2 → t.mread (commitAddr .record i) = 0) ∧ (∀ i, i < 64 → t.mread (commitAddr .hist i) = 0) ∧
        t.nvm.recIdx.valid = [] ∧ t.nvm.histIdx.valid = [] ∧ t.reg Reg.reactFirst = 0) ∧
      (∀ i, i ∈ s.nvm.clrCnt → t.mread (counterAddr i) = 0 ∧ t.counter i = 0) ∧
      (∀ i, i ∉ s.nvm.clrCnt → t.counter i = s.counter i) ∧ t.nvm.clrLog = false ∧ t.nvm.clrCnt = []) ∧
  (∀ s : State, s.nvm.job.isSome = true → exec .logClearApply s = .next s)

/-- The windows (R350, R351), for every path but the chain's: each path keeps its own address; a read delivers the word and
advances; a write is posted, is refused with WREF, or is lost with OVR; the posted word enters MRAM. -/
def Obligations.WindowsComplete : Prop :=
  ∀ (s : State) (p : Port), p ≠ .chain →
    (∀ v : Word, Reaches s p Reg.logAddr →
      Answers (.logAddrWrite p v) s fun t =>
        (0x10000 ≤ v.toNat ∧ v.toNat ≤ 0x14FFF ∧ v.toNat % 4 = 0 → t.window p = { s.window p with logAddr := v.toNat }) ∧
        (¬(0x10000 ≤ v.toNat ∧ v.toNat ≤ 0x14FFF ∧ v.toNat % 4 = 0) → t.window p = { s.window p with range := true }) ∧
        (∀ q, q ≠ p → t.window q = s.window q) ∧ t.nvm.mram = s.nvm.mram ∧ t = { s with nvm := t.nvm }) ∧
    (Readable s p Reg.logData →
      Answers (.logDataRead p) s fun t =>
        Delivered p t (s.mshow (s.window p).logAddr) ∧
        (t.window p).logAddr = (if (s.window p).logAddr = 0x14FFC then 0x10000 else (s.window p).logAddr + 4) ∧
        (∀ q, q ≠ p → t.window q = s.window q) ∧ t.nvm.mram = s.nvm.mram ∧ t.regs = s.regs ∧ t.seq = s.seq) ∧
    (Readable s p Reg.nvmData →
      Answers (.nvmDataRead p) s fun t =>
        Delivered p t (s.mshow (s.window p).nvmAddr) ∧
        (t.window p).nvmAddr = (if (s.window p).nvmAddr = 0x1FFFC then 0 else (s.window p).nvmAddr + 4) ∧
        (∀ q, q ≠ p → t.window q = s.window q) ∧ t.nvm.mram = s.nvm.mram ∧ t.regs = s.regs ∧ t.seq = s.seq) ∧
    (∀ v : Word, Reaches s p Reg.nvmData →
      ((s.window p).posted = none → s.srcFault = false → s.inRunSlot (s.window p).nvmAddr = false →
        s.nvmAllowed p (s.window p).nvmAddr = true →
        Answers (.nvmDataWrite p v) s fun t =>
          (t.window p).posted = some ((s.window p).nvmAddr, v) ∧ (t.window p).nvmAddr = nvmNext (s.window p).nvmAddr ∧
          (∀ q, q ≠ p → t.window q = s.window q) ∧ t.nvm.mram = s.nvm.mram ∧ t = { s with nvm := t.nvm }) ∧
      ((s.window p).posted = none →
        s.srcFault = true ∨ s.inRunSlot (s.window p).nvmAddr = true ∨ s.nvmAllowed p (s.window p).nvmAddr = false →
        Answers (.nvmDataWrite p v) s fun t =>
          (t.window p).posted = none ∧ (t.window p).wref = true ∧ (t.window p).nvmAddr = nvmNext (s.window p).nvmAddr ∧
          t.nvm.mram = s.nvm.mram ∧ t = { s with nvm := t.nvm }) ∧
      ((s.window p).posted.isSome = true →
        Answers (.nvmDataWrite p v) s fun t =>
          t.window p = { s.window p with ovr := true } ∧ t.nvm.mram = s.nvm.mram ∧ t = { s with nvm := t.nvm })) ∧
    (∀ (v : Word) (a : Nat), (s.window p).posted = some (a, v) → Store.wf mramDflt s.nvm.mram = true → s.nvm.job = none → s.nvm.buf = [] →
      s.coreRuns = true →
      Answers (.nvmWriteDone p) s fun t =>
        t.mread a = v ∧ (∀ b, b ≠ a → t.mread b = s.mread b) ∧ (t.window p).posted = none ∧ t.seq = s.seq ∧ t.pins = s.pins)

/-- A read of `TB_UP_LO` delivers the low half of the uptime and copies the high half of the same instant into the holding
register, which a read of `TB_UP_HI` returns; an L0 reset and power-up leave 0 there (R92). -/
def Obligations.UptimeReadLatchesHigh : Prop :=
  (∀ (s : State) (p : Port), Readable s p Reg.tbUpLo →
    Answers (.tbUpLoRead p) s fun t =>
      Delivered p t (s.tb.up.setWidth 32) ∧ t.tb = { s.tb with upHi := s.tb.up.extractLsb' 32 32 } ∧ t.regs = s.regs ∧ t.seq = s.seq) ∧
  (∀ (s : State) (p : Port), Readable s p Reg.tbUpHi →
    Answers (.rcFieldRead p Reg.tbUpHi) s fun t => Delivered p t s.tb.upHi ∧ t.tb = s.tb ∧ t.regs = s.regs ∧ t.seq = s.seq) ∧
  (∀ s : State, Settled s → (s.levelFor (plainReq .pin)).1 = 0 → Answers (.pinReset []) s fun t => t.tb.upHi = 0) ∧
  (∀ s : State, s.supply.aon = false → Answers .powerOnReset s fun t => t.tb.upHi = 0) ∧ State.reset.tb.upHi = 0

/-- Host transactions on SPI, one word without CRC: a read returns `STAT` and the word, a write puts its word into the queue; the
queue applies its front word as a host write; an unaligned address is refused with ALIGN (R481 to R486). A correct kick of a
running watchdog restarts it with the key complemented; a wrong one and one before `OPEN` raise a WDT reset; while the
watchdog does not run a kick does nothing (R498). -/
def Obligations.HostAndWatchdog : Prop :=
  ((∀ (s : State) (a : Nat), s.hifOn = true → s.hostBus = .spi → s.hif.queue = [] → s.regBit Reg.sysHifCfg 0 = false → a < 65536 →
      a % 4 = 0 → s.blkErr a = false →
      Answers (.hostReadTransaction .spi ([0x80#8] ++ beBytes 2 a) 4) s fun t =>
        t.hif.tx = [s.spiStat, 0, 0, 0] ++ beBytes 4 (s.portRead .host true a).1.toNat ∧ t.hif.lastErr = 0 ∧ t.hif.queue = [] ∧
        t.seq = s.seq ∧ t.pins = s.pins ∧ t.nvm.mram = s.nvm.mram) ∧
    (∀ (s : State) (a : Nat) (v : Word), s.hifOn = true → s.hostBus = .spi → s.hif.queue = [] → s.regBit Reg.sysHifCfg 0 = false →
      a < 65536 → a % 4 = 0 → a ≠ Reg.rstCmd →
      Answers (.hostWriteTransaction .spi ([0#8] ++ beBytes 2 a ++ beBytes 4 v.toNat)) s fun t =>
        (t.hif.queue.map fun q => (q.addr, q.val)) = [(a, v)] ∧ t.hif.lastErr = 0 ∧ t = { s with hif := t.hif }) ∧
    (∀ (s : State) (a : Nat) (v : Word) (got : Nat), s.hifOn = true → s.hostBus = .spi → s.hif.queue = [] → a < 65536 → a % 4 ≠ 0 →
      Answers (.hostReadTransaction .spi ([0x80#8] ++ beBytes 2 a) got) s (fun t =>
        t.hif.lastErr = 3 ∧ t.hif.errf = true ∧ t = { s with hif := t.hif }) ∧
      Answers (.hostWriteTransaction .spi ([0#8] ++ beBytes 2 a ++ beBytes 4 v.toNat)) s (fun t =>
        t.hif.lastErr = 3 ∧ t.hif.errf = true ∧ t.hif.queue = [] ∧ t = { s with hif := t.hif })) ∧
    (∀ s : State, Store.wf regDflt s.regs = true → s.coreRuns = true → ∀ (q : QWord) (rest : List QWord), s.hif.queue = q :: rest →
      Reaches s .host q.addr → ∀ r, s.reach .host q.addr = some r → r.acc = .rw → s.rwWrite .host q.addr q.val = none →
      Answers .writeQueueApply s fun t =>
        t.hif.queue = rest ∧ t.reg q.addr = q.val &&& w32 r.mask ∧ (∀ b, b ≠ q.addr → t.reg b = s.reg b) ∧
        t = { s with regs := t.regs, hif := t.hif }) ∧
    (∀ s : State, s.hif.queue = [] ∨ s.queueWaits = true ∨ s.coreRuns = false → Answers .writeQueueApply s fun t => t = s) ∧
    (∀ s : State, ∀ (q : QWord) (rest : List QWord), s.hif.queue = q :: rest → s.queueWaits = true → s.hif.waitAt + 60 ≤ s.ticks →
      Answers .writeQueueWaitTimeout s fun t =>
        t.hif.queue = (s.hif.queue.filter fun x => decide (x.txn ≠ q.txn)) ∧ t.nvm.winHost.ovr = true ∧
        (s.hif.qErr = false → s.hif.lastErr = 0 → t.hif.lastErr = 8 ∧ t.hif.errf = true) ∧
        (s.hif.qErr = true ∨ s.hif.lastErr ≠ 0 → t.hif.lastErr = s.hif.lastErr) ∧
        t.regs = s.regs ∧ t = { s with nvm := t.nvm, hif := t.hif }) ∧
    (∀ s : State, s.hifOn = true → s.hostBus = .i2c →
      Answers .i2cStallTimeout s fun t => t.hif.lastErr = 2 ∧ t.hif.errf = true ∧ t = { s with hif := t.hif })) ∧
  (∀ (s : State) (p : Port) (v : Word), Reaches s p Reg.sysWdtKick →
      let want := if s.wdt.par then s.regFld Reg.sysWdtKey 0 16 ^^^ 0xFFFF else s.regFld Reg.sysWdtKey 0 16
      (s.wdt.run = false → Answers (.wdtKick p v) s fun t => t = s) ∧
      (s.wdt.run = true → fld v 0 16 = want → s.wdtOpen = true →
        Answers (.wdtKick p v) s fun t =>
          t = { s with wdt := { s.wdt with since := s.ticks, first := false, par := !s.wdt.par } }) ∧
      (Settled s → s.wdt.run = true → fld v 0 16 ≠ want → Answers (.wdtKick p v) s fun t => ResetBegins .wdt s t ∧ t.wdt.wcause = 3) ∧
      (Settled s → s.wdt.run = true → fld v 0 16 = want → s.wdtOpen = false →
        Answers (.wdtKick p v) s fun t => ResetBegins .wdt s t ∧ t.wdt.wcause = 2))

/-! ### The Ridge link: master (chapter 11) -/

/-- The tick starts a frame: the number and the tick time advance, at most eight commands are placed and sent in burst A behind
the header; burst B carries the same commands at Tk + 790 µs. A reply with a good CRC and the link's session updates the
node's row; one that is missing, or fails its CRC, counts, and the third in a row makes the node absent (R385, R388). -/
def Obligations.MasterLinkComplete : Prop :=
  ((∀ s : State, ∀ tk, s.ridge.m.lastTick = some tk → s.mstDrives = true → s.just (s.nextTick tk) = true →
      Answers .frameTick s fun t =>
        t.ridge.frame = (s.ridge.frame + 1) % 65536 ∧ t.ridge.m.lastTick = some (s.nextTick tk) ∧ t.ridge.m.frames = s.ridge.m.frames + 1 ∧
        t.ridge.m.burst.length ≤ 8 ∧ t.ridge.tx = linkTx (withCrc (t.headerBody (s.nextTick tk))) ++ linkTx (t.burstBytes 0x41) ∧
        t.ridge.txAt = s.ticks ∧ t.ridge.m.sentB = false ∧
        ((s.tb.now - tk).toNat < 2000 → t.ridge.m.lastTick = some (tk + w32 1000)) ∧ t.pins = s.pins) ∧
    (∀ s : State, ∀ tk, s.ridge.m.lastTick = some tk → s.mstDrives = false ∨ s.just (s.nextTick tk) = false →
      exec .frameTick s = .next s) ∧
    (∀ s : State, ∀ tk, s.ridge.m.lastTick = some tk → s.frameOn = true → s.ridge.m.sentB = false → s.just (tk + w32 790) = true →
      Answers .burstBSend s fun t =>
        t = { s with ridge := { s.ridge with tx := linkTx (s.burstBytes 0x42), txAt := s.ticks, m := { s.ridge.m with sentB := true } } }) ∧
    (∀ s : State, s.ridge.m.sentB = true → exec .burstBSend s = .next s)) ∧
  ((∀ (s : State) (n : Nat) (at_ : Int), ListsWf s → s.frameOn = true → s.hasSlot n = true → ∀ b : List Byte, b.length = 14 →
      leAt b 0 1 = s.ridge.session.toNat →
      Answers (.replyReceive n (linkTx (withCrc b)) at_) s fun t =>
        (t.node n).stateB = BitVec.ofNat 8 (leAt b 1 1) ∧ (t.node n).grpDown = BitVec.ofNat 8 (leAt b 2 1) ∧
        (t.node n).ract = BitVec.ofNat 8 (leAt b 3 1) ∧ (t.node n).evt = BitVec.ofNat 16 (leAt b 8 2) ∧
        (t.node n).missed = 0 ∧ (t.node n).seen = true ∧ (t.node n).admitted = (s.node n).admitted) ∧
    (∀ (s : State) (n : Nat), ListsWf s → s.frameOn = true → s.hasSlot n = true →
      ((s.node n).missed + 1 < 3 →
        Answers (.replyMissing n) s fun t =>
          t.node n = { s.node n with missed := (s.node n).missed + 1 } ∧ (∀ k, k ≠ n → t.node k = s.node k) ∧ t.seq = s.seq ∧ t.pins = s.pins) ∧
      (3 ≤ (s.node n).missed + 1 →
        Answers (.replyMissing n) s fun t =>
          (t.node n).absent = true ∧ (t.node n).admitted = false ∧ (t.node n).joining = false ∧ (t.node n).uid = (s.node n).uid ∧
          (∀ k, k ≠ n → t.node k = s.node k) ∧ t.seq = s.seq ∧ t.pins = s.pins) ∧
      (∀ (bytes : List Byte) (at_ : Int), linkBody 14 bytes = none → exec (.replyReceive n bytes at_) s = exec (.replyMissing n) s)))

/-- A croak on the open slots: its device is given a node number and joins; one whose certificate is not allowed is refused; a
failed CRC and a collision set `COLL` (R382). -/
def Obligations.CroaksComplete : Prop :=
  (∀ s : State, ListsWf s → s.frameOn = true → s.croakOpen = true → s.ridge.m.croaked = false →
    ∀ b : List Byte, b.length = 28 → leAt b 0 1 = 0x43 → s.allowed (BitVec.ofNat 64 (leAt b 20 8)) = true →
    ∀ n, s.chooseNode (BitVec.ofNat 64 (leAt b 4 8)) (BitVec.ofNat 64 (leAt b 12 8)) (decide (leAt b 1 1 % 2 = 1))
      (if leAt b 1 1 / 2 % 2 = 1 then some (leAt b 2 1) else none) = some n → (s.node n).admitted = false →
    (nodeNums.all fun k => !((s.node k).admitted && decide ((s.node k).uid = BitVec.ofNat 64 (leAt b 4 8)))) = true →
    Answers (.croakReceive (linkTx (withCrc b))) s fun t =>
      (t.node n).uid = BitVec.ofNat 64 (leAt b 4 8) ∧ (t.node n).bound = true ∧ (t.node n).joining = true ∧
      (t.node n).admitted = false ∧ (∀ k, k ≠ n → t.node k = s.node k) ∧ t.ridge.m.croaked = true ∧ t.seq.state = s.seq.state ∧ t.pins = s.pins) ∧
  (∀ s : State, Store.wf regDflt s.regs = true → s.frameOn = true → s.croakOpen = true → s.ridge.m.croaked = false →
    ∀ b : List Byte, b.length = 28 → leAt b 0 1 = 0x43 → s.allowed (BitVec.ofNat 64 (leAt b 20 8)) = false →
    (nodeNums.all fun k => !((s.node k).admitted && decide ((s.node k).uid = BitVec.ofNat 64 (leAt b 4 8)))) = true →
    Answers (.croakReceive (linkTx (withCrc b))) s fun t =>
      bit (t.reg Reg.ridgeEvt) 7 = true ∧ t.ridge.m.nodes = s.ridge.m.nodes ∧ t.ridge.m.croaked = true) ∧
  (∀ (s : State) (bytes : List Byte), Store.wf regDflt s.regs = true → s.frameOn = true → s.croakOpen = true →
    s.ridge.m.croaked = false → linkBody 28 bytes = none →
    Answers (.croakReceive bytes) s fun t => bit (t.reg Reg.ridgeEvt) 9 = true ∧ t.ridge = s.ridge ∧ t = { s with regs := t.regs }) ∧
  (∀ s : State, Store.wf regDflt s.regs = true → s.frameOn = true →
    Answers .croakCollision s fun t =>
      bit (t.reg Reg.ridgeEvt) 9 = true ∧ (∀ a, a ≠ Reg.ridgeEvt → t.reg a = s.reg a) ∧ t = { s with regs := t.regs })

/-- The host's Ridge commands: an accepted one is queued with BUSY set, a faulty one is refused with its code; a proxy transfer is
queued for an admitted node, and a read without an answer for four frames ends in error; FORGET clears the row of a node that
is not admitted, with its key (R392, R393). -/
def Obligations.HostRidgeCommands : Prop :=
  (∀ (s : State) (p : Port) (v : Word), Store.wf regDflt s.regs = true → Reaches s p Reg.ridgeHcmd → s.isShadow = false →
    s.regBit Reg.ridgeHcmdStat 15 = false → s.ridge.m.queue.length < 64 → fld v 0 8 = 6 → fld v 8 6 = dstAll →
    (bit v 15 = true →
      Answers (.ridgeHcmdWrite p v) s fun t =>
        t.ridge.m.queue = s.ridge.m.queue ++ [{ ownCmd 6 dstAll (s.after 2000) (s.reg Reg.ridgeHcmdArg) false with hcmd := true }] ∧
        t.regBit Reg.ridgeHcmdStat 15 = true ∧ fld (t.reg Reg.ridgeHcmdStat) 0 4 = 0 ∧ t.seq = s.seq ∧ t.pins = s.pins) ∧
    (bit v 15 = false → s.tooLate (s.reg Reg.ridgeHcmdT) 2000 = true →
      Answers (.ridgeHcmdWrite p v) s fun t => fld (t.reg Reg.ridgeHcmdStat) 0 4 = 1 ∧ t.ridge = s.ridge ∧ t = { s with regs := t.regs })) ∧
  (∀ (s : State) (p : Port) (v : Word), Store.wf regDflt s.regs = true → Reaches s p Reg.ridgeHcmd → s.isShadow = false →
    (s.regBit Reg.ridgeHcmdStat 15 = true →
      Answers (.ridgeHcmdWrite p v) s fun t => fld (t.reg Reg.ridgeHcmdStat) 0 4 = 4 ∧ t.ridge = s.ridge) ∧
    (s.regBit Reg.ridgeHcmdStat 15 = false → fld v 0 8 ≠ 6 → fld v 0 8 ≠ 7 → fld v 0 8 ≠ 8 →
      Answers (.ridgeHcmdWrite p v) s fun t => fld (t.reg Reg.ridgeHcmdStat) 0 4 = 2 ∧ t.ridge = s.ridge)) ∧
  (∀ (s : State) (p : Port) (n : Nat), Store.wf regDflt s.regs = true → Reaches s p Reg.ridgePxCtrl → s.isShadow = false →
    s.regBit Reg.ridgePxStat 31 = false → s.regFld Reg.ridgePxAddr 16 5 = n →
    ((s.node n).admitted = true → s.ridge.m.queue.length < 64 →
      Answers (.proxyRead p 1) s (fun t =>
        t.regBit Reg.ridgePxStat 31 = true ∧ t.ridge.m.pxRead = some (n, none) ∧ t.ridge.m.queue.length = s.ridge.m.queue.length + 1) ∧
      Answers (.proxyWrite p 2) s (fun t =>
        t.regBit Reg.ridgePxStat 31 = true ∧ t.ridge.m.pxRead = s.ridge.m.pxRead ∧ t.ridge.m.queue.length = s.ridge.m.queue.length + 1)) ∧
    ((s.node n).admitted = false →
      Answers (.proxyRead p 1) s (fun t => fld (t.reg Reg.ridgePxStat) 0 4 = 1 ∧ t.ridge.m.queue = s.ridge.m.queue) ∧
      Answers (.proxyWrite p 2) s (fun t => fld (t.reg Reg.ridgePxStat) 0 4 = 1 ∧ t.ridge.m.queue = s.ridge.m.queue))) ∧
  (∀ s : State, Store.wf regDflt s.regs = true → ∀ n f, s.ridge.m.pxRead = some (n, f) → ∀ k, f = some k → k + 4 ≤ s.ridge.m.frames →
    Answers .proxyReadTimeout s fun t => t.reg Reg.ridgePxStat = 3 ∧ t.ridge.m.pxRead = none ∧ t.seq = s.seq ∧ t.pins = s.pins) ∧
  (∀ (s : State) (p : Port) (v : Word), ListsWf s → Reaches s p Reg.ridgeNtCtrl → s.isShadow = false → fld v 16 16 = 0x7E0F →
    bit v 0 = true → (s.node (s.regFld Reg.ridgeNtSel 0 5)).admitted = false →
    Answers (.nodeForget p v) s fun t =>
      t.node (s.regFld Reg.ridgeNtSel 0 5) = Node.init ∧ (∀ k, k ≠ s.regFld Reg.ridgeNtSel 0 5 → t.node k = s.node k) ∧
      t = { s with ridge := t.ridge }) ∧
  (∀ (s : State) (p : Port) (v : Word), Reaches s p Reg.ridgeNtCtrl → fld v 16 16 ≠ 0x7E0F →
    Answers (.nodeForget p v) s fun t => t = s)

/-! ### The Ridge link: slave (chapter 11) -/

/-- Ticks and headers at a slave: the edge is kept, the header behind it brings frame, ZX stamp and budget epoch, and a header
that names a joining device's bit admits it; one with a failed CRC is discarded with its tick. A burst with one timed
broadcast that is in time: it waits for its T at an admitted slave, a START or STOP in place of the one that waited; seen once, it
is not taken again. -/
def Obligations.SlaveReceivesComplete : Prop :=
  ((∀ (s : State) (e : Int), s.slaveOn = true →
      Answers (.tickEdgeReceive e) s fun t => t = { s with ridge := { s.ridge with s := { s.ridge.s with edge := some (s.ticks, e) } } }) ∧
    (∀ s : State, s.slaveOn = true → ∀ x, s.ridge.s.edge = some x → s.ticks ≤ x.1 + 40 →
      ∀ b : List Byte, b.length = 24 → leAt b 0 2 = 0x0148 →
      Answers (.headerReceive (linkTx (withCrc b))) s fun t =>
        t.ridge.frame = leAt b 2 2 ∧ t.ridge.zxts = w32 (leAt b 8 4) ∧ t.ridge.zxv = decide (leAt b 15 1 % 2 = 1) ∧
        t.ridge.bepoch = BitVec.ofNat 16 (leAt b 12 2) ∧ t.ridge.s.lastTick = s.ticks ∧ t.ridge.s.edge = none) ∧
    (∀ s : State, s.slaveOn = true → ∀ x, s.ridge.s.edge = some x → s.ticks ≤ x.1 + 40 → s.ridge.lstate = .joining → s.ridge.node ≠ 0 →
      ∀ b : List Byte, b.length = 24 → leAt b 0 2 = 0x0148 → bit (w32 (leAt b 16 4)) s.ridge.node = true →
      Answers (.headerReceive (linkTx (withCrc b))) s fun t =>
        t.ridge.lstate = .admitted ∧ t.ridge.node = s.ridge.node ∧ t.role.addr = s.ridge.node ∧ t.role.addrValid = true ∧
        t.ridge.session = BitVec.ofNat 8 (leAt b 14 1)) ∧
    (∀ (s : State) (bytes : List Byte), s.slaveOn = true → linkBody 24 bytes = none →
      Answers (.headerCrcFail bytes) s (fun t =>
        t.ridge.s.edge = none ∧ t.ridge.lstate = s.ridge.lstate ∧ t.ridge.frame = s.ridge.frame ∧ t.ridge.session = s.ridge.session ∧
        t.tb = s.tb ∧ t.seq = s.seq ∧ t.pins = s.pins ∧ t = { s with regs := t.regs, ridge := t.ridge }) ∧
      exec (.headerReceive bytes) s = exec (.headerCrcFail bytes) s)) ∧
  (∀ (s : State) (c : RidgeCmd) (fr : Nat), s.slaveOn = true → s.isShadow = false → s.slaveAdmitted = true →
      ∀ ty, ty = 0x41 ∨ ty = 0x42 → 1 ≤ c.op → c.op ≤ 8 → c.dst = dstAll → c.cseq < 65536 → cseqFrom c.cseq s.ridge.s.fromSeq = true →
      (s.ridge.s.seen.contains c.cseq = false → s.tooLate c.arg0 100 = false →
        Answers (.burstReceive (linkTx ([b8 ty, 1, 254, b8 fr] ++ cmdBytes c))) s fun t =>
          t.ridge.s.timed = (if c.op ≤ 2 then s.ridge.s.timed.filter fun x => decide (x.op ≠ c.op) else s.ridge.s.timed) ++ [c] ∧
          c.cseq ∈ t.ridge.s.seen ∧ (c.op = 1 → t.seq.pendStart = none) ∧ (c.op = 2 → t.seq.pendStop = none) ∧
          (3 ≤ c.op → t.seq = s.seq) ∧
          t = { s with ridge := t.ridge, seq := { s.seq with pendStart := t.seq.pendStart, pendStop := t.seq.pendStop } }) ∧
      (s.ridge.s.seen.contains c.cseq = true →
        Answers (.burstReceive (linkTx ([b8 ty, 1, 254, b8 fr] ++ cmdBytes c))) s fun t => t = s))

/-- The untimed commands at a slave: ADMIT, REJECT, DELAY, REG_READ and REG_WRITE (R370, R379, R381, R383). Replies and croaks of
a slave, and the ends of its waits (R365, R366, R376, R380, R381, R387). -/
def Obligations.SlaveActsComplete : Prop :=
  ((∀ (s : State) (n : Nat), s.slaveDrives = true → s.ridge.lstate = .croaking → 1 ≤ n → n ≤ 31 →
      Answers (.ridgeAdmit s.uid n) s fun t =>
        t.ridge.lstate = .joining ∧ t.ridge.node = n ∧ t.ridge.s.waitAns = none ∧ t.ridge.s.joinFr = 0 ∧ t = { s with ridge := t.ridge }) ∧
    (∀ (s : State) (uid : BitVec 64) (n : Nat), s.slaveOn = true → s.ridge.lstate ≠ .paired → uid ≠ s.uid →
      Answers (.ridgeAdmit uid n) s (fun t => t = s) ∧ Answers (.ridgeReject uid) s (fun t => t = s)) ∧
    (∀ s : State, Store.wf regDflt s.regs = true → s.slaveOn = true → s.ridge.lstate = .croaking →
      Answers (.ridgeReject s.uid) s fun t =>
        t.ridge.lstate = .croaking ∧ t.ridge.s.backoff = 10000 ∧ t.ridge.s.tries = 0 ∧ bit (t.reg Reg.ridgeEvt) 7 = true ∧
        t = { s with regs := t.regs, ridge := t.ridge }) ∧
    (∀ (s : State) (d : Nat), Store.wf regDflt s.regs = true → s.slaveOn = true → s.hasNode = true → d < 65536 →
      Answers (.ridgeDelay d) s fun t =>
        t.reg Reg.ridgeDly = w32 d ∧ t.ridge.s.dlyOk = true ∧ (∀ a, a ≠ Reg.ridgeDly → t.reg a = s.reg a) ∧ t.tb.now = s.tb.now ∧
        t = { s with regs := t.regs, ridge := t.ridge, tb := t.tb }) ∧
    (∀ (s : State) (a : Nat), Readable s .ridge a → ∀ r, s.reach .ridge a = some r → a < 65536 → a % 4 = 0 → a ≠ Reg.logData →
      a ≠ Reg.nvmData → a ≠ Reg.tbUpLo →
      Answers (.ridgeRegRead a) s fun t =>
        t.ridge.s.data = s.shown .ridge r a ∧ t.ridge.s.dvalid = true ∧ t.regs = s.regs ∧ t = { s with ridge := t.ridge }) ∧
    (∀ (s : State) (a : Nat) (v : Word), Store.wf regDflt s.regs = true → Reaches s .ridge a → ∀ r, s.reach .ridge a = some r →
      a < 65536 → a % 4 = 0 → r.acc = .rw → s.rwWrite .ridge a v = none →
      Answers (.ridgeRegWrite a v) s fun t =>
        t.reg a = v &&& w32 r.mask ∧ (∀ b, b ≠ a → t.reg b = s.reg b) ∧ t = { s with regs := t.regs })) ∧
  ((∀ s : State, s.replyNow = true →
      Answers .replySend s fun t =>
        (∃ b, linkBody 14 t.ridge.tx = some b ∧ leAt b 0 1 = s.ridge.session.toNat ∧
          leAt b 1 1 = s.replyState % 256 ∧ leAt b 2 1 = s.seq.grpDown.toNat ∧ leAt b 3 1 = s.ridge.s.ract.toNat ∧
          leAt b 4 2 = s.ridge.s.rxSeq % 65536 ∧ leAt b 6 2 = s.ridge.s.missmap.toNat ∧
          leAt b 8 2 = s.ridge.s.evt.toNat ∧ leAt b 10 4 = s.ridge.s.data.toNat) ∧
        t.ridge.s.dvalid = false ∧ t.ridge.txAt = s.ticks ∧ t = { s with ridge := t.ridge }) ∧
    (∀ s : State, s.replyNow = false → exec .replySend s = .next s) ∧
    (∀ s : State, s.slaveDrives = true → s.ridge.lstate = .croaking → s.ridge.s.backoff = 0 → s.ridge.s.waitAns = none → s.slotOpen = true →
      Answers .croakSend s fun t =>
        (∃ b, linkBody 28 t.ridge.tx = some b ∧ leAt b 0 1 = 0x43 ∧ leAt b 4 8 = s.uid.toNat ∧
          leAt b 3 1 = min 255 (s.ridge.s.tries + 1) ∧ leAt b 20 8 = s.svc.certh.toNat) ∧
        t.ridge.s.waitAns = some 0 ∧ t.ridge.txAt = s.ticks ∧ t = { s with ridge := t.ridge }) ∧
    (∀ s : State, s.slaveOn = true → s.ridge.lstate = .croaking → ∀ k, s.ridge.s.waitAns = some k → 3 ≤ k →
      Answers .croakAnswerTimeout s fun t =>
        t.ridge.s.waitAns = none ∧ t.ridge.s.backoff < 2 ^ min s.ridge.s.tries 6 ∧ t.ridge.lstate = .croaking ∧
        t = { s with ridge := t.ridge, free := t.free }) ∧
    (∀ s : State, s.slaveOn = true → s.ridge.lstate = .locking → s.ridge.s.lastTick + 5000 ≤ s.ticks →
      Answers .lockTickTimeout s fun t => t.ridge.lstate = .listen ∧ t.ridge.tlock = false ∧ t = { s with ridge := t.ridge }) ∧
    (∀ s : State, s.slaveOn = true → s.ridge.lstate = .joining → 13 ≤ s.ridge.s.joinFr →
      Answers .joiningTimeout s fun t => t.ridge.lstate = .croaking ∧ t.ridge.node = 0 ∧ t = { s with ridge := t.ridge }) ∧
    (∀ s : State, Store.wf regDflt s.regs = true → s.slaveOn = true →
      s.ridge.lstate = .croaking ∨ s.ridge.lstate = .joining ∨ s.ridge.lstate = .admitted ∨ s.ridge.lstate = .paired →
      s.ridge.s.lastTick + 5000 ≤ s.ticks →
      Answers .masterLoss s fun t =>
        t.ridge.lstate = .listen ∧ t.ridge.mlost = true ∧ t.role.addr = 0 ∧ t.role.addrValid = false ∧ bit (t.reg Reg.ridgeEvt) 3 = true ∧
        (s.lossAct = 2 → t.ridge.s.timed = s.ridge.s.timed ∧ t.seq = s.seq ∧ t.pins = s.pins) ∧
        (s.lossAct ≠ 2 → t.ridge.s.timed = [])))

/-- The timed commands at their T (R378), on a unit whose sequencer runs: START and STOP, group commands, GRANT, EVENT, MARGIN,
and RESET with its key. -/
def Obligations.RidgeLaunchesAct : Prop :=
  (∀ s : State, Store.wf regDflt s.regs = true → ∀ c, s.dueCmd 1 = some c → s.seqRuns = true → s.coreRuns = true →
    (s.stopAtSame c.arg0 = false → s.unjoined = false → s.seq.state = .idle →
      Answers .ridgeStart s fun t =>
        t.ridge.s.timed = s.ridge.s.timed.erase c ∧ t.seq.startReq = true ∧ t.reg Reg.seqT0 = c.arg0 ∧
        (t.seq.state = .rising ∨ t.seq.state = .up)) ∧
    ((s.dropTimed c).stopAtSame c.arg0 = true → Answers .ridgeStart s fun t => t = s.dropTimed c)) ∧
  (∀ s : State, Store.wf regDflt s.regs = true → ∀ c, s.dueCmd 2 = some c → s.seqRuns = true → s.coreRuns = true → s.seq.state = .up →
    Answers .ridgeStop s fun t =>
      t.ridge.s.timed = ((s.ridge.s.timed.erase c).filter fun x => !(decide (x.op = 1) && decide (x.arg0 = c.arg0))) ∧
      t.seq.startReq = false ∧ t.reg Reg.seqTstop = c.arg0 ∧ (t.seq.state = .falling ∨ t.seq.state = .downHold)) ∧
  (∀ s : State, ∀ c, s.dueCmd 3 = some c → s.seqRuns = true → s.coreRuns = true → s.seq.state = .up →
    s.seq.grpDown.getLsbD (fld c.arg1 0 3) = true → s.seq.grpStop.getLsbD (fld c.arg1 0 3) = false →
    Answers .ridgeGrpStart s fun t =>
      t.seq.grpDown.getLsbD (fld c.arg1 0 3) = false ∧ t.ridge.s.timed = s.ridge.s.timed.erase c ∧ t.seq.state = .up) ∧
  (∀ s : State, ∀ c, s.dueCmd 4 = some c → s.seqRuns = true → s.coreRuns = true → s.seq.state = .up →
    Answers .ridgeGrpStop s fun t =>
      (t.seq.grpStop.getLsbD (fld c.arg1 0 3) || t.seq.grpDown.getLsbD (fld c.arg1 0 3)) = true ∧
      t.ridge.s.timed = s.ridge.s.timed.erase c ∧ t.seq.state = .up) ∧
  (∀ s : State, s.isShadow = false → ∀ c, s.dueCmd 5 = some c → s.seqRuns = true → s.coreRuns = true → fld c.arg1 24 8 ≠ 0 →
    Answers .ridgeGrant s fun t => t.sched.cur = some (grantOf c) ∧ t.ridge.s.timed = s.ridge.s.timed.erase c ∧
      (fld c.arg1 0 24 = 0 → ∀ n, n < 24 → t.rkind n = .budg → t.rstate n ≠ .on)) ∧
  (∀ s : State, ∀ c, s.dueCmd 6 = some c → s.seqRuns = true → s.coreRuns = true → s.fabRuns = true →
    Answers .ridgeEvent s fun t =>
      t.fab.pulses = s.fab.pulses ++ [0xB0 + fld c.arg1 0 4] ∧ t.ridge.s.timed = s.ridge.s.timed.erase c ∧ t.seq = s.seq ∧ t.pins = s.pins) ∧
  (∀ s : State, Store.wf regDflt s.regs = true → ∀ c, s.dueCmd 7 = some c → s.seqRuns = true → s.coreRuns = true → fld c.arg1 0 8 = 0 →
    Answers .ridgeMargin s fun t => t.reg Reg.mrgErr = 0 ∧ t.mrg = s.mrg ∧ t.ridge.s.timed = s.ridge.s.timed.erase c) ∧
  (∀ s : State, ListsWf s → Store.wf regDflt s.regs = true → ∀ c, s.dueCmd 7 = some c → s.seqRuns = true → s.coreRuns = true →
    s.seq.state = .up → s.sinkBit 0x49 = false → ∀ m, m < 8 → fld c.arg1 0 8 = 2 ^ m → ∀ n, s.mrgCh m = some n → fld c.arg1 8 2 = 1 →
    s.rstate n = .on →
    Answers .ridgeMargin s fun t =>
      (t.dac m).goal = s.mrgGoal m false ∧ t.reg Reg.mrgErr = 0 ∧ t.ridge.s.timed = s.ridge.s.timed.erase c ∧ t.pins = s.pins) ∧
  (∀ s : State, Settled s → ∀ c, s.dueCmd 8 = some c → s.seqRuns = true → s.coreRuns = true → c.arg1 = 0xC1A00001#32 →
    s.isRole .slv = true → Answers (.ridgeReset []) s fun t => ResetBegins .ridge s t) ∧
  (∀ s : State, ∀ c, s.dueCmd 8 = some c → s.seqRuns = true → s.coreRuns = true → c.arg1 ≠ 0xC1A00001#32 →
    Answers (.ridgeReset []) s fun t => t = s.dropTimed c) ∧
  (∀ s : State, s.seqRuns = false ∨ s.coreRuns = false →
    exec .ridgeStart s = .next s ∧ exec .ridgeStop s = .next s ∧ exec .ridgeGrpStart s = .next s ∧ exec .ridgeGrpStop s = .next s ∧
    exec .ridgeEvent s = .next s ∧ exec .ridgeMargin s = .next s ∧ exec (.ridgeReset []) s = .next s ∧
    (s.isShadow = false → exec .ridgeGrant s = .next s))

/-! ### The budget scheduler (chapter 12) -/

/-- Half-cycles: an edge at least 7,000 µs after the last one is accepted with its timestamp and counts in the budget epoch, an
earlier one is noise, and with more than 12,500 µs since the last one ZX is lost (R397, R398, R402). A pending grant comes
into force at its T with the rails of its mask; a grant without length is dropped; at its end every budgeted rail is off
(R412). `SCHED_US` clears bit by bit where the current channel is not found faulty, and a duty is kept to 1,000 (R396, R415). -/
def Obligations.SchedulerComplete : Prop :=
  ((∀ s : State, Store.wf regDflt s.regs = true → s.schedules = true → s.clk.gated = false → s.pwr.doze = false →
      ∀ l, s.sched.zxLast = some l → s.zxLate = false →
      let z := s.tb.now - w32 (20 + s.regFld Reg.schedZxcfg 0 11)
      (7000 ≤ (z - l).toNat →
        Answers (.zxEdge true) s fun t =>
          t.pins.zx = true ∧ t.sched.zxLast = some z ∧ t.reg Reg.schedZxt = z ∧ t.sched.bepoch = s.sched.bepoch + 1 ∧
          t.sched.zxGood = min 4 (s.sched.zxGood + 1) ∧ t.sched.zxInts = ((z - l).toNat :: s.sched.zxInts).take 4) ∧
      ((z - l).toNat < 7000 →
        Answers (.zxEdge true) s fun t => t = { s with pins := { s.pins with zx := true } })) ∧
    (∀ s : State, s.regFld Reg.schedCfg 1 2 ≠ 1 →
      Answers (.zxEdge false) s fun t => t = { s with pins := { s.pins with zx := false } }) ∧
    (∀ s : State, Store.wf regDflt s.regs = true → s.schedules = true → s.zxLate = true →
      Answers .zxLost s fun t =>
        t.sched.zxOk = false ∧ t.sched.zxLast = none ∧ t.sched.zxInts = [] ∧ bit (t.reg Reg.schedEvt) 1 = true ∧
        (∀ a, a ≠ Reg.schedEvt → t.reg a = s.reg a) ∧ t = { s with regs := t.regs, sched := t.sched })) ∧
  ((∀ s : State, ∀ g rest, s.sched.pend = g :: rest → s.due g.t = true → s.isShadow = false → s.seqRuns = true → s.coreRuns = true →
      (g.len ≠ 0 →
        Answers .grantLaunch s fun t =>
          t.sched.cur = some g ∧ t.sched.pend = rest ∧
          (∀ n, n < 24 → g.mask.getLsbD n = false → t.rkind n = .budg → t.rstate n ≠ .on)) ∧
      (g.len = 0 →
        Answers .grantLaunch s fun t => t.sched = { s.sched with pend := rest } ∧ t.seq = s.seq ∧ t.pins = s.pins)) ∧
    (∀ s : State, ∀ g, s.sched.cur = some g → s.due g.stop = true → s.grantDue = false → s.isShadow = false → s.coreRuns = true →
      Answers .grantEnd s fun t => t.sched.cur = none ∧ ∀ n, n < 24 → t.rkind n = .budg → t.rstate n ≠ .on)) ∧
  ((∀ (s : State) (p : Port) (v : Word), Store.wf regDflt s.regs = true → Reaches s p Reg.schedUs →
      Answers (.unsensedClear p v) s fun t =>
        (∀ n, n < 24 →
          t.unsensed n = (s.unsensed n && !(bit v n && !(s.supervised n && s.regBit Reg.cmpChkFail (s.ich n))))) ∧
        (∀ a, a ≠ Reg.schedUs → t.reg a = s.reg a) ∧ t = { s with regs := t.regs }) ∧
    (∀ (s : State) (p : Port) (e : Nat) (v : Word), Store.wf regDflt s.regs = true → e < 64 → Reaches s p (Reg.schedLDuty e) →
      Answers (.dutyWrite p e v) s fun t =>
        t.reg (Reg.schedLDuty e) = w32 (min 1000 (fld v 0 10)) ∧ (∀ a, a ≠ Reg.schedLDuty e → t.reg a = s.reg a) ∧
        t = { s with regs := t.regs }))

/-! ### The redundant pair (chapter 13) -/

/-- CLAIMs and heartbeats leave and arrive; a unit that hears no partner goes alone through ADOPT; a SOLO unit whose partner
regrows becomes PRIMARY, and a listening unit that hears a SOLO partner of its image regrows (R424 to R427, R430); a frame
that does not parse only counts. -/
def Obligations.PairFormsUp : Prop :=
  (∀ s : State, s.mirrorUp = true → s.pair.pstate = .listen → s.ticks ≤ s.pair.listenAt + 300 →
    s.pair.txAt + 40 ≤ s.ticks ∨ s.pair.txAt < s.pair.listenAt →
    Answers .claimSend s fun t => t.pair.tx.getLast? = some s.claimFrame.bytes ∧ t.pair.txAt = s.ticks ∧ t = { s with pair := t.pair }) ∧
  (∀ s : State, s.mirrorUp = true → s.pair.pstate ≠ .none → s.pair.txAt + 40 ≤ s.ticks → s.mirrorFree = true →
    Answers .heartbeatSend s fun t =>
      t.pair.tx.getLast? = some s.hbFrame.bytes ∧ t.pair.hbAt = s.ticks ∧ t.pair.txAt = s.ticks ∧ t = { s with pair := t.pair }) ∧
  (∀ s : State, s.paired = true → s.pair.pstate = .listen → s.pair.claimWait = none → s.pair.listenAt + 300 ≤ s.ticks →
    Answers .pairListenEnd s fun t =>
      t.pair.pstate = .solo ∧ t.pairShown = .listen ∧ t.seq.state = .adopt ∧ t.rst.adopt = some { since := s.ticks, samples := [] }) ∧
  (∀ s : State, s.paired = true → s.pair.pstate = .listen → s.pair.claimWait.isSome = true → s.pair.listenAt + 5300 ≤ s.ticks →
    Answers .pairClaimWaitExpiry s fun t =>
      t.pair.pstate = .solo ∧ t.pairShown = .listen ∧ t.seq.state = .adopt ∧ t.rst.adopt = some { since := s.ticks, samples := [] }) ∧
  (∀ (s : State) (bytes : List Byte), s.mirrorUp = true → ∀ m, mframe bytes = some m → m.ty = 1 → m.payload.length = 16 →
    s.pair.pstate = .listen → decide (leAt m.payload 0 1 = 1) ≠ s.pos →
    Answers (.claimReceive bytes) s fun t =>
      t.pair.lastHb = some s.ticks ∧ (t.pair.partner.map fun p => p.uid) = some (BitVec.ofNat 64 (leAt m.payload 8 8)) ∧
      t.pair.claimWait = (if s.pos = true then some s.pair.listenAt else s.pair.claimWait) ∧ t.pair.pstate = .listen ∧
      t = { s with pair := t.pair }) ∧
  (∀ (s : State) (bytes : List Byte), s.mirrorUp = true → ∀ m, mframe bytes = some m → m.ty = 2 → m.payload.length = 24 →
    decide (leAt m.payload 0 1 = 1) ≠ s.pos → w32 (leAt m.payload 12 4) = s.imgTag →
    (s.pair.pstate = .solo → leAt m.payload 1 1 = 4 →
      Answers (.heartbeatReceive bytes) s fun t =>
        t.pair.pstate = .primary ∧ t.pair.lastHb = some s.ticks ∧ t.seq = s.seq ∧ t.pins = s.pins ∧ t = { s with pair := t.pair }) ∧
    (s.pair.pstate = .listen → leAt m.payload 1 1 = 2 →
      Answers (.heartbeatReceive bytes) s fun t => t.pair.pstate = .regrow ∧ t.pair.lastHb = some s.ticks ∧ t.pair.copyOk = false)) ∧
  (∀ (s : State) (bytes : List Byte), Store.wf regDflt s.regs = true → s.mirrorUp = true → mframe bytes = none →
    Answers (.mirrorFrameDiscard bytes) s fun t =>
      fld (t.reg Reg.pairCnt) 0 8 = min 255 (s.regFld Reg.pairCnt 0 8 + 1) ∧ (∀ a, a ≠ Reg.pairCnt → t.reg a = s.reg a) ∧
      t = { s with regs := t.regs }) ∧
  (∀ (s : State) (bytes : List Byte), s.mirrorUp = false →
    exec .claimSend s = .next s ∧ exec .heartbeatSend s = .next s ∧ exec (.claimReceive bytes) s = .next s ∧
    exec (.heartbeatReceive bytes) s = .next s ∧ exec (.mirrorFrameDiscard bytes) s = .next s)

/-- The ordered stream at a SHADOW: the next frame is taken once, a DELTA's word enters the copy, a chunk counts, a COMMIT is
compared with the copy, a YIELD is noted; a frame out of order only counts as a heartbeat (R430, R432, R435, R443, R444). -/
def Obligations.ShadowFollowsTheStream : Prop :=
  ∀ (s : State) (bytes : List Byte), s.mirrorUp = true → s.pair.pstate = .regrow ∨ s.pair.pstate = .inStep →
    ∀ m, mframe bytes = some m → Store.wf regDflt s.regs = true → Store.wf (fun _ => 0) s.pair.copy = true →
    (m.fseq = s.pair.expect →
      (∀ i w, m.ty = 0x10 → i < 2048 → m.payload = deltaBytes [(i, w)] →
        Answers (.deltaReceive bytes) s fun t =>
          t.copyW i = w ∧ (∀ j, j ≠ i → t.copyW j = s.copyW j) ∧ t.pair.expect = (s.pair.expect + 1) % 256 ∧ t.pair.ack = m.fseq ∧
          t.pair.lastHb = some s.ticks ∧ t.pair.pstate = s.pair.pstate) ∧
      (m.ty = 0x12 →
        Answers (.chunkReceive bytes) s fun t =>
          t.pair.chunks = s.pair.chunks + 1 ∧ t.pair.expect = (s.pair.expect + 1) % 256 ∧ t.pair.ack = m.fseq ∧
          t.pair.copyOk = (s.pair.copyOk || decide (s.pair.chunks + 1 = s.pair.chunkGoal)) ∧ t.pair.pstate = s.pair.pstate) ∧
      (m.ty = 0x11 → s.pair.copyOk = true → w32 (leAt m.payload 2 4) = mirrorDigest s.pair.copy →
        Answers (.commitReceive bytes) s fun t =>
          t.pair.matchCnt = min 255 (s.pair.matchCnt + 1) ∧ t.reg Reg.pairDigest = mirrorDigest s.pair.copy ∧
          t.reg Reg.pairPdigest = mirrorDigest s.pair.copy ∧ t.pair.copy = s.pair.copy ∧
          t.pair.pstate = (if s.pair.pstate = .regrow ∧ 9 ≤ s.pair.matchCnt then .inStep else s.pair.pstate)) ∧
      (m.ty = 0x13 → s.pair.pstate = .inStep →
        Answers (.yieldReceive bytes) s fun t =>
          t.pair.yield = some (w32 (leAt m.payload 0 4)) ∧ t.pair.yieldSeq = some m.fseq ∧ t.pair.ack = m.fseq ∧ t = { s with pair := t.pair })) ∧
    (m.fseq ≠ s.pair.expect →
      let h : State := { s with pair := { s.pair with lastHb := some s.ticks, lost := false } }
      Answers (.deltaReceive bytes) s (fun t => t = h) ∧ Answers (.chunkReceive bytes) s (fun t => t = h) ∧
      Answers (.commitReceive bytes) s (fun t => t = h) ∧ Answers (.yieldReceive bytes) s (fun t => t = h))

/-- The PRIMARY's side: epochs are committed, answers compared, missing ones counted, unacknowledged frames sent again, a snapshot
started afresh, and the guard pin toggles while a unit drives (R430, R435, R436, R440, R444). -/
def Obligations.PrimaryKeepsTheStream : Prop :=
  (∀ s : State, s.paired = true → s.pair.pstate = .primary → s.pair.stream = true → s.tb.now.toNat % 100 = 0 →
    s.pair.commitAt ≠ some s.tb.now →
    (s.mirrorSync.pair.stream = true →
      Answers .epochCommit s fun t =>
        t.pair.commitAt = some s.tb.now ∧ t.pair.epoch = (s.pair.epoch + 1) % 65536 ∧ t.seq = s.seq ∧ t.pins = s.pins) ∧
    (s.pair.copy = s.mirrorImage → s.pair.deltas = [] → s.pair.unacked = [] →
      Answers .epochCommit s fun t =>
        t.pair.commits = s.pair.commits ++ [(s.pair.epoch, mirrorDigest s.mirrorImage, 0)] ∧
        t.pair.unacked =
          [{ ty := 0x11, fseq := s.pair.fseq, payload := leBytes 2 s.pair.epoch ++ leBytes 4 (mirrorDigest s.mirrorImage).toNat }] ∧
        t = { s with pair := t.pair })) ∧
  (∀ (s : State) (bytes : List Byte), Store.wf regDflt s.regs = true → s.mirrorUp = true →
    ∀ m, mframe bytes = some m → m.ty = 0x20 → s.pair.pstate = .primary → m.payload.length = 8 →
    ∀ c, (s.pair.commits.find? fun c => decide (c.1 = leAt m.payload 0 2)) = some c → leAt m.payload 6 1 = 0 →
    Answers (.digestReceive bytes) s fun t =>
      t.reg Reg.pairEpoch = w32 (leAt m.payload 0 2) ∧ t.reg Reg.pairDigest = c.2.1 ∧ t.reg Reg.pairPdigest = w32 (leAt m.payload 2 4) ∧
      t.pair.commits = (s.pair.commits.filter fun x => decide (x.1 ≠ leAt m.payload 0 2)) ∧ t.seq = s.seq ∧ t.pins = s.pins) ∧
  (∀ s : State, Store.wf regDflt s.regs = true → s.pair.pstate = .primary → ∀ c,
    (s.pair.commits.find? fun c => decide (c.2.2 ≠ 0) && s.passed c.2.2 500) = some c →
    Answers .digestMissed s fun t =>
      t.pair.commits = (s.pair.commits.filter fun x => decide (x.1 ≠ c.1)) ∧ bit (t.reg Reg.pairEvt) 3 = true ∧ t = { s with regs := t.regs, pair := t.pair }) ∧
  (∀ s : State, s.mirrorUp = true → s.pair.stream = true → 0 < s.pair.sent → s.pair.ackAt + 60 ≤ s.ticks →
    Answers .mirrorResend s fun t => t = { s with pair := { s.pair with sent := 0, ackAt := s.ticks } }) ∧
  (∀ (s : State) (bytes : List Byte), s.mirrorUp = true → ∀ m, mframe bytes = some m → m.ty = 0x21 → s.pair.pstate.drives = true →
    Answers (.snapreqReceive bytes) s fun t =>
      t.pair.stream = true ∧ t.pair.fseq = 1 ∧ t.pair.chunkTx = s.chunkList ∧ t.pair.unacked = [] ∧ t.pair.copy = s.mirrorImage ∧
      t = { s with pair := t.pair }) ∧
  (∀ s : State, s.mirrorUp = true → s.pairShown.drives = true → s.pair.guardAt + 10 ≤ s.ticks →
    Answers .guardToggle s fun t => t = { s with pair := { s.pair with gpio6 := !s.pair.gpio6, guardAt := s.ticks } })

/-- Loss of the partner: a PRIMARY goes on alone without moving a rail, a regrowing unit becomes ORPHAN, and an in-step SHADOW
takes over with the next TERM (R440, R441). Yield and RESYNC: a request in time to a partner in step is placed in the stream,
others are refused with `CERR`; at T the PRIMARY regrows with its copy complete and the SHADOW drives; without an
acknowledgement the yield is dropped; RESYNC asks a SHADOW to regrow (R443, R444). -/
def Obligations.PartnerLossAndYield : Prop :=
  (∀ s : State, s.paired = true → Store.wf regDflt s.regs = true → ∀ k, s.pair.lastHb = some k → k + 300 ≤ s.ticks →
      (s.pair.pstate = .primary →
        Answers .partnerLost s fun t =>
          t.pair.pstate = .solo ∧ t.pair.stream = false ∧ t.pair.lastHb = none ∧ t.seq = s.seq ∧ t.pins = s.pins ∧
          t = { s with regs := t.regs, pair := t.pair }) ∧
      (s.pair.pstate = .regrow → Answers .partnerLost s fun t => t.pair.pstate = .orphan ∧ t.pair.lastHb = none ∧ t.seq = s.seq) ∧
      (s.pair.pstate = .inStep → s.regBit Reg.pairCfg 8 = false →
        Answers .partnerLost s fun t => t.pair.pstate = .solo ∧ t.pair.term = s.pair.term + 1 ∧ t.pair.held = []) ∧
      (s.pair.pstate = .inStep → s.regBit Reg.pairCfg 8 = true → s.guardAlive k = false → s.guardSeen = true →
        Answers .partnerLost s fun t => t.pair = { s.pair with lost := true } ∧ t.seq = s.seq ∧ t.pins = s.pins) ∧
      (s.pair.lost = false → Answers .partnerLost s fun t => bit (t.reg Reg.pairEvt) 0 = true)) ∧
  ((∀ (s : State) (p : Port) (v : Word), Reaches s p Reg.pairCtrl → s.isShadow = false → fld v 16 16 = 0x9A1F → bit v 0 = true →
      (s.pair.pstate ≠ .primary →
        Answers (.yieldRequest p v) s fun t => t = { s with pair := { s.pair with cerr := 1 } }) ∧
      (s.pair.pstate = .primary → (s.pair.partner.map fun x => x.pstate) = some 5 → s.tooLate (s.reg Reg.pairYieldT) 1000 = true →
        Answers (.yieldRequest p v) s fun t => t = { s with pair := { s.pair with cerr := 3 } }) ∧
      (s.pair.pstate = .primary → (s.pair.partner.map fun x => x.pstate) = some 5 → s.tooLate (s.reg Reg.pairYieldT) 1000 = false →
        Answers (.yieldRequest p v) s fun t =>
          t.pair.cerr = 0 ∧ t.pair.yield = some (s.reg Reg.pairYieldT) ∧ t.pair.pstate = .primary ∧ t.seq = s.seq ∧ t.pins = s.pins)) ∧
    (∀ (s : State) (p : Port) (v : Word), Reaches s p Reg.pairCtrl → fld v 16 16 ≠ 0x9A1F →
      (s.isShadow = false → Answers (.yieldRequest p v) s fun t => t = { s with pair := { s.pair with cerr := 4 } }) ∧
      (s.isShadow = true → Answers (.resyncRequest p v) s fun t => t = s)) ∧
    (∀ (s : State) (p : Port) (v : Word), Reaches s p Reg.pairCtrl → s.isShadow = true → fld v 16 16 = 0x9A1F → bit v 1 = true →
      s.pair.pstate = .regrow ∨ s.pair.pstate = .inStep →
      Answers (.resyncRequest p v) s fun t =>
        t.pair.pstate = .regrow ∧ t.pair.copyOk = false ∧ t.pair.expect = 1 ∧ t.pair.chunks = 0 ∧ t.pair.copy = [] ∧ t.seq = s.seq) ∧
    (∀ s : State, s.paired = true → ∀ x, s.pair.yield = some x → s.due x = true → s.pair.yieldSeq = none →
      (s.pair.pstate = .primary →
        Answers .yieldLaunch s fun t =>
          t.pair.pstate = .regrow ∧ t.pair.copyOk = true ∧ t.pair.copy = s.mirrorImage ∧ t.pair.yield = none) ∧
      (s.pair.pstate = .inStep →
        Answers .yieldLaunch s fun t =>
          t.pair.pstate = .solo ∧ t.pair.term = s.pair.term + 1 ∧ t.pair.stream = true ∧ t.pair.yield = none)) ∧
    (∀ s : State, s.paired = true → ∀ x, s.pair.yield = some x → s.pair.yieldSeq.isSome = true →
      s.tooLate x 100 = true ∨ s.until x = 100 →
      Answers .yieldAbandon s fun t => t = { s with pair := { s.pair with yield := none, yieldSeq := none, cerr := 3 } }))

/-! ### The stack role (chapter 14) -/

/-- Balancing: a period schedules the enabled cells with a duty, each ends after its share, and in the pause of a scan edge every
switch is off; the pins follow (R454, R455). -/
def Obligations.BalancingComplete : Prop :=
  ∀ s : State, ListsWf s → s.isRole .stk = true →
    (s.role.addrValid = true → s.balPer ≠ 0 → s.unit.perAt + 1000 * s.balPer ≤ s.ticks →
      Answers .balancePeriodStart s fun t =>
        t.unit.perAt = s.unit.perAt + 1000 * s.balPer ∧
        (∀ c, c < 16 → (t.unit.sched.any fun e => decide (e.1 = c)) = (s.balEn c && decide (1 ≤ s.balDuty c))) ∧
        (∀ c, c < 16 → t.pins.en.getD c .highZ = .role (s.enMode c) (t.balOn c)) ∧ t = { s with unit := t.unit, pins := t.pins }) ∧
    (∀ c : Nat,
      Answers (.balanceDutyEnd c) s fun t =>
        t.unit.sched = (s.unit.sched.filter fun e => !(decide (e.1 = c) && decide (e.2 ≤ s.ticks))) ∧
        (∀ k, k < 16 → t.pins.en.getD k .highZ = .role (s.enMode k) (t.balOn k)) ∧ t = { s with unit := t.unit, pins := t.pins }) ∧
    (s.pauseDue = true → s.unit.pause = false →
      Answers .balancePauseStart s fun t =>
        t.unit = { s.unit with pause := true } ∧ (∀ c, c < 16 → t.pins.en.getD c .highZ = .role (s.enMode c) false) ∧
        t = { s with unit := t.unit, pins := t.pins }) ∧
    (s.pauseDue = false → s.unit.pause = true →
      Answers .balancePauseEnd s fun t =>
        t.unit = { s.unit with pause := false } ∧ (∀ c, c < 16 → t.pins.en.getD c .highZ = .role (s.enMode c) (t.balOn c)) ∧
        t = { s with unit := t.unit, pins := t.pins })

/-- Enumeration (R462, R466, R468): ENUM(n) gives the unit address n with balancing cleared, is answered with TAKEN, and goes on
as ENUM(n + 1) unless the unit is a spur's or the last; without a unit above, END leaves; the chain master's port becomes
READY with the count of END, or FAILED without one. -/
def Obligations.EnumerationComplete : Prop :=
  (∀ (s : State) (q : Nat) (spur : Bool), Store.wf regDflt s.regs = true → s.unitLive = true → q < 256 → ∀ n, n < 49 → 1 ≤ n →
    Answers (.enumReceive (chainFrame (chainHead 1 n q (b2n spur) 0))) s fun t =>
      t.role.addr = n ∧ t.role.addrValid = true ∧ t.unit.spur = spur ∧ t.reg Reg.stackBalEn = 0 ∧ t.unit.sched = [] ∧
      (spur = true ∨ n = 48 → t.unit.txD = chainFrame [2, b8 n, b8 q, 0, b8 t.uflags, b8 (b2n spur)] ∧ t.unit.enumWait = none) ∧
      (spur = false ∧ n < 48 →
        t.unit.txD = chainFrame [3, b8 n, b8 q, 0, b8 t.uflags, 0] ∧ t.unit.txU = chainFrame (chainHead 1 (n + 1) q 0 0) ∧
        t.unit.enumWait = some (s.ticks + 44))) ∧
  (∀ s : State, ∀ k, s.unit.enumWait = some k → s.addressed = true → s.unitLive = true → k + 200 ≤ s.ticks →
    Answers .enumTopTimeout s fun t =>
      t.unit.enumWait = none ∧ t.unit.txD = s.endFrame s.role.addr s.unit.enumSeq s.unit.enumCnt ∧ t = { s with unit := t.unit }) ∧
  (∀ (s : State) (p1 : Bool) (b : List Byte), s.addressed = true → s.unitLive = true → 6 ≤ b.length → leAt b 0 1 = 3 → leAt b 1 1 = s.role.addr + 1 →
    Answers (.takenReceive p1 (chainFrame b)) s fun t => t = { s with unit := { s.unit with enumWait := none } }) ∧
  (∀ (s : State) (p1 : Bool), s.portLive p1 = true → (s.port p1).state = .waking →
    (s.port p1).at_ + 10000 * s.regFld (Reg.stackPCfg (b2n p1)) 24 8 ≤ s.ticks →
    Answers (.wakeWaitExpiry p1) s fun t =>
      (t.port p1).state = .enumerating ∧ (t.port p1).tone = false ∧ (t.port p1).tx.length = 1 ∧ (t.port p1).at_ = s.ticks ∧
      t.port (!p1) = s.port (!p1) ∧ t = { s with chain := t.chain }) ∧
  (∀ (s : State) (p1 : Bool) (b : List Byte), Store.wf regDflt s.regs = true → s.portLive p1 = true → (s.port p1).state = .enumerating →
    6 ≤ b.length → leAt b 0 1 = 2 →
    Answers (.enumEndReceive p1 (chainFrame b)) s fun t =>
      (t.port p1).state = .ready ∧ (t.port p1).units = leAt b 1 1 ∧ bit (t.reg Reg.stackEvt) (2 + b2n p1) = true ∧
      t.port (!p1) = s.port (!p1) ∧ t = { s with regs := t.regs, chain := t.chain }) ∧
  (∀ (s : State) (p1 : Bool), Store.wf regDflt s.regs = true → s.portLive p1 = true → (s.port p1).state = .enumerating →
    (s.port p1).at_ + 20000 ≤ s.ticks →
    Answers (.enumTimeout p1) s fun t =>
      (t.port p1).state = .failed ∧ (t.port p1).units = 0 ∧ bit (t.reg Reg.stackEvt) (4 + b2n p1) = true ∧
      t.port (!p1) = s.port (!p1) ∧ t = { s with regs := t.regs, chain := t.chain })

/-- Frames at an addressed unit (R462 to R464): repeated unchanged; a READ or WRITE that names the unit is answered on D with its
`SEQ` and status, a WRITE stores its words, and the same command again gets the kept reply without acting. -/
def Obligations.UnitFramesComplete : Prop :=
  (∀ (s : State) (b : List Byte), s.addressed = true → s.unitLive = true → 6 ≤ b.length →
    (leAt b 0 1 ≠ 1 → s.takesBody b = false →
      Answers (.frameRepeat true (chainFrame b)) s fun t =>
        t.unit.txU = chainFrame b ∧ t.unit.lastD = s.ticks ∧ t.role = s.role ∧ t = { s with regs := t.regs, unit := t.unit }) ∧
    (leAt b 0 1 ≠ 3 → leAt b 0 1 ≠ 2 →
      Answers (.frameRepeat false (chainFrame b)) s fun t => t = { s with unit := { s.unit with txD := chainFrame b } })) ∧
  (∀ s : State, s.addressed = true → s.unitLive = true → ∀ b : List Byte, b.length = 6 → leAt b 0 1 = 0x10 → leAt b 1 1 = s.role.addr →
    (s.unit.lastCmd ≠ some b →
      Answers (.chainRead (chainFrame b)) s fun t =>
        t.unit.txU = chainFrame b ∧ t.unit.lastCmd = some b ∧ t.unit.txD = t.unit.lastReply ∧
        (∃ r, chainBody t.unit.txD = some r ∧ leAt r 0 1 = 0x90 ∧ leAt r 1 1 = s.role.addr ∧ leAt r 2 1 = leAt b 2 1 ∧
          leAt r 3 1 = chainStatus (leAt b 3 1 % 32) (leAt b 4 2))) ∧
    (s.unit.lastCmd = some b →
      Answers (.chainRead (chainFrame b)) s fun t =>
        t.unit.txU = chainFrame b ∧ t.unit.txD = s.unit.lastReply ∧ (∀ a, a ≠ Reg.stackUcnt → t.reg a = s.reg a) ∧
        t = { s with regs := t.regs, unit := t.unit })) ∧
  (∀ (s : State) (q a : Nat) (v : Word), Store.wf regDflt s.regs = true → s.unitLive = true → Reaches s .chain a →
    ∀ r, s.reach .chain a = some r → s.role.addr < 256 → q < 256 → a < 0x10000 → a % 4 = 0 → r.acc = .rw → s.rwWrite .chain a v = none →
    let b := chainHead 0x11 s.role.addr q 1 a ++ wordBytes [v]
    s.unit.lastCmd ≠ some b →
    Answers (.chainWrite (chainFrame b)) s fun t =>
      t.reg a = v &&& w32 r.mask ∧ t.unit.lastCmd = some b ∧
      (∃ w, chainBody t.unit.txD = some w ∧ leAt w 0 1 = 0x91 ∧ leAt w 3 1 = 0) ∧
      t = { s with regs := t.regs, unit := t.unit })

/-- Broadcasts, sleep and wake of a unit: SNAP asks for a snapshot, BALOFF clears balancing, SLEEP and a silent chain stop the
device, a tone or the pin wakes it (R111, R464, R470, R471, R473). -/
def Obligations.UnitSleepsAndWakes : Prop :=
  (∀ (s : State) (q : Nat), Store.wf regDflt s.regs = true → s.addressed = true → s.unitLive = true → q < 256 →
    (s.unit.lastBc ≠ some (chainHead 0x20 0x3F q 0 0) →
      Answers (.chainSnap (chainFrame (chainHead 0x20 0x3F q 0 0))) s fun t =>
        bit (t.reg Reg.resSnapStat) 1 = true ∧ t.unit.txU = chainFrame (chainHead 0x20 0x3F q 0 0) ∧
        t.unit.lastBc = some (chainHead 0x20 0x3F q 0 0) ∧ t.pins = s.pins) ∧
    (s.unit.lastBc ≠ some (chainHead 0x21 0x3F q 0 0) →
      Answers (.chainBaloff (chainFrame (chainHead 0x21 0x3F q 0 0))) s fun t =>
        t.reg Reg.stackBalEn = 0 ∧ t.unit.sched = [] ∧ (∀ k, k < 8 → t.reg (Reg.stackBalDuty k) = 0) ∧
        t.unit.txU = chainFrame (chainHead 0x21 0x3F q 0 0) ∧ t.role = s.role) ∧
    (s.unit.lastBc ≠ some (chainHead 0x22 0x3F q 0 0) →
      Answers (.chainSleep (chainFrame (chainHead 0x22 0x3F q 0 0))) s fun t =>
        t.pwr.sleep = true ∧ t.role.addrValid = false ∧ t.tb.running = false ∧ t.boot.stage = 0 ∧
        t.unit.txU = chainFrame (chainHead 0x22 0x3F q 0 0) ∧ t.nvm.mram = s.nvm.mram ∧ t.svc.fuses = s.svc.fuses)) ∧
  (∀ s : State, s.isRole .stk = true → s.regFld Reg.stackUcfg 16 16 ≤ s.msSince s.unit.lastD →
    Answers .commTimeout s fun t => t.pwr.sleep = true ∧ t.role.addrValid = false ∧ t.tb.running = false ∧ t.nvm.mram = s.nvm.mram) ∧
  (∀ s : State, s.pwr.sleep = true →
    Answers .wakeToneDetect s (fun t =>
      t.pwr.sleep = false ∧ t.boot.stage = 2 ∧ t.boot.wakeStart = true ∧ t.boot.stageAt = s.ticks ∧ t.pwr.wakeCause.getLsbD 4 = true ∧
      t.unit.toneDue = true) ∧
    Answers .stackWakePin s (fun t =>
      t.pwr.sleep = false ∧ t.boot.stage = 2 ∧ t.boot.wakeStart = true ∧ t.boot.stageAt = s.ticks ∧ t.pwr.wakeCause.getLsbD 0 = true ∧
      t.unit.toneDue = false)) ∧
  (∀ s : State, Store.wf regDflt s.regs = true → s.pwr.sleep = false → s.unitLive = true →
    Answers .wakeToneDetect s fun t => t.unit.toneU = true ∧ bit (t.reg Reg.stackUevt) 1 = true ∧ t = { s with regs := t.regs, unit := t.unit })

/-- Transfers of a chain master through its proxy (R465, R472): a request on an idle READY port leaves at once, a faulty one ends
with its code, a missing reply is answered by the identical frame and at last by TIMEOUT. Port commands of a chain master
(R469, R473): with the key and in a state that allows it, WAKE_ENUM starts the tone, ENUM sends ENUM(1), SLEEP sends its
broadcast and leaves the port IDLE, BALOFF and SNAP send theirs; otherwise the command is refused. -/
def Obligations.ChainMasterComplete : Prop :=
  ((∀ (s : State) (p : Port) (v : Word), Store.wf regDflt s.regs = true → Reaches s p Reg.stackPxCtrl → s.chainOn = true →
      s.regBit (ctxKey (decide (p = .svc)) Reg.stackPxStat) 31 = false →
      (s.pxRefuses (bit v 24) v = 0 → (s.port (bit v 24)).trans = none → bit v 0 = true ∨ bit v 1 = true →
        Answers (.stackProxyRead p v) s (fun t =>
          ((t.port (bit v 24)).trans.map fun x => (x.unit, x.cnt, x.write, x.attempts)) = some (fld v 16 6, fld v 8 5 + 1, bit v 1, 1) ∧
          (t.port (bit v 24)).tx.length = 1 ∧ (t.port (bit v 24)).seq = ((s.port (bit v 24)).seq + 1) % 256 ∧
          t.regBit (ctxKey (decide (p = .svc)) Reg.stackPxStat) 31 = true ∧ t = { s with regs := t.regs, chain := t.chain }) ∧
        exec (.stackProxyWrite p v) s = exec (.stackProxyRead p v) s) ∧
      (s.pxRefuses (bit v 24) v ≠ 0 → bit v 0 = true ∨ bit v 1 = true →
        Answers (.stackProxyWrite p v) s fun t =>
          t.regFld (ctxKey (decide (p = .svc)) Reg.stackPxStat) 0 4 = s.pxRefuses (bit v 24) v ∧
          t.regBit (ctxKey (decide (p = .svc)) Reg.stackPxStat) 31 = false ∧ bit (t.reg Reg.stackEvt) 0 = true ∧ t.chain = s.chain)) ∧
    (∀ (s : State) (p1 : Bool), Store.wf regDflt s.regs = true → s.portLive p1 = true → (s.port p1).cmds = [] →
      (s.port p1).wait = [] → (s.port p1).stale = [] → ∀ x, (s.port p1).trans = some x → x.write = false → x.unit < 256 →
      ∀ l : List Word, l.length = x.cnt → l.length ≤ 16 → ∀ q, q = leAt x.frame 5 1 → ∀ u, u < 256 →
      Answers (.chainReplyReceive p1 (chainFrame ([0x90, b8 x.unit, b8 q, 0, b8 u, b8 x.cnt] ++ wordBytes l))) s fun t =>
        (t.port p1).trans = none ∧ t.regBit (ctxKey x.svc Reg.stackPxStat) 30 = true ∧ t.regBit (ctxKey x.svc Reg.stackPxStat) 31 = false ∧
        t.regFld (ctxKey x.svc Reg.stackPxStat) 16 8 = u ∧ (∀ i, i < l.length → t.reg (ctxKey x.svc (Reg.stackPxData i)) = l.getD i 0) ∧
        t = { s with regs := t.regs, chain := t.chain }) ∧
    (∀ (s : State) (p1 : Bool), Store.wf regDflt s.regs = true → s.portLive p1 = true → ∀ x, (s.port p1).trans = some x →
      x.at_ + (40 + 34 * (x.unit - 1)) ≤ s.ticks →
      (x.attempts ≤ s.regFld (Reg.stackPCfg (b2n p1)) 16 2 →
        Answers (.chainReplyTimeout p1) s fun t =>
          (t.port p1).tx = [x.frame] ∧ ((t.port p1).trans.map fun y => y.attempts) = some (x.attempts + 1) ∧
          bit (t.reg Reg.stackEvt) 1 = true ∧ t = { s with regs := t.regs, chain := t.chain }) ∧
      (s.regFld (Reg.stackPCfg (b2n p1)) 16 2 < x.attempts → (s.port p1).cmds = [] → (s.port p1).wait = [] →
        Answers (.chainReplyTimeout p1) s fun t =>
          (t.port p1).trans = none ∧ t.regFld (ctxKey x.svc Reg.stackPxStat) 0 4 = 3 ∧
          (∀ i, i < 16 → t.reg (ctxKey x.svc (Reg.stackPxData i)) = 0) ∧ t = { s with regs := t.regs, chain := t.chain }))) ∧
  (∀ (s : State) (p : Port) (v : Word), Store.wf regDflt s.regs = true → Reaches s p Reg.stackPortCtrl → s.chainOn = true →
      let p1 := bit v 8
      (fld v 16 16 = 0x57AC → s.portBusy p1 = false → (s.port p1).trans = none →
        (fld v 0 4 = 1 → s.portRefuses p1 .wakeEnum = false →
          Answers (.portWakeEnum p v) s fun t =>
            (t.port p1).state = .waking ∧ (t.port p1).tone = true ∧ (t.port p1).at_ = s.ticks + 1000 ∧ t.port (!p1) = s.port (!p1) ∧
            t = { s with chain := t.chain }) ∧
        (fld v 0 4 = 2 → s.portRefuses p1 .enum = false →
          Answers (.portEnum p v) s fun t =>
            (t.port p1).state = .enumerating ∧ (t.port p1).tx.length = 1 ∧ (t.port p1).at_ = s.ticks ∧ t.port (!p1) = s.port (!p1) ∧
            t = { s with chain := t.chain }) ∧
        (fld v 0 4 = 3 → (s.port p1).state = .ready →
          Answers (.portSleep p v) s fun t =>
            (t.port p1).state = .idle ∧ (t.port p1).units = 0 ∧ (t.port p1).tx.length = 2 ∧ t.port (!p1) = s.port (!p1) ∧
            t = { s with chain := t.chain }) ∧
        (fld v 0 4 = 4 → (s.port p1).state = .ready →
          Answers (.portBaloff p v) s fun t =>
            (t.port p1).state = .ready ∧ (t.port p1).units = (s.port p1).units ∧
            (t.port p1).tx = List.replicate 2 (chainFrame (chainHead 0x21 0x3F (s.port p1).seq 0 0)) ∧ t = { s with chain := t.chain }) ∧
        (fld v 0 4 = 5 → (s.port p1).state = .ready →
          Answers (.portSnap p v) s fun t =>
            (t.port p1).state = .ready ∧ (t.port p1).units = (s.port p1).units ∧
            (t.port p1).tx = List.replicate 2 (chainFrame (chainHead 0x20 0x3F (s.port p1).seq 0 0)) ∧ t = { s with chain := t.chain })) ∧
      (fld v 16 16 ≠ 0x57AC ∨ s.portBusy p1 = true →
        Answers (.portWakeEnum p v) s fun t => bit (t.reg Reg.stackEvt) 9 = true ∧ t = { s with regs := t.regs }) ∧
      (fld v 0 4 = 3 ∨ fld v 0 4 = 4 ∨ fld v 0 4 = 5 → (s.port p1).state ≠ .ready →
        Answers (.portSleep p v) s fun t => bit (t.reg Reg.stackEvt) 9 = true ∧ t = { s with regs := t.regs }))

/-! ### The service port (chapter 16) -/

/-- Events of the USB bus, the class requests and three standard requests: attach, suspend, resume, bus reset, line coding, DTR,
address, configuration and the device descriptor (R504 to R506, R509). -/
def Obligations.UsbComplete : Prop :=
  (∀ s : State, s.supply.aon = true →
    Answers .usbAttach s fun t => t.supply.vbus = true ∧ t.seq = s.seq ∧ t.pins = s.pins ∧ (s.usbOut = true → t.svc.attached = true)) ∧
  (∀ s : State, s.svc.attached = true → s.svc.suspended = false →
    Answers .usbSuspend s fun t =>
      t.svc.suspended = true ∧ t.svc.level = .view ∧ t.svc.nonce = none ∧ t = { s with clk := t.clk, svc := t.svc } ∧
      (s.boot.bench = false → t.clk = s.clk)) ∧
  (∀ s : State, s.svc.attached = true → s.svc.suspended = true →
    Answers .usbResume s fun t => t.svc = { s.svc with suspended := false } ∧ t = { s with clk := t.clk, svc := t.svc }) ∧
  (∀ s : State, s.svc.attached = true →
    Answers .usbBusReset s fun t =>
      t.svc.usbAddr = 0 ∧ t.svc.configured = false ∧ t.svc.dtr = false ∧ t.svc.level = .view ∧ t = { s with clk := t.clk, svc := t.svc }) ∧
  (∀ s : State, s.usbOn = true →
    (∀ l : List Byte, l.length = 7 →
      Answers (.setLineCoding l) s fun t => t = { s with svc := { s.svc with coding := l, usbTx := some [] } }) ∧
    Answers .getLineCoding s (fun t => t = { s with svc := { s.svc with usbTx := some s.svc.coding } }) ∧
    Answers .sendBreak s (fun t => t = { s with svc := { s.svc with usbTx := some [] } }) ∧
    (∀ d : Bool,
      Answers (.setControlLineState d) s fun t =>
        t.svc.dtr = d ∧ t.svc.usbTx = some [] ∧ (s.svc.dtr = true → d = false → t.svc.level = .view ∧ t.svc.nonce = none) ∧
        (d = true → t.svc.level = s.svc.level) ∧ t = { s with svc := t.svc }) ∧
    (∀ r : Byte, r.toNat < 0x20 ∨ 0x23 < r.toNat →
      Answers (.unsupportedClassRequest r) s fun t => t = { s with svc := { s.svc with usbTx := none } }) ∧
    (∀ a : Nat, a < 128 →
      Answers (.usbStandardRequest [0, 5, b8 a, 0, 0, 0, 0, 0]) s fun t =>
        t = { s with svc := { s.svc with usbAddr := a, usbTx := some [] } }) ∧
    Answers (.usbStandardRequest [0, 9, 1, 0, 0, 0, 0, 0]) s (fun t =>
      t = { s with svc := { s.svc with configured := true, usbTx := some [] } }) ∧
    Answers (.usbStandardRequest [0x80, 6, 0, 1, 0, 0, 18, 0]) s (fun t =>
      t = { s with svc := { s.svc with usbTx := some s.deviceDesc } } ∧ s.deviceDesc.length = 18))

/-- Reads and writes by messages of the service port (R510, R511, R515): each is answered with its status; a write at VIEW is
refused; a word reaches its register, and the user area of MRAM. -/
def Obligations.ServiceAccessComplete : Prop :=
  (∀ (s : State) (q : Byte), SvcNew s 1 q [] →
    Answers (.info false q []) s fun t => SvcAnswers t 1 q 0 ∧ t = { s with regs := t.regs, svc := t.svc }) ∧
  (∀ (s : State) (q f : Byte) (a n : Nat), SvcNew s 2 q (leBytes 2 a ++ leBytes 2 n ++ [f]) → 1 ≤ n → n ≤ 255 → a < 65536 →
    regRangeBad a n (decide (f.toNat % 2 = 1)) = false →
    Answers (.rread false q (leBytes 2 a ++ leBytes 2 n ++ [f])) s fun t =>
      SvcAnswers t 2 q 0 ∧ (∃ f, t.svc.tx = [svcLine f] ∧ f.length = 4 * n + 7) ∧ t.nvm.mram = s.nvm.mram ∧ t.seq = s.seq ∧ t.pins = s.pins) ∧
  (∀ (s : State) (q : Byte) (a : Nat) (v : Word), Store.wf regDflt s.regs = true →
    SvcNew s 3 q (leBytes 2 a ++ leBytes 2 1 ++ [0] ++ leBytes 4 v.toNat) → Reaches s .svc a → ∀ r, s.reach .svc a = some r → a < 65536 →
    a % 4 = 0 → r.acc = .rw → s.rwWrite .svc a v = none →
    Answers (.rwrite false q (leBytes 2 a ++ leBytes 2 1 ++ [0] ++ leBytes 4 v.toNat)) s fun t =>
      SvcAnswers t 3 q 0 ∧ t.reg (s.keyOf .svc a) = v &&& w32 r.mask ∧ t = { s with regs := t.regs, svc := t.svc }) ∧
  (∀ (s : State) (q : Byte) (a : Nat) (v : Word), SvcNew s 3 q (leBytes 2 a ++ leBytes 2 1 ++ [0] ++ leBytes 4 v.toNat) →
    s.svc.level = .view →
    Answers (.rwrite false q (leBytes 2 a ++ leBytes 2 1 ++ [0] ++ leBytes 4 v.toNat)) s fun t =>
      SvcAnswers t 3 q 3 ∧ (∀ b, b ≠ Reg.svcCnt → t.reg b = s.reg b) ∧ t = { s with regs := t.regs, svc := t.svc }) ∧
  (∀ (s : State) (q : Byte) (a n : Nat), SvcNew s 4 q (leBytes 4 a ++ leBytes 2 n) → 1 ≤ n → n ≤ 255 → memRangeBad a n = false →
    Answers (.mread false q (leBytes 4 a ++ leBytes 2 n)) s fun t =>
      SvcAnswers t 4 q 0 ∧ (∃ f, t.svc.tx = [svcLine f] ∧ f.length = 4 * n + 7) ∧ t.nvm.mram = s.nvm.mram ∧ t.nvm.winHost = s.nvm.winHost ∧
      t = { s with regs := t.regs, nvm := t.nvm, svc := t.svc }) ∧
  (∀ (s : State) (q : Byte) (a : Nat) (v : Word), Store.wf mramDflt s.nvm.mram = true →
    SvcNew s 5 q (leBytes 4 a ++ leBytes 2 1 ++ leBytes 4 v.toNat) → s.svc.level ≠ .view → 0x16000 ≤ a → a < 0x20000 → a % 4 = 0 →
    s.srcFault = false → s.blkBusy 4 = false → (s.window .svc).posted = none →
    Answers (.mwrite false q (leBytes 4 a ++ leBytes 2 1 ++ leBytes 4 v.toNat)) s fun t =>
      SvcAnswers t 5 q 0 ∧ t.mread a = v ∧ (∀ b, b ≠ a → t.mread b = s.mread b) ∧ (t.window .svc).posted = none ∧ t.seq = s.seq)

/-- Sessions and identity (R509, R514, R518, R520 to R523, R525): CHALLENGE issues a nonce, AUTH grants a level or counts a
failure and locks out at the third, LOGOUT and the idle time end the level, EXPORT and CERT answer, and their times run out. -/
def Obligations.SessionsComplete : Prop :=
  (∀ (s : State) (q : Byte), SvcNew s 6 q [1] → s.svc.idBad = false → s.svc.lockEnd = none →
    Answers (.challenge false q [1]) s fun t =>
      SvcAnswers t 6 q 0 ∧ (t.svc.nonce.map fun n => (n.bytes.length, n.since)) = some (32, s.ticks) ∧ t.svc.level = s.svc.level ∧
      t = { s with free := t.free, regs := t.regs, svc := t.svc }) ∧
  (∀ (s : State) (q : Byte) (p n : List Byte), SvcNew s 7 q p → 132 ≤ p.length → p.length = 131 + leAt p 129 2 → leAt p 129 2 ≤ 800 →
    s.role.state ≠ .safeIdle →
    (s.nonceValid = none → Answers (.auth false q p) s fun t => SvcAnswers t 7 q 0x0B ∧ t.svc.level = s.svc.level) ∧
    (s.nonceValid = some n → s.svc.lockEnd = none → ∀ exc, s.authChecks n p = some exc →
      Answers (.auth false q p) s fun t =>
        SvcAnswers t 7 q 0 ∧ t.svc.level = (if leAt p 0 1 = 2 then .factory else .service) ∧ t.svc.nonce = none ∧ t.svc.authFail = 0 ∧
        t.svc.devAuth = exc ∧ t = { s with regs := t.regs, svc := t.svc }) ∧
    (s.nonceValid = some n → s.svc.lockEnd = none → s.authChecks n p = none →
      Answers (.auth false q p) s fun t =>
        SvcAnswers t 7 q 6 ∧ t.svc.level = s.svc.level ∧ t.svc.nonce = none ∧ t.svc.authFail = min 255 (s.svc.authFail + 1) ∧
        (2 ≤ s.svc.authFail → t.svc.lockEnd = some (s.ticks + 60000000)) ∧ (s.svc.authFail < 2 → t.svc.lockEnd = none) ∧
        t = { s with regs := t.regs, svc := t.svc }) ∧
    (s.nonceValid = some n → s.svc.lockEnd.isSome = true →
      Answers (.auth false q p) s fun t => SvcAnswers t 7 q 7 ∧ t.svc.level = s.svc.level ∧ t.svc.nonce = none)) ∧
  (∀ (s : State) (q : Byte), SvcNew s 8 q [] →
    Answers (.logout false q []) s fun t =>
      SvcAnswers t 8 q 0 ∧ t.svc.level = .view ∧ t.svc.nonce = none ∧ t.svc.devAuth = false ∧ t = { s with regs := t.regs, svc := t.svc }) ∧
  (∀ (s : State) (q : Byte) (p : List Byte), SvcNew s 9 q p → p.length = 16 → s.svc.idBad = false →
    Answers (.signedExport false q p) s fun t =>
      SvcAnswers t 9 q 0 ∧ t.svc.tx.length = 6 ∧ t = { s with free := t.free, regs := t.regs, svc := t.svc }) ∧
  (∀ (s : State) (q : Byte) (sel off : Nat), SvcNew s 10 q ([b8 sel] ++ leBytes 2 off) → sel ≤ 1 →
    Answers (.cert false q ([b8 sel] ++ leBytes 2 off)) s fun t =>
      SvcAnswers t 10 q 0 ∧ t.svc.tx.length = 1 ∧ t.svc.level = s.svc.level ∧ t = { s with free := t.free, regs := t.regs, svc := t.svc }) ∧
  (∀ s : State, s.svc.attached = true → s.svc.lastFrame + s.idleTime ≤ s.ticks →
    Answers .sessionIdleTimeout s fun t => t = { s with svc := { s.svc with level := .view, devAuth := false, nonce := none } }) ∧
  (∀ s : State, ∀ n, s.svc.nonce = some n → n.since + 60000000 ≤ s.ticks →
    Answers .nonceExpiry s fun t => t = { s with svc := { s.svc with nonce := none } }) ∧
  (∀ s : State, ∀ k, s.svc.lockEnd = some k → k ≤ s.ticks →
    Answers .authLockoutExpiry s fun t => t = { s with svc := { s.svc with lockEnd := none } })

/-- `AUTH_FAIL` counts consecutive failed AUTH requests up to 255, and returns to 0 at a success and at an L0 reset. From the
third failure in a row on, CHALLENGE and AUTH are refused with LOCKED_OUT for 60 s, which `LOCKOUT` shows and detach and
attach do not end (R523). -/
def Obligations.AuthFailuresLockOut : Prop :=
  (∀ (s : State) (q : Byte) (p n : List Byte), SvcNew s 7 q p → 132 ≤ p.length → p.length = 131 + leAt p 129 2 → leAt p 129 2 ≤ 800 →
    s.role.state ≠ .safeIdle → s.nonceValid = some n → s.svc.lockEnd = none →
    (s.authChecks n p = none →
      Answers (.auth false q p) s fun t =>
        t.svc.authFail = min 255 (s.svc.authFail + 1) ∧
        t.svc.lockEnd = (if 2 ≤ s.svc.authFail then some (s.ticks + 60000000) else none)) ∧
    (s.authChecks n p ≠ none → Answers (.auth false q p) s fun t => t.svc.authFail = 0 ∧ t.svc.lockEnd = none)) ∧
  (∀ (s : State) (q : Byte) (p n : List Byte), SvcNew s 7 q p → 132 ≤ p.length → p.length = 131 + leAt p 129 2 → leAt p 129 2 ≤ 800 →
    s.role.state ≠ .safeIdle → s.nonceValid = some n → s.svc.lockEnd.isSome = true →
    Answers (.auth false q p) s fun t => SvcAnswers t 7 q 7 ∧ t.svc.lockEnd = s.svc.lockEnd ∧ t.svc.authFail = s.svc.authFail) ∧
  (∀ (s : State) (q l : Byte), SvcNew s 6 q [l] → s.svc.idBad = false → s.svc.lockEnd.isSome = true →
    Answers (.challenge false q [l]) s fun t => SvcAnswers t 6 q 7 ∧ t.svc.lockEnd = s.svc.lockEnd ∧ t.svc.nonce = s.svc.nonce) ∧
  (∀ s : State, ∀ k, s.svc.lockEnd = some k →
    (k ≤ s.ticks → Answers .authLockoutExpiry s fun t => t = { s with svc := { s.svc with lockEnd := none } }) ∧
    (s.ticks < k → exec .authLockoutExpiry s = .next s)) ∧
  (∀ s : State, Settled s →
    Answers (.pinReset []) s fun t =>
      if (s.levelFor (plainReq .pin)).1 = 0 then t.svc.authFail = 0 else t.svc.authFail = s.svc.authFail ∧ t.svc.lockEnd = s.svc.lockEnd) ∧
  (∀ s : State, s.supply.aon = true → s.boot.bench = false →
    Answers .vbusLoss s (fun t => t.svc.lockEnd = s.svc.lockEnd ∧ t.svc.authFail = s.svc.authFail) ∧
    Answers .usbAttach s (fun t => t.svc.lockEnd = s.svc.lockEnd ∧ t.svc.authFail = s.svc.authFail)) ∧
  (∀ s : State, fld s.secStatW 16 8 = min 0xFF s.svc.authFail ∧ bit s.secStatW 8 = s.svc.lockEnd.isSome)

/-- Framing of the service port (R513, R514): a busy port answers BUSY, a repeated request gets the kept answer without acting, an
unknown type gets BAD_TYPE, and a bad frame only counts. RESET answers and raises source SVC; FUSE needs FACTORY and an open
word, sets bits of its mask only, and reports OK only with every bit of the mask set (R516, R530 to R534). -/
def Obligations.ServiceMessagesFramed : Prop :=
  ((∀ (s : State) (q : Byte) (p : List Byte), s.usbOn = true → p.length ≤ 1024 →
      ∀ e ∈ [(1, Instr.info true q p), (2, .rread true q p), (3, .rwrite true q p), (4, .mread true q p), (5, .mwrite true q p),
          (6, .challenge true q p), (7, .auth true q p), (8, .logout true q p), (9, .signedExport true q p), (10, .cert true q p),
          (11, .svcReset true q p []), (12, .fuseProgram true q p none)],
        Answers e.2 s fun t =>
          SvcAnswers t e.1 q 4 ∧ (∀ a, a ≠ Reg.svcCnt → t.reg a = s.reg a) ∧ t.svc.level = s.svc.level ∧ t.svc.fuses = s.svc.fuses ∧
          t = { s with regs := t.regs, svc := t.svc }) ∧
    (∀ (s : State) (q : Byte) (p : List Byte), s.usbOn = true → p.length ≤ 1024 →
      ∀ e ∈ [(1, Instr.info false q p), (2, .rread false q p), (3, .rwrite false q p), (4, .mread false q p), (5, .mwrite false q p),
          (6, .challenge false q p), (7, .auth false q p), (8, .logout false q p), (9, .signedExport false q p), (10, .cert false q p),
          (11, .svcReset false q p []), (12, .fuseProgram false q p none)],
        s.svc.lastReq = some (b8 e.1, q, p) →
        Answers e.2 s fun t =>
          t.svc.tx = svcReply (b8 e.1) q s.svc.lastRsp ∧ (∀ a, a ≠ Reg.svcCnt → t.reg a = s.reg a) ∧ t.svc.fuses = s.svc.fuses ∧
          t = { s with regs := t.regs, svc := t.svc }) ∧
    (∀ (s : State) (q : Byte) (ty : Nat) (p : List Byte), SvcNew s ty q p → ty = 0 ∨ 12 < ty → ty < 128 →
      Answers (.suindelmUnknownType false (b8 ty) q p) s fun t =>
        SvcAnswers t ty q 1 ∧ (∀ a, a ≠ Reg.svcCnt → t.reg a = s.reg a) ∧ t = { s with regs := t.regs, svc := t.svc }) ∧
    (∀ (s : State) (bytes : List Byte), Store.wf regDflt s.regs = true → s.usbOn = true → frameBad bytes = true →
      Answers (.suindelmFrameDiscard bytes) s fun t =>
        fld (t.reg Reg.svcCnt) 8 8 = min 255 (s.regFld Reg.svcCnt 8 8 + 1) ∧ (∀ a, a ≠ Reg.svcCnt → t.reg a = s.reg a) ∧
        t = { s with regs := t.regs })) ∧
  ((∀ (s : State) (q : Byte), Settled s → SvcNew s 11 q (leBytes 2 0xC1A0) → s.svc.level ≠ .view →
      Answers (.svcReset false q (leBytes 2 0xC1A0) []) s fun t => ResetBegins .svc s t) ∧
    (∀ (s : State) (q : Byte), SvcNew s 11 q (leBytes 2 0xC1A0) → s.svc.level = .view →
      Answers (.svcReset false q (leBytes 2 0xC1A0) []) s fun t => SvcAnswers t 11 q 3 ∧ t.rst = s.rst) ∧
    (∀ (s : State) (q : Byte) (w : Nat) (m : Word), ListsWf s → SvcNew s 12 q ([b8 w] ++ leBytes 4 m.toNat) → w < 256 →
      (s.svc.level = .factory → s.fuseState = false → s.fuseDenied w m = false →
        Answers (.fuseProgram false q ([b8 w] ++ leBytes 4 m.toNat) none) s fun t =>
          (SvcAnswers t 12 q 0 ∧ t.fuseArr w &&& m = m ∨ SvcAnswers t 12 q 0x0A) ∧
          t.fuseArr w &&& ~~~m = s.fuseArr w &&& ~~~m ∧ (∀ k, k ≠ w → t.fuseArr k = s.fuseArr k) ∧ t.svc.shadow = s.svc.shadow ∧
          t = { s with free := t.free, regs := t.regs, svc := t.svc }) ∧
      (s.svc.level ≠ .factory →
        Answers (.fuseProgram false q ([b8 w] ++ leBytes 4 m.toNat) none) s fun t => SvcAnswers t 12 q 3 ∧ t.svc.fuses = s.svc.fuses) ∧
      (s.svc.level = .factory → s.fuseState = false → s.fuseDenied w m = true →
        Answers (.fuseProgram false q ([b8 w] ++ leBytes 4 m.toNat) none) s fun t => SvcAnswers t 12 q 9 ∧ t.svc.fuses = s.svc.fuses)))

/-- What stands on the pins (R53, R358, R362, R367) and the first fault of a cascade (R545). Without power every EN pin has its passive
pull-down and the other outputs are high-Z; power-up drives EN and RSTOUT_N low. The master's tick pair is positive for 2 µs from the
tick, and its header follows 4 µs after it; a device that does not drive the link leaves both pairs alone. Of the faults not more than
2^31 µs after T0 the cascade first fault is one before which no other comes: by time, then node, then channel. -/
def Obligations.PinsPairsAndFirstFault : Prop :=
  ((∀ s : State, s.supply.aon = true → s.boot.bench = false →
      Answers .porRearm s fun t =>
        t.rstoutPad = .highZ ∧ t.faultPad = .highZ ∧ t.pgPad = .highZ ∧ t.aonPad = .highZ ∧ t.testPad = .highZ ∧
        ∀ n, n < 24 → t.enPad n = .pullDown ∧ t.gpioPad n = .highZ) ∧
    (∀ s : State, s.supply.aon = false →
      Answers .powerOnReset s fun t =>
        t.rstoutPad = .low ∧ t.aonPad = .pullUp ∧ t.testPad = .pullDown ∧ ∀ n, n < 24 → t.enPad n = .low ∧ t.gpioPad n = .pullUp)) ∧
  ((∀ s : State, ∀ tk, s.ridge.m.lastTick = some tk → s.mstDrives = true → s.just (s.nextTick tk) = true →
      Answers .frameTick s fun t =>
        t.tickPair = some true ∧ t.dataDriven = false ∧ ({ t with ticks := t.ticks + 1 } : State).tickPair = some true ∧
        ({ t with ticks := t.ticks + 2 } : State).tickPair = some false ∧ ({ t with ticks := t.ticks + 3 } : State).dataDriven = false ∧
        ({ t with ticks := t.ticks + 4 } : State).dataDriven = true) ∧
    (∀ s : State, s.mstDrives = false → s.tickPair = none ∧ (s.slaveDrives = false → s.dataDriven = false))) ∧
  ((∀ s : State, s.regBit Reg.reactFirst 31 = false → s.firstFault = none) ∧
    (∀ s : State, s.regBit Reg.reactFirst 31 = true →
      s.firstFault = some (s.regFld Reg.reactFirst 16 5, s.reg Reg.reactFirstT)) ∧
    (∀ (t0 : BitVec 32) (l : List NodeFault), cascadeFirst t0 l = none → ∀ f, f ∈ l → 2 ^ 31 < (f.t - t0).toNat) ∧
    (∀ (t0 : BitVec 32) (l : List NodeFault) (f : NodeFault), cascadeFirst t0 l = some f →
      f ∈ l ∧ (f.t - t0).toNat ≤ 2 ^ 31 ∧
      ∀ g, g ∈ l → (g.t - t0).toNat ≤ 2 ^ 31 →
        (f.t - t0).toNat < (g.t - t0).toNat ∨
        ((f.t - t0).toNat = (g.t - t0).toNat ∧ (f.node < g.node ∨ (f.node = g.node ∧ f.ch ≤ g.ch)))))
end

