-- ==== Sys2Proof/Laws/State.lean ====
section
/-! SUPPORT. What each update of one block changes, one lemma per block per update, so that no proof unfolds a record update. -/

namespace Sys2Proof.Machine.State

variable (s : State) (a : Nat) (v : Word)

/-! ### modRole -/

section

variable (f : RoleRec → RoleRec)

@[simp] theorem modRole_pending : (s.modRole f).pending = s.pending := rfl
@[simp] theorem modRole_ticks : (s.modRole f).ticks = s.ticks := rfl
@[simp] theorem modRole_free : (s.modRole f).free = s.free := rfl
@[simp] theorem modRole_role : (s.modRole f).role = f s.role := rfl
@[simp] theorem modRole_boot : (s.modRole f).boot = s.boot := rfl
@[simp] theorem modRole_clk : (s.modRole f).clk = s.clk := rfl
@[simp] theorem modRole_tb : (s.modRole f).tb = s.tb := rfl
@[simp] theorem modRole_supply : (s.modRole f).supply = s.supply := rfl
@[simp] theorem modRole_pwr : (s.modRole f).pwr = s.pwr := rfl
@[simp] theorem modRole_pins : (s.modRole f).pins = s.pins := rfl
@[simp] theorem modRole_rst : (s.modRole f).rst = s.rst := rfl
@[simp] theorem modRole_regs : (s.modRole f).regs = s.regs := rfl
@[simp] theorem modRole_live : (s.modRole f).live = s.live := rfl
@[simp] theorem modRole_liveImg : (s.modRole f).liveImg = s.liveImg := rfl
@[simp] theorem modRole_img : (s.modRole f).img = s.img := rfl
@[simp] theorem modRole_fab : (s.modRole f).fab = s.fab := rfl
@[simp] theorem modRole_meas : (s.modRole f).meas = s.meas := rfl
@[simp] theorem modRole_cmp : (s.modRole f).cmp = s.cmp := rfl
@[simp] theorem modRole_seq : (s.modRole f).seq = s.seq := rfl
@[simp] theorem modRole_react : (s.modRole f).react = s.react := rfl
@[simp] theorem modRole_mrg : (s.modRole f).mrg = s.mrg := rfl
@[simp] theorem modRole_nvm : (s.modRole f).nvm = s.nvm := rfl
@[simp] theorem modRole_ridge : (s.modRole f).ridge = s.ridge := rfl
@[simp] theorem modRole_sched : (s.modRole f).sched = s.sched := rfl
@[simp] theorem modRole_pair : (s.modRole f).pair = s.pair := rfl
@[simp] theorem modRole_unit : (s.modRole f).unit = s.unit := rfl
@[simp] theorem modRole_chain : (s.modRole f).chain = s.chain := rfl
@[simp] theorem modRole_hif : (s.modRole f).hif = s.hif := rfl
@[simp] theorem modRole_wdt : (s.modRole f).wdt = s.wdt := rfl
@[simp] theorem modRole_svc : (s.modRole f).svc = s.svc := rfl

end

/-! ### modBoot -/

section

variable (f : Boot → Boot)

@[simp] theorem modBoot_pending : (s.modBoot f).pending = s.pending := rfl
@[simp] theorem modBoot_ticks : (s.modBoot f).ticks = s.ticks := rfl
@[simp] theorem modBoot_free : (s.modBoot f).free = s.free := rfl
@[simp] theorem modBoot_role : (s.modBoot f).role = s.role := rfl
@[simp] theorem modBoot_boot : (s.modBoot f).boot = f s.boot := rfl
@[simp] theorem modBoot_clk : (s.modBoot f).clk = s.clk := rfl
@[simp] theorem modBoot_tb : (s.modBoot f).tb = s.tb := rfl
@[simp] theorem modBoot_supply : (s.modBoot f).supply = s.supply := rfl
@[simp] theorem modBoot_pwr : (s.modBoot f).pwr = s.pwr := rfl
@[simp] theorem modBoot_pins : (s.modBoot f).pins = s.pins := rfl
@[simp] theorem modBoot_rst : (s.modBoot f).rst = s.rst := rfl
@[simp] theorem modBoot_regs : (s.modBoot f).regs = s.regs := rfl
@[simp] theorem modBoot_live : (s.modBoot f).live = s.live := rfl
@[simp] theorem modBoot_liveImg : (s.modBoot f).liveImg = s.liveImg := rfl
@[simp] theorem modBoot_img : (s.modBoot f).img = s.img := rfl
@[simp] theorem modBoot_fab : (s.modBoot f).fab = s.fab := rfl
@[simp] theorem modBoot_meas : (s.modBoot f).meas = s.meas := rfl
@[simp] theorem modBoot_cmp : (s.modBoot f).cmp = s.cmp := rfl
@[simp] theorem modBoot_seq : (s.modBoot f).seq = s.seq := rfl
@[simp] theorem modBoot_react : (s.modBoot f).react = s.react := rfl
@[simp] theorem modBoot_mrg : (s.modBoot f).mrg = s.mrg := rfl
@[simp] theorem modBoot_nvm : (s.modBoot f).nvm = s.nvm := rfl
@[simp] theorem modBoot_ridge : (s.modBoot f).ridge = s.ridge := rfl
@[simp] theorem modBoot_sched : (s.modBoot f).sched = s.sched := rfl
@[simp] theorem modBoot_pair : (s.modBoot f).pair = s.pair := rfl
@[simp] theorem modBoot_unit : (s.modBoot f).unit = s.unit := rfl
@[simp] theorem modBoot_chain : (s.modBoot f).chain = s.chain := rfl
@[simp] theorem modBoot_hif : (s.modBoot f).hif = s.hif := rfl
@[simp] theorem modBoot_wdt : (s.modBoot f).wdt = s.wdt := rfl
@[simp] theorem modBoot_svc : (s.modBoot f).svc = s.svc := rfl

end

/-! ### modClk -/

section

variable (f : Clk → Clk)

@[simp] theorem modClk_pending : (s.modClk f).pending = s.pending := rfl
@[simp] theorem modClk_ticks : (s.modClk f).ticks = s.ticks := rfl
@[simp] theorem modClk_free : (s.modClk f).free = s.free := rfl
@[simp] theorem modClk_role : (s.modClk f).role = s.role := rfl
@[simp] theorem modClk_boot : (s.modClk f).boot = s.boot := rfl
@[simp] theorem modClk_clk : (s.modClk f).clk = f s.clk := rfl
@[simp] theorem modClk_tb : (s.modClk f).tb = s.tb := rfl
@[simp] theorem modClk_supply : (s.modClk f).supply = s.supply := rfl
@[simp] theorem modClk_pwr : (s.modClk f).pwr = s.pwr := rfl
@[simp] theorem modClk_pins : (s.modClk f).pins = s.pins := rfl
@[simp] theorem modClk_rst : (s.modClk f).rst = s.rst := rfl
@[simp] theorem modClk_regs : (s.modClk f).regs = s.regs := rfl
@[simp] theorem modClk_live : (s.modClk f).live = s.live := rfl
@[simp] theorem modClk_liveImg : (s.modClk f).liveImg = s.liveImg := rfl
@[simp] theorem modClk_img : (s.modClk f).img = s.img := rfl
@[simp] theorem modClk_fab : (s.modClk f).fab = s.fab := rfl
@[simp] theorem modClk_meas : (s.modClk f).meas = s.meas := rfl
@[simp] theorem modClk_cmp : (s.modClk f).cmp = s.cmp := rfl
@[simp] theorem modClk_seq : (s.modClk f).seq = s.seq := rfl
@[simp] theorem modClk_react : (s.modClk f).react = s.react := rfl
@[simp] theorem modClk_mrg : (s.modClk f).mrg = s.mrg := rfl
@[simp] theorem modClk_nvm : (s.modClk f).nvm = s.nvm := rfl
@[simp] theorem modClk_ridge : (s.modClk f).ridge = s.ridge := rfl
@[simp] theorem modClk_sched : (s.modClk f).sched = s.sched := rfl
@[simp] theorem modClk_pair : (s.modClk f).pair = s.pair := rfl
@[simp] theorem modClk_unit : (s.modClk f).unit = s.unit := rfl
@[simp] theorem modClk_chain : (s.modClk f).chain = s.chain := rfl
@[simp] theorem modClk_hif : (s.modClk f).hif = s.hif := rfl
@[simp] theorem modClk_wdt : (s.modClk f).wdt = s.wdt := rfl
@[simp] theorem modClk_svc : (s.modClk f).svc = s.svc := rfl

end

/-! ### modTb -/

section

variable (f : Tb → Tb)

@[simp] theorem modTb_pending : (s.modTb f).pending = s.pending := rfl
@[simp] theorem modTb_ticks : (s.modTb f).ticks = s.ticks := rfl
@[simp] theorem modTb_free : (s.modTb f).free = s.free := rfl
@[simp] theorem modTb_role : (s.modTb f).role = s.role := rfl
@[simp] theorem modTb_boot : (s.modTb f).boot = s.boot := rfl
@[simp] theorem modTb_clk : (s.modTb f).clk = s.clk := rfl
@[simp] theorem modTb_tb : (s.modTb f).tb = f s.tb := rfl
@[simp] theorem modTb_supply : (s.modTb f).supply = s.supply := rfl
@[simp] theorem modTb_pwr : (s.modTb f).pwr = s.pwr := rfl
@[simp] theorem modTb_pins : (s.modTb f).pins = s.pins := rfl
@[simp] theorem modTb_rst : (s.modTb f).rst = s.rst := rfl
@[simp] theorem modTb_regs : (s.modTb f).regs = s.regs := rfl
@[simp] theorem modTb_live : (s.modTb f).live = s.live := rfl
@[simp] theorem modTb_liveImg : (s.modTb f).liveImg = s.liveImg := rfl
@[simp] theorem modTb_img : (s.modTb f).img = s.img := rfl
@[simp] theorem modTb_fab : (s.modTb f).fab = s.fab := rfl
@[simp] theorem modTb_meas : (s.modTb f).meas = s.meas := rfl
@[simp] theorem modTb_cmp : (s.modTb f).cmp = s.cmp := rfl
@[simp] theorem modTb_seq : (s.modTb f).seq = s.seq := rfl
@[simp] theorem modTb_react : (s.modTb f).react = s.react := rfl
@[simp] theorem modTb_mrg : (s.modTb f).mrg = s.mrg := rfl
@[simp] theorem modTb_nvm : (s.modTb f).nvm = s.nvm := rfl
@[simp] theorem modTb_ridge : (s.modTb f).ridge = s.ridge := rfl
@[simp] theorem modTb_sched : (s.modTb f).sched = s.sched := rfl
@[simp] theorem modTb_pair : (s.modTb f).pair = s.pair := rfl
@[simp] theorem modTb_unit : (s.modTb f).unit = s.unit := rfl
@[simp] theorem modTb_chain : (s.modTb f).chain = s.chain := rfl
@[simp] theorem modTb_hif : (s.modTb f).hif = s.hif := rfl
@[simp] theorem modTb_wdt : (s.modTb f).wdt = s.wdt := rfl
@[simp] theorem modTb_svc : (s.modTb f).svc = s.svc := rfl

end

/-! ### modSupply -/

section

variable (f : Supply → Supply)

@[simp] theorem modSupply_pending : (s.modSupply f).pending = s.pending := rfl
@[simp] theorem modSupply_ticks : (s.modSupply f).ticks = s.ticks := rfl
@[simp] theorem modSupply_free : (s.modSupply f).free = s.free := rfl
@[simp] theorem modSupply_role : (s.modSupply f).role = s.role := rfl
@[simp] theorem modSupply_boot : (s.modSupply f).boot = s.boot := rfl
@[simp] theorem modSupply_clk : (s.modSupply f).clk = s.clk := rfl
@[simp] theorem modSupply_tb : (s.modSupply f).tb = s.tb := rfl
@[simp] theorem modSupply_supply : (s.modSupply f).supply = f s.supply := rfl
@[simp] theorem modSupply_pwr : (s.modSupply f).pwr = s.pwr := rfl
@[simp] theorem modSupply_pins : (s.modSupply f).pins = s.pins := rfl
@[simp] theorem modSupply_rst : (s.modSupply f).rst = s.rst := rfl
@[simp] theorem modSupply_regs : (s.modSupply f).regs = s.regs := rfl
@[simp] theorem modSupply_live : (s.modSupply f).live = s.live := rfl
@[simp] theorem modSupply_liveImg : (s.modSupply f).liveImg = s.liveImg := rfl
@[simp] theorem modSupply_img : (s.modSupply f).img = s.img := rfl
@[simp] theorem modSupply_fab : (s.modSupply f).fab = s.fab := rfl
@[simp] theorem modSupply_meas : (s.modSupply f).meas = s.meas := rfl
@[simp] theorem modSupply_cmp : (s.modSupply f).cmp = s.cmp := rfl
@[simp] theorem modSupply_seq : (s.modSupply f).seq = s.seq := rfl
@[simp] theorem modSupply_react : (s.modSupply f).react = s.react := rfl
@[simp] theorem modSupply_mrg : (s.modSupply f).mrg = s.mrg := rfl
@[simp] theorem modSupply_nvm : (s.modSupply f).nvm = s.nvm := rfl
@[simp] theorem modSupply_ridge : (s.modSupply f).ridge = s.ridge := rfl
@[simp] theorem modSupply_sched : (s.modSupply f).sched = s.sched := rfl
@[simp] theorem modSupply_pair : (s.modSupply f).pair = s.pair := rfl
@[simp] theorem modSupply_unit : (s.modSupply f).unit = s.unit := rfl
@[simp] theorem modSupply_chain : (s.modSupply f).chain = s.chain := rfl
@[simp] theorem modSupply_hif : (s.modSupply f).hif = s.hif := rfl
@[simp] theorem modSupply_wdt : (s.modSupply f).wdt = s.wdt := rfl
@[simp] theorem modSupply_svc : (s.modSupply f).svc = s.svc := rfl

end

/-! ### modPwr -/

section

variable (f : Pwr → Pwr)

@[simp] theorem modPwr_pending : (s.modPwr f).pending = s.pending := rfl
@[simp] theorem modPwr_ticks : (s.modPwr f).ticks = s.ticks := rfl
@[simp] theorem modPwr_free : (s.modPwr f).free = s.free := rfl
@[simp] theorem modPwr_role : (s.modPwr f).role = s.role := rfl
@[simp] theorem modPwr_boot : (s.modPwr f).boot = s.boot := rfl
@[simp] theorem modPwr_clk : (s.modPwr f).clk = s.clk := rfl
@[simp] theorem modPwr_tb : (s.modPwr f).tb = s.tb := rfl
@[simp] theorem modPwr_supply : (s.modPwr f).supply = s.supply := rfl
@[simp] theorem modPwr_pwr : (s.modPwr f).pwr = f s.pwr := rfl
@[simp] theorem modPwr_pins : (s.modPwr f).pins = s.pins := rfl
@[simp] theorem modPwr_rst : (s.modPwr f).rst = s.rst := rfl
@[simp] theorem modPwr_regs : (s.modPwr f).regs = s.regs := rfl
@[simp] theorem modPwr_live : (s.modPwr f).live = s.live := rfl
@[simp] theorem modPwr_liveImg : (s.modPwr f).liveImg = s.liveImg := rfl
@[simp] theorem modPwr_img : (s.modPwr f).img = s.img := rfl
@[simp] theorem modPwr_fab : (s.modPwr f).fab = s.fab := rfl
@[simp] theorem modPwr_meas : (s.modPwr f).meas = s.meas := rfl
@[simp] theorem modPwr_cmp : (s.modPwr f).cmp = s.cmp := rfl
@[simp] theorem modPwr_seq : (s.modPwr f).seq = s.seq := rfl
@[simp] theorem modPwr_react : (s.modPwr f).react = s.react := rfl
@[simp] theorem modPwr_mrg : (s.modPwr f).mrg = s.mrg := rfl
@[simp] theorem modPwr_nvm : (s.modPwr f).nvm = s.nvm := rfl
@[simp] theorem modPwr_ridge : (s.modPwr f).ridge = s.ridge := rfl
@[simp] theorem modPwr_sched : (s.modPwr f).sched = s.sched := rfl
@[simp] theorem modPwr_pair : (s.modPwr f).pair = s.pair := rfl
@[simp] theorem modPwr_unit : (s.modPwr f).unit = s.unit := rfl
@[simp] theorem modPwr_chain : (s.modPwr f).chain = s.chain := rfl
@[simp] theorem modPwr_hif : (s.modPwr f).hif = s.hif := rfl
@[simp] theorem modPwr_wdt : (s.modPwr f).wdt = s.wdt := rfl
@[simp] theorem modPwr_svc : (s.modPwr f).svc = s.svc := rfl

end

/-! ### modPins -/

section

variable (f : Pins → Pins)

@[simp] theorem modPins_pending : (s.modPins f).pending = s.pending := rfl
@[simp] theorem modPins_ticks : (s.modPins f).ticks = s.ticks := rfl
@[simp] theorem modPins_free : (s.modPins f).free = s.free := rfl
@[simp] theorem modPins_role : (s.modPins f).role = s.role := rfl
@[simp] theorem modPins_boot : (s.modPins f).boot = s.boot := rfl
@[simp] theorem modPins_clk : (s.modPins f).clk = s.clk := rfl
@[simp] theorem modPins_tb : (s.modPins f).tb = s.tb := rfl
@[simp] theorem modPins_supply : (s.modPins f).supply = s.supply := rfl
@[simp] theorem modPins_pwr : (s.modPins f).pwr = s.pwr := rfl
@[simp] theorem modPins_pins : (s.modPins f).pins = f s.pins := rfl
@[simp] theorem modPins_rst : (s.modPins f).rst = s.rst := rfl
@[simp] theorem modPins_regs : (s.modPins f).regs = s.regs := rfl
@[simp] theorem modPins_live : (s.modPins f).live = s.live := rfl
@[simp] theorem modPins_liveImg : (s.modPins f).liveImg = s.liveImg := rfl
@[simp] theorem modPins_img : (s.modPins f).img = s.img := rfl
@[simp] theorem modPins_fab : (s.modPins f).fab = s.fab := rfl
@[simp] theorem modPins_meas : (s.modPins f).meas = s.meas := rfl
@[simp] theorem modPins_cmp : (s.modPins f).cmp = s.cmp := rfl
@[simp] theorem modPins_seq : (s.modPins f).seq = s.seq := rfl
@[simp] theorem modPins_react : (s.modPins f).react = s.react := rfl
@[simp] theorem modPins_mrg : (s.modPins f).mrg = s.mrg := rfl
@[simp] theorem modPins_nvm : (s.modPins f).nvm = s.nvm := rfl
@[simp] theorem modPins_ridge : (s.modPins f).ridge = s.ridge := rfl
@[simp] theorem modPins_sched : (s.modPins f).sched = s.sched := rfl
@[simp] theorem modPins_pair : (s.modPins f).pair = s.pair := rfl
@[simp] theorem modPins_unit : (s.modPins f).unit = s.unit := rfl
@[simp] theorem modPins_chain : (s.modPins f).chain = s.chain := rfl
@[simp] theorem modPins_hif : (s.modPins f).hif = s.hif := rfl
@[simp] theorem modPins_wdt : (s.modPins f).wdt = s.wdt := rfl
@[simp] theorem modPins_svc : (s.modPins f).svc = s.svc := rfl

end

/-! ### modRst -/

section

variable (f : RstRec → RstRec)

@[simp] theorem modRst_pending : (s.modRst f).pending = s.pending := rfl
@[simp] theorem modRst_ticks : (s.modRst f).ticks = s.ticks := rfl
@[simp] theorem modRst_free : (s.modRst f).free = s.free := rfl
@[simp] theorem modRst_role : (s.modRst f).role = s.role := rfl
@[simp] theorem modRst_boot : (s.modRst f).boot = s.boot := rfl
@[simp] theorem modRst_clk : (s.modRst f).clk = s.clk := rfl
@[simp] theorem modRst_tb : (s.modRst f).tb = s.tb := rfl
@[simp] theorem modRst_supply : (s.modRst f).supply = s.supply := rfl
@[simp] theorem modRst_pwr : (s.modRst f).pwr = s.pwr := rfl
@[simp] theorem modRst_pins : (s.modRst f).pins = s.pins := rfl
@[simp] theorem modRst_rst : (s.modRst f).rst = f s.rst := rfl
@[simp] theorem modRst_regs : (s.modRst f).regs = s.regs := rfl
@[simp] theorem modRst_live : (s.modRst f).live = s.live := rfl
@[simp] theorem modRst_liveImg : (s.modRst f).liveImg = s.liveImg := rfl
@[simp] theorem modRst_img : (s.modRst f).img = s.img := rfl
@[simp] theorem modRst_fab : (s.modRst f).fab = s.fab := rfl
@[simp] theorem modRst_meas : (s.modRst f).meas = s.meas := rfl
@[simp] theorem modRst_cmp : (s.modRst f).cmp = s.cmp := rfl
@[simp] theorem modRst_seq : (s.modRst f).seq = s.seq := rfl
@[simp] theorem modRst_react : (s.modRst f).react = s.react := rfl
@[simp] theorem modRst_mrg : (s.modRst f).mrg = s.mrg := rfl
@[simp] theorem modRst_nvm : (s.modRst f).nvm = s.nvm := rfl
@[simp] theorem modRst_ridge : (s.modRst f).ridge = s.ridge := rfl
@[simp] theorem modRst_sched : (s.modRst f).sched = s.sched := rfl
@[simp] theorem modRst_pair : (s.modRst f).pair = s.pair := rfl
@[simp] theorem modRst_unit : (s.modRst f).unit = s.unit := rfl
@[simp] theorem modRst_chain : (s.modRst f).chain = s.chain := rfl
@[simp] theorem modRst_hif : (s.modRst f).hif = s.hif := rfl
@[simp] theorem modRst_wdt : (s.modRst f).wdt = s.wdt := rfl
@[simp] theorem modRst_svc : (s.modRst f).svc = s.svc := rfl

end

/-! ### modImg -/

section

variable (f : Img → Img)

@[simp] theorem modImg_pending : (s.modImg f).pending = s.pending := rfl
@[simp] theorem modImg_ticks : (s.modImg f).ticks = s.ticks := rfl
@[simp] theorem modImg_free : (s.modImg f).free = s.free := rfl
@[simp] theorem modImg_role : (s.modImg f).role = s.role := rfl
@[simp] theorem modImg_boot : (s.modImg f).boot = s.boot := rfl
@[simp] theorem modImg_clk : (s.modImg f).clk = s.clk := rfl
@[simp] theorem modImg_tb : (s.modImg f).tb = s.tb := rfl
@[simp] theorem modImg_supply : (s.modImg f).supply = s.supply := rfl
@[simp] theorem modImg_pwr : (s.modImg f).pwr = s.pwr := rfl
@[simp] theorem modImg_pins : (s.modImg f).pins = s.pins := rfl
@[simp] theorem modImg_rst : (s.modImg f).rst = s.rst := rfl
@[simp] theorem modImg_regs : (s.modImg f).regs = s.regs := rfl
@[simp] theorem modImg_live : (s.modImg f).live = s.live := rfl
@[simp] theorem modImg_liveImg : (s.modImg f).liveImg = s.liveImg := rfl
@[simp] theorem modImg_img : (s.modImg f).img = f s.img := rfl
@[simp] theorem modImg_fab : (s.modImg f).fab = s.fab := rfl
@[simp] theorem modImg_meas : (s.modImg f).meas = s.meas := rfl
@[simp] theorem modImg_cmp : (s.modImg f).cmp = s.cmp := rfl
@[simp] theorem modImg_seq : (s.modImg f).seq = s.seq := rfl
@[simp] theorem modImg_react : (s.modImg f).react = s.react := rfl
@[simp] theorem modImg_mrg : (s.modImg f).mrg = s.mrg := rfl
@[simp] theorem modImg_nvm : (s.modImg f).nvm = s.nvm := rfl
@[simp] theorem modImg_ridge : (s.modImg f).ridge = s.ridge := rfl
@[simp] theorem modImg_sched : (s.modImg f).sched = s.sched := rfl
@[simp] theorem modImg_pair : (s.modImg f).pair = s.pair := rfl
@[simp] theorem modImg_unit : (s.modImg f).unit = s.unit := rfl
@[simp] theorem modImg_chain : (s.modImg f).chain = s.chain := rfl
@[simp] theorem modImg_hif : (s.modImg f).hif = s.hif := rfl
@[simp] theorem modImg_wdt : (s.modImg f).wdt = s.wdt := rfl
@[simp] theorem modImg_svc : (s.modImg f).svc = s.svc := rfl

end

/-! ### modFab -/

section

variable (f : Fab → Fab)

@[simp] theorem modFab_pending : (s.modFab f).pending = s.pending := rfl
@[simp] theorem modFab_ticks : (s.modFab f).ticks = s.ticks := rfl
@[simp] theorem modFab_free : (s.modFab f).free = s.free := rfl
@[simp] theorem modFab_role : (s.modFab f).role = s.role := rfl
@[simp] theorem modFab_boot : (s.modFab f).boot = s.boot := rfl
@[simp] theorem modFab_clk : (s.modFab f).clk = s.clk := rfl
@[simp] theorem modFab_tb : (s.modFab f).tb = s.tb := rfl
@[simp] theorem modFab_supply : (s.modFab f).supply = s.supply := rfl
@[simp] theorem modFab_pwr : (s.modFab f).pwr = s.pwr := rfl
@[simp] theorem modFab_pins : (s.modFab f).pins = s.pins := rfl
@[simp] theorem modFab_rst : (s.modFab f).rst = s.rst := rfl
@[simp] theorem modFab_regs : (s.modFab f).regs = s.regs := rfl
@[simp] theorem modFab_live : (s.modFab f).live = s.live := rfl
@[simp] theorem modFab_liveImg : (s.modFab f).liveImg = s.liveImg := rfl
@[simp] theorem modFab_img : (s.modFab f).img = s.img := rfl
@[simp] theorem modFab_fab : (s.modFab f).fab = f s.fab := rfl
@[simp] theorem modFab_meas : (s.modFab f).meas = s.meas := rfl
@[simp] theorem modFab_cmp : (s.modFab f).cmp = s.cmp := rfl
@[simp] theorem modFab_seq : (s.modFab f).seq = s.seq := rfl
@[simp] theorem modFab_react : (s.modFab f).react = s.react := rfl
@[simp] theorem modFab_mrg : (s.modFab f).mrg = s.mrg := rfl
@[simp] theorem modFab_nvm : (s.modFab f).nvm = s.nvm := rfl
@[simp] theorem modFab_ridge : (s.modFab f).ridge = s.ridge := rfl
@[simp] theorem modFab_sched : (s.modFab f).sched = s.sched := rfl
@[simp] theorem modFab_pair : (s.modFab f).pair = s.pair := rfl
@[simp] theorem modFab_unit : (s.modFab f).unit = s.unit := rfl
@[simp] theorem modFab_chain : (s.modFab f).chain = s.chain := rfl
@[simp] theorem modFab_hif : (s.modFab f).hif = s.hif := rfl
@[simp] theorem modFab_wdt : (s.modFab f).wdt = s.wdt := rfl
@[simp] theorem modFab_svc : (s.modFab f).svc = s.svc := rfl

end

/-! ### modMeas -/

section

variable (f : Meas → Meas)

@[simp] theorem modMeas_pending : (s.modMeas f).pending = s.pending := rfl
@[simp] theorem modMeas_ticks : (s.modMeas f).ticks = s.ticks := rfl
@[simp] theorem modMeas_free : (s.modMeas f).free = s.free := rfl
@[simp] theorem modMeas_role : (s.modMeas f).role = s.role := rfl
@[simp] theorem modMeas_boot : (s.modMeas f).boot = s.boot := rfl
@[simp] theorem modMeas_clk : (s.modMeas f).clk = s.clk := rfl
@[simp] theorem modMeas_tb : (s.modMeas f).tb = s.tb := rfl
@[simp] theorem modMeas_supply : (s.modMeas f).supply = s.supply := rfl
@[simp] theorem modMeas_pwr : (s.modMeas f).pwr = s.pwr := rfl
@[simp] theorem modMeas_pins : (s.modMeas f).pins = s.pins := rfl
@[simp] theorem modMeas_rst : (s.modMeas f).rst = s.rst := rfl
@[simp] theorem modMeas_regs : (s.modMeas f).regs = s.regs := rfl
@[simp] theorem modMeas_live : (s.modMeas f).live = s.live := rfl
@[simp] theorem modMeas_liveImg : (s.modMeas f).liveImg = s.liveImg := rfl
@[simp] theorem modMeas_img : (s.modMeas f).img = s.img := rfl
@[simp] theorem modMeas_fab : (s.modMeas f).fab = s.fab := rfl
@[simp] theorem modMeas_meas : (s.modMeas f).meas = f s.meas := rfl
@[simp] theorem modMeas_cmp : (s.modMeas f).cmp = s.cmp := rfl
@[simp] theorem modMeas_seq : (s.modMeas f).seq = s.seq := rfl
@[simp] theorem modMeas_react : (s.modMeas f).react = s.react := rfl
@[simp] theorem modMeas_mrg : (s.modMeas f).mrg = s.mrg := rfl
@[simp] theorem modMeas_nvm : (s.modMeas f).nvm = s.nvm := rfl
@[simp] theorem modMeas_ridge : (s.modMeas f).ridge = s.ridge := rfl
@[simp] theorem modMeas_sched : (s.modMeas f).sched = s.sched := rfl
@[simp] theorem modMeas_pair : (s.modMeas f).pair = s.pair := rfl
@[simp] theorem modMeas_unit : (s.modMeas f).unit = s.unit := rfl
@[simp] theorem modMeas_chain : (s.modMeas f).chain = s.chain := rfl
@[simp] theorem modMeas_hif : (s.modMeas f).hif = s.hif := rfl
@[simp] theorem modMeas_wdt : (s.modMeas f).wdt = s.wdt := rfl
@[simp] theorem modMeas_svc : (s.modMeas f).svc = s.svc := rfl

end

/-! ### modCmp -/

section

variable (f : Cmp → Cmp)

@[simp] theorem modCmp_pending : (s.modCmp f).pending = s.pending := rfl
@[simp] theorem modCmp_ticks : (s.modCmp f).ticks = s.ticks := rfl
@[simp] theorem modCmp_free : (s.modCmp f).free = s.free := rfl
@[simp] theorem modCmp_role : (s.modCmp f).role = s.role := rfl
@[simp] theorem modCmp_boot : (s.modCmp f).boot = s.boot := rfl
@[simp] theorem modCmp_clk : (s.modCmp f).clk = s.clk := rfl
@[simp] theorem modCmp_tb : (s.modCmp f).tb = s.tb := rfl
@[simp] theorem modCmp_supply : (s.modCmp f).supply = s.supply := rfl
@[simp] theorem modCmp_pwr : (s.modCmp f).pwr = s.pwr := rfl
@[simp] theorem modCmp_pins : (s.modCmp f).pins = s.pins := rfl
@[simp] theorem modCmp_rst : (s.modCmp f).rst = s.rst := rfl
@[simp] theorem modCmp_regs : (s.modCmp f).regs = s.regs := rfl
@[simp] theorem modCmp_live : (s.modCmp f).live = s.live := rfl
@[simp] theorem modCmp_liveImg : (s.modCmp f).liveImg = s.liveImg := rfl
@[simp] theorem modCmp_img : (s.modCmp f).img = s.img := rfl
@[simp] theorem modCmp_fab : (s.modCmp f).fab = s.fab := rfl
@[simp] theorem modCmp_meas : (s.modCmp f).meas = s.meas := rfl
@[simp] theorem modCmp_cmp : (s.modCmp f).cmp = f s.cmp := rfl
@[simp] theorem modCmp_seq : (s.modCmp f).seq = s.seq := rfl
@[simp] theorem modCmp_react : (s.modCmp f).react = s.react := rfl
@[simp] theorem modCmp_mrg : (s.modCmp f).mrg = s.mrg := rfl
@[simp] theorem modCmp_nvm : (s.modCmp f).nvm = s.nvm := rfl
@[simp] theorem modCmp_ridge : (s.modCmp f).ridge = s.ridge := rfl
@[simp] theorem modCmp_sched : (s.modCmp f).sched = s.sched := rfl
@[simp] theorem modCmp_pair : (s.modCmp f).pair = s.pair := rfl
@[simp] theorem modCmp_unit : (s.modCmp f).unit = s.unit := rfl
@[simp] theorem modCmp_chain : (s.modCmp f).chain = s.chain := rfl
@[simp] theorem modCmp_hif : (s.modCmp f).hif = s.hif := rfl
@[simp] theorem modCmp_wdt : (s.modCmp f).wdt = s.wdt := rfl
@[simp] theorem modCmp_svc : (s.modCmp f).svc = s.svc := rfl

end

/-! ### modSeq -/

section

variable (f : Seq → Seq)

@[simp] theorem modSeq_pending : (s.modSeq f).pending = s.pending := rfl
@[simp] theorem modSeq_ticks : (s.modSeq f).ticks = s.ticks := rfl
@[simp] theorem modSeq_free : (s.modSeq f).free = s.free := rfl
@[simp] theorem modSeq_role : (s.modSeq f).role = s.role := rfl
@[simp] theorem modSeq_boot : (s.modSeq f).boot = s.boot := rfl
@[simp] theorem modSeq_clk : (s.modSeq f).clk = s.clk := rfl
@[simp] theorem modSeq_tb : (s.modSeq f).tb = s.tb := rfl
@[simp] theorem modSeq_supply : (s.modSeq f).supply = s.supply := rfl
@[simp] theorem modSeq_pwr : (s.modSeq f).pwr = s.pwr := rfl
@[simp] theorem modSeq_pins : (s.modSeq f).pins = s.pins := rfl
@[simp] theorem modSeq_rst : (s.modSeq f).rst = s.rst := rfl
@[simp] theorem modSeq_regs : (s.modSeq f).regs = s.regs := rfl
@[simp] theorem modSeq_live : (s.modSeq f).live = s.live := rfl
@[simp] theorem modSeq_liveImg : (s.modSeq f).liveImg = s.liveImg := rfl
@[simp] theorem modSeq_img : (s.modSeq f).img = s.img := rfl
@[simp] theorem modSeq_fab : (s.modSeq f).fab = s.fab := rfl
@[simp] theorem modSeq_meas : (s.modSeq f).meas = s.meas := rfl
@[simp] theorem modSeq_cmp : (s.modSeq f).cmp = s.cmp := rfl
@[simp] theorem modSeq_seq : (s.modSeq f).seq = f s.seq := rfl
@[simp] theorem modSeq_react : (s.modSeq f).react = s.react := rfl
@[simp] theorem modSeq_mrg : (s.modSeq f).mrg = s.mrg := rfl
@[simp] theorem modSeq_nvm : (s.modSeq f).nvm = s.nvm := rfl
@[simp] theorem modSeq_ridge : (s.modSeq f).ridge = s.ridge := rfl
@[simp] theorem modSeq_sched : (s.modSeq f).sched = s.sched := rfl
@[simp] theorem modSeq_pair : (s.modSeq f).pair = s.pair := rfl
@[simp] theorem modSeq_unit : (s.modSeq f).unit = s.unit := rfl
@[simp] theorem modSeq_chain : (s.modSeq f).chain = s.chain := rfl
@[simp] theorem modSeq_hif : (s.modSeq f).hif = s.hif := rfl
@[simp] theorem modSeq_wdt : (s.modSeq f).wdt = s.wdt := rfl
@[simp] theorem modSeq_svc : (s.modSeq f).svc = s.svc := rfl

end

/-! ### modReact -/

section

variable (f : React → React)

@[simp] theorem modReact_pending : (s.modReact f).pending = s.pending := rfl
@[simp] theorem modReact_ticks : (s.modReact f).ticks = s.ticks := rfl
@[simp] theorem modReact_free : (s.modReact f).free = s.free := rfl
@[simp] theorem modReact_role : (s.modReact f).role = s.role := rfl
@[simp] theorem modReact_boot : (s.modReact f).boot = s.boot := rfl
@[simp] theorem modReact_clk : (s.modReact f).clk = s.clk := rfl
@[simp] theorem modReact_tb : (s.modReact f).tb = s.tb := rfl
@[simp] theorem modReact_supply : (s.modReact f).supply = s.supply := rfl
@[simp] theorem modReact_pwr : (s.modReact f).pwr = s.pwr := rfl
@[simp] theorem modReact_pins : (s.modReact f).pins = s.pins := rfl
@[simp] theorem modReact_rst : (s.modReact f).rst = s.rst := rfl
@[simp] theorem modReact_regs : (s.modReact f).regs = s.regs := rfl
@[simp] theorem modReact_live : (s.modReact f).live = s.live := rfl
@[simp] theorem modReact_liveImg : (s.modReact f).liveImg = s.liveImg := rfl
@[simp] theorem modReact_img : (s.modReact f).img = s.img := rfl
@[simp] theorem modReact_fab : (s.modReact f).fab = s.fab := rfl
@[simp] theorem modReact_meas : (s.modReact f).meas = s.meas := rfl
@[simp] theorem modReact_cmp : (s.modReact f).cmp = s.cmp := rfl
@[simp] theorem modReact_seq : (s.modReact f).seq = s.seq := rfl
@[simp] theorem modReact_react : (s.modReact f).react = f s.react := rfl
@[simp] theorem modReact_mrg : (s.modReact f).mrg = s.mrg := rfl
@[simp] theorem modReact_nvm : (s.modReact f).nvm = s.nvm := rfl
@[simp] theorem modReact_ridge : (s.modReact f).ridge = s.ridge := rfl
@[simp] theorem modReact_sched : (s.modReact f).sched = s.sched := rfl
@[simp] theorem modReact_pair : (s.modReact f).pair = s.pair := rfl
@[simp] theorem modReact_unit : (s.modReact f).unit = s.unit := rfl
@[simp] theorem modReact_chain : (s.modReact f).chain = s.chain := rfl
@[simp] theorem modReact_hif : (s.modReact f).hif = s.hif := rfl
@[simp] theorem modReact_wdt : (s.modReact f).wdt = s.wdt := rfl
@[simp] theorem modReact_svc : (s.modReact f).svc = s.svc := rfl

end

/-! ### modMrg -/

section

variable (f : Mrg → Mrg)

@[simp] theorem modMrg_pending : (s.modMrg f).pending = s.pending := rfl
@[simp] theorem modMrg_ticks : (s.modMrg f).ticks = s.ticks := rfl
@[simp] theorem modMrg_free : (s.modMrg f).free = s.free := rfl
@[simp] theorem modMrg_role : (s.modMrg f).role = s.role := rfl
@[simp] theorem modMrg_boot : (s.modMrg f).boot = s.boot := rfl
@[simp] theorem modMrg_clk : (s.modMrg f).clk = s.clk := rfl
@[simp] theorem modMrg_tb : (s.modMrg f).tb = s.tb := rfl
@[simp] theorem modMrg_supply : (s.modMrg f).supply = s.supply := rfl
@[simp] theorem modMrg_pwr : (s.modMrg f).pwr = s.pwr := rfl
@[simp] theorem modMrg_pins : (s.modMrg f).pins = s.pins := rfl
@[simp] theorem modMrg_rst : (s.modMrg f).rst = s.rst := rfl
@[simp] theorem modMrg_regs : (s.modMrg f).regs = s.regs := rfl
@[simp] theorem modMrg_live : (s.modMrg f).live = s.live := rfl
@[simp] theorem modMrg_liveImg : (s.modMrg f).liveImg = s.liveImg := rfl
@[simp] theorem modMrg_img : (s.modMrg f).img = s.img := rfl
@[simp] theorem modMrg_fab : (s.modMrg f).fab = s.fab := rfl
@[simp] theorem modMrg_meas : (s.modMrg f).meas = s.meas := rfl
@[simp] theorem modMrg_cmp : (s.modMrg f).cmp = s.cmp := rfl
@[simp] theorem modMrg_seq : (s.modMrg f).seq = s.seq := rfl
@[simp] theorem modMrg_react : (s.modMrg f).react = s.react := rfl
@[simp] theorem modMrg_mrg : (s.modMrg f).mrg = f s.mrg := rfl
@[simp] theorem modMrg_nvm : (s.modMrg f).nvm = s.nvm := rfl
@[simp] theorem modMrg_ridge : (s.modMrg f).ridge = s.ridge := rfl
@[simp] theorem modMrg_sched : (s.modMrg f).sched = s.sched := rfl
@[simp] theorem modMrg_pair : (s.modMrg f).pair = s.pair := rfl
@[simp] theorem modMrg_unit : (s.modMrg f).unit = s.unit := rfl
@[simp] theorem modMrg_chain : (s.modMrg f).chain = s.chain := rfl
@[simp] theorem modMrg_hif : (s.modMrg f).hif = s.hif := rfl
@[simp] theorem modMrg_wdt : (s.modMrg f).wdt = s.wdt := rfl
@[simp] theorem modMrg_svc : (s.modMrg f).svc = s.svc := rfl

end

/-! ### modNvm -/

section

variable (f : Nvm → Nvm)

@[simp] theorem modNvm_pending : (s.modNvm f).pending = s.pending := rfl
@[simp] theorem modNvm_ticks : (s.modNvm f).ticks = s.ticks := rfl
@[simp] theorem modNvm_free : (s.modNvm f).free = s.free := rfl
@[simp] theorem modNvm_role : (s.modNvm f).role = s.role := rfl
@[simp] theorem modNvm_boot : (s.modNvm f).boot = s.boot := rfl
@[simp] theorem modNvm_clk : (s.modNvm f).clk = s.clk := rfl
@[simp] theorem modNvm_tb : (s.modNvm f).tb = s.tb := rfl
@[simp] theorem modNvm_supply : (s.modNvm f).supply = s.supply := rfl
@[simp] theorem modNvm_pwr : (s.modNvm f).pwr = s.pwr := rfl
@[simp] theorem modNvm_pins : (s.modNvm f).pins = s.pins := rfl
@[simp] theorem modNvm_rst : (s.modNvm f).rst = s.rst := rfl
@[simp] theorem modNvm_regs : (s.modNvm f).regs = s.regs := rfl
@[simp] theorem modNvm_live : (s.modNvm f).live = s.live := rfl
@[simp] theorem modNvm_liveImg : (s.modNvm f).liveImg = s.liveImg := rfl
@[simp] theorem modNvm_img : (s.modNvm f).img = s.img := rfl
@[simp] theorem modNvm_fab : (s.modNvm f).fab = s.fab := rfl
@[simp] theorem modNvm_meas : (s.modNvm f).meas = s.meas := rfl
@[simp] theorem modNvm_cmp : (s.modNvm f).cmp = s.cmp := rfl
@[simp] theorem modNvm_seq : (s.modNvm f).seq = s.seq := rfl
@[simp] theorem modNvm_react : (s.modNvm f).react = s.react := rfl
@[simp] theorem modNvm_mrg : (s.modNvm f).mrg = s.mrg := rfl
@[simp] theorem modNvm_nvm : (s.modNvm f).nvm = f s.nvm := rfl
@[simp] theorem modNvm_ridge : (s.modNvm f).ridge = s.ridge := rfl
@[simp] theorem modNvm_sched : (s.modNvm f).sched = s.sched := rfl
@[simp] theorem modNvm_pair : (s.modNvm f).pair = s.pair := rfl
@[simp] theorem modNvm_unit : (s.modNvm f).unit = s.unit := rfl
@[simp] theorem modNvm_chain : (s.modNvm f).chain = s.chain := rfl
@[simp] theorem modNvm_hif : (s.modNvm f).hif = s.hif := rfl
@[simp] theorem modNvm_wdt : (s.modNvm f).wdt = s.wdt := rfl
@[simp] theorem modNvm_svc : (s.modNvm f).svc = s.svc := rfl

end

/-! ### modRidge -/

section

variable (f : Ridge → Ridge)

@[simp] theorem modRidge_pending : (s.modRidge f).pending = s.pending := rfl
@[simp] theorem modRidge_ticks : (s.modRidge f).ticks = s.ticks := rfl
@[simp] theorem modRidge_free : (s.modRidge f).free = s.free := rfl
@[simp] theorem modRidge_role : (s.modRidge f).role = s.role := rfl
@[simp] theorem modRidge_boot : (s.modRidge f).boot = s.boot := rfl
@[simp] theorem modRidge_clk : (s.modRidge f).clk = s.clk := rfl
@[simp] theorem modRidge_tb : (s.modRidge f).tb = s.tb := rfl
@[simp] theorem modRidge_supply : (s.modRidge f).supply = s.supply := rfl
@[simp] theorem modRidge_pwr : (s.modRidge f).pwr = s.pwr := rfl
@[simp] theorem modRidge_pins : (s.modRidge f).pins = s.pins := rfl
@[simp] theorem modRidge_rst : (s.modRidge f).rst = s.rst := rfl
@[simp] theorem modRidge_regs : (s.modRidge f).regs = s.regs := rfl
@[simp] theorem modRidge_live : (s.modRidge f).live = s.live := rfl
@[simp] theorem modRidge_liveImg : (s.modRidge f).liveImg = s.liveImg := rfl
@[simp] theorem modRidge_img : (s.modRidge f).img = s.img := rfl
@[simp] theorem modRidge_fab : (s.modRidge f).fab = s.fab := rfl
@[simp] theorem modRidge_meas : (s.modRidge f).meas = s.meas := rfl
@[simp] theorem modRidge_cmp : (s.modRidge f).cmp = s.cmp := rfl
@[simp] theorem modRidge_seq : (s.modRidge f).seq = s.seq := rfl
@[simp] theorem modRidge_react : (s.modRidge f).react = s.react := rfl
@[simp] theorem modRidge_mrg : (s.modRidge f).mrg = s.mrg := rfl
@[simp] theorem modRidge_nvm : (s.modRidge f).nvm = s.nvm := rfl
@[simp] theorem modRidge_ridge : (s.modRidge f).ridge = f s.ridge := rfl
@[simp] theorem modRidge_sched : (s.modRidge f).sched = s.sched := rfl
@[simp] theorem modRidge_pair : (s.modRidge f).pair = s.pair := rfl
@[simp] theorem modRidge_unit : (s.modRidge f).unit = s.unit := rfl
@[simp] theorem modRidge_chain : (s.modRidge f).chain = s.chain := rfl
@[simp] theorem modRidge_hif : (s.modRidge f).hif = s.hif := rfl
@[simp] theorem modRidge_wdt : (s.modRidge f).wdt = s.wdt := rfl
@[simp] theorem modRidge_svc : (s.modRidge f).svc = s.svc := rfl

end

/-! ### modSched -/

section

variable (f : Sched → Sched)

@[simp] theorem modSched_pending : (s.modSched f).pending = s.pending := rfl
@[simp] theorem modSched_ticks : (s.modSched f).ticks = s.ticks := rfl
@[simp] theorem modSched_free : (s.modSched f).free = s.free := rfl
@[simp] theorem modSched_role : (s.modSched f).role = s.role := rfl
@[simp] theorem modSched_boot : (s.modSched f).boot = s.boot := rfl
@[simp] theorem modSched_clk : (s.modSched f).clk = s.clk := rfl
@[simp] theorem modSched_tb : (s.modSched f).tb = s.tb := rfl
@[simp] theorem modSched_supply : (s.modSched f).supply = s.supply := rfl
@[simp] theorem modSched_pwr : (s.modSched f).pwr = s.pwr := rfl
@[simp] theorem modSched_pins : (s.modSched f).pins = s.pins := rfl
@[simp] theorem modSched_rst : (s.modSched f).rst = s.rst := rfl
@[simp] theorem modSched_regs : (s.modSched f).regs = s.regs := rfl
@[simp] theorem modSched_live : (s.modSched f).live = s.live := rfl
@[simp] theorem modSched_liveImg : (s.modSched f).liveImg = s.liveImg := rfl
@[simp] theorem modSched_img : (s.modSched f).img = s.img := rfl
@[simp] theorem modSched_fab : (s.modSched f).fab = s.fab := rfl
@[simp] theorem modSched_meas : (s.modSched f).meas = s.meas := rfl
@[simp] theorem modSched_cmp : (s.modSched f).cmp = s.cmp := rfl
@[simp] theorem modSched_seq : (s.modSched f).seq = s.seq := rfl
@[simp] theorem modSched_react : (s.modSched f).react = s.react := rfl
@[simp] theorem modSched_mrg : (s.modSched f).mrg = s.mrg := rfl
@[simp] theorem modSched_nvm : (s.modSched f).nvm = s.nvm := rfl
@[simp] theorem modSched_ridge : (s.modSched f).ridge = s.ridge := rfl
@[simp] theorem modSched_sched : (s.modSched f).sched = f s.sched := rfl
@[simp] theorem modSched_pair : (s.modSched f).pair = s.pair := rfl
@[simp] theorem modSched_unit : (s.modSched f).unit = s.unit := rfl
@[simp] theorem modSched_chain : (s.modSched f).chain = s.chain := rfl
@[simp] theorem modSched_hif : (s.modSched f).hif = s.hif := rfl
@[simp] theorem modSched_wdt : (s.modSched f).wdt = s.wdt := rfl
@[simp] theorem modSched_svc : (s.modSched f).svc = s.svc := rfl

end

/-! ### modPair -/

section

variable (f : Pair → Pair)

@[simp] theorem modPair_pending : (s.modPair f).pending = s.pending := rfl
@[simp] theorem modPair_ticks : (s.modPair f).ticks = s.ticks := rfl
@[simp] theorem modPair_free : (s.modPair f).free = s.free := rfl
@[simp] theorem modPair_role : (s.modPair f).role = s.role := rfl
@[simp] theorem modPair_boot : (s.modPair f).boot = s.boot := rfl
@[simp] theorem modPair_clk : (s.modPair f).clk = s.clk := rfl
@[simp] theorem modPair_tb : (s.modPair f).tb = s.tb := rfl
@[simp] theorem modPair_supply : (s.modPair f).supply = s.supply := rfl
@[simp] theorem modPair_pwr : (s.modPair f).pwr = s.pwr := rfl
@[simp] theorem modPair_pins : (s.modPair f).pins = s.pins := rfl
@[simp] theorem modPair_rst : (s.modPair f).rst = s.rst := rfl
@[simp] theorem modPair_regs : (s.modPair f).regs = s.regs := rfl
@[simp] theorem modPair_live : (s.modPair f).live = s.live := rfl
@[simp] theorem modPair_liveImg : (s.modPair f).liveImg = s.liveImg := rfl
@[simp] theorem modPair_img : (s.modPair f).img = s.img := rfl
@[simp] theorem modPair_fab : (s.modPair f).fab = s.fab := rfl
@[simp] theorem modPair_meas : (s.modPair f).meas = s.meas := rfl
@[simp] theorem modPair_cmp : (s.modPair f).cmp = s.cmp := rfl
@[simp] theorem modPair_seq : (s.modPair f).seq = s.seq := rfl
@[simp] theorem modPair_react : (s.modPair f).react = s.react := rfl
@[simp] theorem modPair_mrg : (s.modPair f).mrg = s.mrg := rfl
@[simp] theorem modPair_nvm : (s.modPair f).nvm = s.nvm := rfl
@[simp] theorem modPair_ridge : (s.modPair f).ridge = s.ridge := rfl
@[simp] theorem modPair_sched : (s.modPair f).sched = s.sched := rfl
@[simp] theorem modPair_pair : (s.modPair f).pair = f s.pair := rfl
@[simp] theorem modPair_unit : (s.modPair f).unit = s.unit := rfl
@[simp] theorem modPair_chain : (s.modPair f).chain = s.chain := rfl
@[simp] theorem modPair_hif : (s.modPair f).hif = s.hif := rfl
@[simp] theorem modPair_wdt : (s.modPair f).wdt = s.wdt := rfl
@[simp] theorem modPair_svc : (s.modPair f).svc = s.svc := rfl

end

/-! ### modUnit -/

section

variable (f : Unit_ → Unit_)

@[simp] theorem modUnit_pending : (s.modUnit f).pending = s.pending := rfl
@[simp] theorem modUnit_ticks : (s.modUnit f).ticks = s.ticks := rfl
@[simp] theorem modUnit_free : (s.modUnit f).free = s.free := rfl
@[simp] theorem modUnit_role : (s.modUnit f).role = s.role := rfl
@[simp] theorem modUnit_boot : (s.modUnit f).boot = s.boot := rfl
@[simp] theorem modUnit_clk : (s.modUnit f).clk = s.clk := rfl
@[simp] theorem modUnit_tb : (s.modUnit f).tb = s.tb := rfl
@[simp] theorem modUnit_supply : (s.modUnit f).supply = s.supply := rfl
@[simp] theorem modUnit_pwr : (s.modUnit f).pwr = s.pwr := rfl
@[simp] theorem modUnit_pins : (s.modUnit f).pins = s.pins := rfl
@[simp] theorem modUnit_rst : (s.modUnit f).rst = s.rst := rfl
@[simp] theorem modUnit_regs : (s.modUnit f).regs = s.regs := rfl
@[simp] theorem modUnit_live : (s.modUnit f).live = s.live := rfl
@[simp] theorem modUnit_liveImg : (s.modUnit f).liveImg = s.liveImg := rfl
@[simp] theorem modUnit_img : (s.modUnit f).img = s.img := rfl
@[simp] theorem modUnit_fab : (s.modUnit f).fab = s.fab := rfl
@[simp] theorem modUnit_meas : (s.modUnit f).meas = s.meas := rfl
@[simp] theorem modUnit_cmp : (s.modUnit f).cmp = s.cmp := rfl
@[simp] theorem modUnit_seq : (s.modUnit f).seq = s.seq := rfl
@[simp] theorem modUnit_react : (s.modUnit f).react = s.react := rfl
@[simp] theorem modUnit_mrg : (s.modUnit f).mrg = s.mrg := rfl
@[simp] theorem modUnit_nvm : (s.modUnit f).nvm = s.nvm := rfl
@[simp] theorem modUnit_ridge : (s.modUnit f).ridge = s.ridge := rfl
@[simp] theorem modUnit_sched : (s.modUnit f).sched = s.sched := rfl
@[simp] theorem modUnit_pair : (s.modUnit f).pair = s.pair := rfl
@[simp] theorem modUnit_unit : (s.modUnit f).unit = f s.unit := rfl
@[simp] theorem modUnit_chain : (s.modUnit f).chain = s.chain := rfl
@[simp] theorem modUnit_hif : (s.modUnit f).hif = s.hif := rfl
@[simp] theorem modUnit_wdt : (s.modUnit f).wdt = s.wdt := rfl
@[simp] theorem modUnit_svc : (s.modUnit f).svc = s.svc := rfl

end

/-! ### modChain -/

section

variable (f : Chain → Chain)

@[simp] theorem modChain_pending : (s.modChain f).pending = s.pending := rfl
@[simp] theorem modChain_ticks : (s.modChain f).ticks = s.ticks := rfl
@[simp] theorem modChain_free : (s.modChain f).free = s.free := rfl
@[simp] theorem modChain_role : (s.modChain f).role = s.role := rfl
@[simp] theorem modChain_boot : (s.modChain f).boot = s.boot := rfl
@[simp] theorem modChain_clk : (s.modChain f).clk = s.clk := rfl
@[simp] theorem modChain_tb : (s.modChain f).tb = s.tb := rfl
@[simp] theorem modChain_supply : (s.modChain f).supply = s.supply := rfl
@[simp] theorem modChain_pwr : (s.modChain f).pwr = s.pwr := rfl
@[simp] theorem modChain_pins : (s.modChain f).pins = s.pins := rfl
@[simp] theorem modChain_rst : (s.modChain f).rst = s.rst := rfl
@[simp] theorem modChain_regs : (s.modChain f).regs = s.regs := rfl
@[simp] theorem modChain_live : (s.modChain f).live = s.live := rfl
@[simp] theorem modChain_liveImg : (s.modChain f).liveImg = s.liveImg := rfl
@[simp] theorem modChain_img : (s.modChain f).img = s.img := rfl
@[simp] theorem modChain_fab : (s.modChain f).fab = s.fab := rfl
@[simp] theorem modChain_meas : (s.modChain f).meas = s.meas := rfl
@[simp] theorem modChain_cmp : (s.modChain f).cmp = s.cmp := rfl
@[simp] theorem modChain_seq : (s.modChain f).seq = s.seq := rfl
@[simp] theorem modChain_react : (s.modChain f).react = s.react := rfl
@[simp] theorem modChain_mrg : (s.modChain f).mrg = s.mrg := rfl
@[simp] theorem modChain_nvm : (s.modChain f).nvm = s.nvm := rfl
@[simp] theorem modChain_ridge : (s.modChain f).ridge = s.ridge := rfl
@[simp] theorem modChain_sched : (s.modChain f).sched = s.sched := rfl
@[simp] theorem modChain_pair : (s.modChain f).pair = s.pair := rfl
@[simp] theorem modChain_unit : (s.modChain f).unit = s.unit := rfl
@[simp] theorem modChain_chain : (s.modChain f).chain = f s.chain := rfl
@[simp] theorem modChain_hif : (s.modChain f).hif = s.hif := rfl
@[simp] theorem modChain_wdt : (s.modChain f).wdt = s.wdt := rfl
@[simp] theorem modChain_svc : (s.modChain f).svc = s.svc := rfl

end

/-! ### modHif -/

section

variable (f : Hif → Hif)

@[simp] theorem modHif_pending : (s.modHif f).pending = s.pending := rfl
@[simp] theorem modHif_ticks : (s.modHif f).ticks = s.ticks := rfl
@[simp] theorem modHif_free : (s.modHif f).free = s.free := rfl
@[simp] theorem modHif_role : (s.modHif f).role = s.role := rfl
@[simp] theorem modHif_boot : (s.modHif f).boot = s.boot := rfl
@[simp] theorem modHif_clk : (s.modHif f).clk = s.clk := rfl
@[simp] theorem modHif_tb : (s.modHif f).tb = s.tb := rfl
@[simp] theorem modHif_supply : (s.modHif f).supply = s.supply := rfl
@[simp] theorem modHif_pwr : (s.modHif f).pwr = s.pwr := rfl
@[simp] theorem modHif_pins : (s.modHif f).pins = s.pins := rfl
@[simp] theorem modHif_rst : (s.modHif f).rst = s.rst := rfl
@[simp] theorem modHif_regs : (s.modHif f).regs = s.regs := rfl
@[simp] theorem modHif_live : (s.modHif f).live = s.live := rfl
@[simp] theorem modHif_liveImg : (s.modHif f).liveImg = s.liveImg := rfl
@[simp] theorem modHif_img : (s.modHif f).img = s.img := rfl
@[simp] theorem modHif_fab : (s.modHif f).fab = s.fab := rfl
@[simp] theorem modHif_meas : (s.modHif f).meas = s.meas := rfl
@[simp] theorem modHif_cmp : (s.modHif f).cmp = s.cmp := rfl
@[simp] theorem modHif_seq : (s.modHif f).seq = s.seq := rfl
@[simp] theorem modHif_react : (s.modHif f).react = s.react := rfl
@[simp] theorem modHif_mrg : (s.modHif f).mrg = s.mrg := rfl
@[simp] theorem modHif_nvm : (s.modHif f).nvm = s.nvm := rfl
@[simp] theorem modHif_ridge : (s.modHif f).ridge = s.ridge := rfl
@[simp] theorem modHif_sched : (s.modHif f).sched = s.sched := rfl
@[simp] theorem modHif_pair : (s.modHif f).pair = s.pair := rfl
@[simp] theorem modHif_unit : (s.modHif f).unit = s.unit := rfl
@[simp] theorem modHif_chain : (s.modHif f).chain = s.chain := rfl
@[simp] theorem modHif_hif : (s.modHif f).hif = f s.hif := rfl
@[simp] theorem modHif_wdt : (s.modHif f).wdt = s.wdt := rfl
@[simp] theorem modHif_svc : (s.modHif f).svc = s.svc := rfl

end

/-! ### modWdt -/

section

variable (f : Wdt → Wdt)

@[simp] theorem modWdt_pending : (s.modWdt f).pending = s.pending := rfl
@[simp] theorem modWdt_ticks : (s.modWdt f).ticks = s.ticks := rfl
@[simp] theorem modWdt_free : (s.modWdt f).free = s.free := rfl
@[simp] theorem modWdt_role : (s.modWdt f).role = s.role := rfl
@[simp] theorem modWdt_boot : (s.modWdt f).boot = s.boot := rfl
@[simp] theorem modWdt_clk : (s.modWdt f).clk = s.clk := rfl
@[simp] theorem modWdt_tb : (s.modWdt f).tb = s.tb := rfl
@[simp] theorem modWdt_supply : (s.modWdt f).supply = s.supply := rfl
@[simp] theorem modWdt_pwr : (s.modWdt f).pwr = s.pwr := rfl
@[simp] theorem modWdt_pins : (s.modWdt f).pins = s.pins := rfl
@[simp] theorem modWdt_rst : (s.modWdt f).rst = s.rst := rfl
@[simp] theorem modWdt_regs : (s.modWdt f).regs = s.regs := rfl
@[simp] theorem modWdt_live : (s.modWdt f).live = s.live := rfl
@[simp] theorem modWdt_liveImg : (s.modWdt f).liveImg = s.liveImg := rfl
@[simp] theorem modWdt_img : (s.modWdt f).img = s.img := rfl
@[simp] theorem modWdt_fab : (s.modWdt f).fab = s.fab := rfl
@[simp] theorem modWdt_meas : (s.modWdt f).meas = s.meas := rfl
@[simp] theorem modWdt_cmp : (s.modWdt f).cmp = s.cmp := rfl
@[simp] theorem modWdt_seq : (s.modWdt f).seq = s.seq := rfl
@[simp] theorem modWdt_react : (s.modWdt f).react = s.react := rfl
@[simp] theorem modWdt_mrg : (s.modWdt f).mrg = s.mrg := rfl
@[simp] theorem modWdt_nvm : (s.modWdt f).nvm = s.nvm := rfl
@[simp] theorem modWdt_ridge : (s.modWdt f).ridge = s.ridge := rfl
@[simp] theorem modWdt_sched : (s.modWdt f).sched = s.sched := rfl
@[simp] theorem modWdt_pair : (s.modWdt f).pair = s.pair := rfl
@[simp] theorem modWdt_unit : (s.modWdt f).unit = s.unit := rfl
@[simp] theorem modWdt_chain : (s.modWdt f).chain = s.chain := rfl
@[simp] theorem modWdt_hif : (s.modWdt f).hif = s.hif := rfl
@[simp] theorem modWdt_wdt : (s.modWdt f).wdt = f s.wdt := rfl
@[simp] theorem modWdt_svc : (s.modWdt f).svc = s.svc := rfl

end

/-! ### modSvc -/

section

variable (f : Svc → Svc)

@[simp] theorem modSvc_pending : (s.modSvc f).pending = s.pending := rfl
@[simp] theorem modSvc_ticks : (s.modSvc f).ticks = s.ticks := rfl
@[simp] theorem modSvc_free : (s.modSvc f).free = s.free := rfl
@[simp] theorem modSvc_role : (s.modSvc f).role = s.role := rfl
@[simp] theorem modSvc_boot : (s.modSvc f).boot = s.boot := rfl
@[simp] theorem modSvc_clk : (s.modSvc f).clk = s.clk := rfl
@[simp] theorem modSvc_tb : (s.modSvc f).tb = s.tb := rfl
@[simp] theorem modSvc_supply : (s.modSvc f).supply = s.supply := rfl
@[simp] theorem modSvc_pwr : (s.modSvc f).pwr = s.pwr := rfl
@[simp] theorem modSvc_pins : (s.modSvc f).pins = s.pins := rfl
@[simp] theorem modSvc_rst : (s.modSvc f).rst = s.rst := rfl
@[simp] theorem modSvc_regs : (s.modSvc f).regs = s.regs := rfl
@[simp] theorem modSvc_live : (s.modSvc f).live = s.live := rfl
@[simp] theorem modSvc_liveImg : (s.modSvc f).liveImg = s.liveImg := rfl
@[simp] theorem modSvc_img : (s.modSvc f).img = s.img := rfl
@[simp] theorem modSvc_fab : (s.modSvc f).fab = s.fab := rfl
@[simp] theorem modSvc_meas : (s.modSvc f).meas = s.meas := rfl
@[simp] theorem modSvc_cmp : (s.modSvc f).cmp = s.cmp := rfl
@[simp] theorem modSvc_seq : (s.modSvc f).seq = s.seq := rfl
@[simp] theorem modSvc_react : (s.modSvc f).react = s.react := rfl
@[simp] theorem modSvc_mrg : (s.modSvc f).mrg = s.mrg := rfl
@[simp] theorem modSvc_nvm : (s.modSvc f).nvm = s.nvm := rfl
@[simp] theorem modSvc_ridge : (s.modSvc f).ridge = s.ridge := rfl
@[simp] theorem modSvc_sched : (s.modSvc f).sched = s.sched := rfl
@[simp] theorem modSvc_pair : (s.modSvc f).pair = s.pair := rfl
@[simp] theorem modSvc_unit : (s.modSvc f).unit = s.unit := rfl
@[simp] theorem modSvc_chain : (s.modSvc f).chain = s.chain := rfl
@[simp] theorem modSvc_hif : (s.modSvc f).hif = s.hif := rfl
@[simp] theorem modSvc_wdt : (s.modSvc f).wdt = s.wdt := rfl
@[simp] theorem modSvc_svc : (s.modSvc f).svc = f s.svc := rfl

end

/-! ### The register file -/

@[simp] theorem setReg_pending : (s.setReg a v).pending = s.pending := rfl
@[simp] theorem setReg_ticks : (s.setReg a v).ticks = s.ticks := rfl
@[simp] theorem setReg_free : (s.setReg a v).free = s.free := rfl
@[simp] theorem setReg_role : (s.setReg a v).role = s.role := rfl
@[simp] theorem setReg_boot : (s.setReg a v).boot = s.boot := rfl
@[simp] theorem setReg_clk : (s.setReg a v).clk = s.clk := rfl
@[simp] theorem setReg_tb : (s.setReg a v).tb = s.tb := rfl
@[simp] theorem setReg_supply : (s.setReg a v).supply = s.supply := rfl
@[simp] theorem setReg_pwr : (s.setReg a v).pwr = s.pwr := rfl
@[simp] theorem setReg_pins : (s.setReg a v).pins = s.pins := rfl
@[simp] theorem setReg_rst : (s.setReg a v).rst = s.rst := rfl
@[simp] theorem setReg_live : (s.setReg a v).live = s.live := rfl
@[simp] theorem setReg_liveImg : (s.setReg a v).liveImg = s.liveImg := rfl
@[simp] theorem setReg_img : (s.setReg a v).img = s.img := rfl
@[simp] theorem setReg_fab : (s.setReg a v).fab = s.fab := rfl
@[simp] theorem setReg_meas : (s.setReg a v).meas = s.meas := rfl
@[simp] theorem setReg_cmp : (s.setReg a v).cmp = s.cmp := rfl
@[simp] theorem setReg_seq : (s.setReg a v).seq = s.seq := rfl
@[simp] theorem setReg_react : (s.setReg a v).react = s.react := rfl
@[simp] theorem setReg_mrg : (s.setReg a v).mrg = s.mrg := rfl
@[simp] theorem setReg_nvm : (s.setReg a v).nvm = s.nvm := rfl
@[simp] theorem setReg_ridge : (s.setReg a v).ridge = s.ridge := rfl
@[simp] theorem setReg_sched : (s.setReg a v).sched = s.sched := rfl
@[simp] theorem setReg_pair : (s.setReg a v).pair = s.pair := rfl
@[simp] theorem setReg_unit : (s.setReg a v).unit = s.unit := rfl
@[simp] theorem setReg_chain : (s.setReg a v).chain = s.chain := rfl
@[simp] theorem setReg_hif : (s.setReg a v).hif = s.hif := rfl
@[simp] theorem setReg_wdt : (s.setReg a v).wdt = s.wdt := rfl
@[simp] theorem setReg_svc : (s.setReg a v).svc = s.svc := rfl

end Sys2Proof.Machine.State
end

