-- ==== Sys2Proof/Laws/Store.lean ====
section
/-! SUPPORT. Laws of the canonical stores, and of the register file and MRAM kept in them: a read after a write, and the form
that every write keeps. -/

namespace Sys2Proof.Machine

variable {d : Nat → Word} {m : List (Nat × Word)} {a b : Nat} {v : Word}

theorem Store.read_insert : Store.read d (Store.insert m a v) b = if a = b then v else Store.read d m b := by
  induction m with
  | nil => simp [Store.insert, Store.read]
  | cons e t ih =>
    obtain ⟨k, w⟩ := e
    simp only [Store.insert]
    split
    · simp [Store.read]
    · split
      · subst a; by_cases h : k = b <;> simp [Store.read, h]
      · rename_i h; simp only [Store.read, ih]
        by_cases hk : k = b
        · subst hk; simp [h]
        · simp [hk]

theorem Store.read_erase_ne (h : a ≠ b) : Store.read d (Store.erase m a) b = Store.read d m b := by
  induction m with
  | nil => rfl
  | cons e t ih =>
    obtain ⟨k, w⟩ := e
    simp only [Store.erase]
    split
    · subst k; simp [Store.read, h]
    · simp [Store.read, ih]

theorem Store.read_of_lt (h : m.all (fun e => decide (a < e.1)) = true) : Store.read d m a = d a := by
  induction m with
  | nil => rfl
  | cons e t ih =>
    obtain ⟨k, w⟩ := e
    simp only [List.all_cons, Bool.and_eq_true, decide_eq_true_eq] at h
    simp [Store.read, ih h.2, Nat.ne_of_gt h.1]

theorem Store.read_erase_same (h : Store.wf d m = true) : Store.read d (Store.erase m a) a = d a := by
  induction m with
  | nil => rfl
  | cons e t ih =>
    obtain ⟨k, w⟩ := e
    simp only [Store.wf, Bool.and_eq_true] at h
    simp only [Store.erase]
    split
    · subst k; exact Store.read_of_lt h.1.2
    · rename_i hk; simp [Store.read, hk, ih h.2]

/-- A read after a write of the same address. -/
theorem Store.read_write_same (h : Store.wf d m = true) : Store.read d (Store.write d m a v) a = v := by
  unfold Store.write
  split
  · rename_i hv; rw [Store.read_erase_same h, hv]
  · simp [Store.read_insert]

/-- A write leaves every other address alone. -/
theorem Store.read_write_ne (h : a ≠ b) : Store.read d (Store.write d m a v) b = Store.read d m b := by
  unfold Store.write
  split
  · exact Store.read_erase_ne h
  · simp [Store.read_insert, h]

theorem Store.erase_all (P : Nat × Word → Bool) (h : m.all P = true) : (Store.erase m a).all P = true := by
  induction m with
  | nil => rfl
  | cons e t ih =>
    obtain ⟨k, w⟩ := e
    simp only [List.all_cons, Bool.and_eq_true] at h
    simp only [Store.erase]
    split
    · exact h.2
    · simp [h.1, ih h.2]

theorem Store.insert_all (P : Nat × Word → Bool) (h : m.all P = true) (hv : P (a, v) = true) :
    (Store.insert m a v).all P = true := by
  induction m with
  | nil => simp [Store.insert, hv]
  | cons e t ih =>
    obtain ⟨k, w⟩ := e
    simp only [List.all_cons, Bool.and_eq_true] at h
    simp only [Store.insert]
    split
    · simp [h.1, h.2, hv]
    · split
      · simp [h.2, hv]
      · simp [h.1, ih h.2]

theorem Store.wf_erase (h : Store.wf d m = true) : Store.wf d (Store.erase m a) = true := by
  induction m with
  | nil => rfl
  | cons e t ih =>
    obtain ⟨k, w⟩ := e
    simp only [Store.wf, Bool.and_eq_true] at h
    simp only [Store.erase]
    split
    · exact h.2
    · simp only [Store.wf, Bool.and_eq_true]
      exact ⟨⟨h.1.1, Store.erase_all _ h.1.2⟩, ih h.2⟩

theorem Store.wf_insert (h : Store.wf d m = true) (hv : v ≠ d a) : Store.wf d (Store.insert m a v) = true := by
  induction m with
  | nil => simp [Store.insert, Store.wf, hv]
  | cons e t ih =>
    obtain ⟨k, w⟩ := e
    have h0 := h
    simp only [Store.wf, Bool.and_eq_true, decide_eq_true_eq] at h
    simp only [Store.insert]
    split
    · rename_i hk
      simp only [Store.wf, List.all_cons, Bool.and_eq_true, decide_eq_true_eq]
      refine ⟨⟨hv, hk, ?_⟩, h⟩
      rw [List.all_eq_true]
      intro e he
      have := (List.all_eq_true.mp h.1.2) e he
      simp only [decide_eq_true_eq] at *
      omega
    · split
      · subst k
        simp only [Store.wf, Bool.and_eq_true, decide_eq_true_eq]
        exact ⟨⟨hv, h.1.2⟩, h.2⟩
      · rename_i h1 h2
        simp only [Store.wf, Bool.and_eq_true, decide_eq_true_eq]
        exact ⟨⟨h.1.1, Store.insert_all _ h.1.2 (by simp only [decide_eq_true_eq]; omega)⟩, ih h.2⟩

/-- A write keeps the canonical form. -/
theorem Store.wf_write (h : Store.wf d m = true) : Store.wf d (Store.write d m a v) = true := by
  unfold Store.write
  split
  · exact Store.wf_erase h
  · exact Store.wf_insert h ‹_›

/-- Dropping entries keeps the canonical form. -/
theorem Store.wf_filter (p : Nat × Word → Bool) (h : Store.wf d m = true) : Store.wf d (m.filter p) = true := by
  induction m with
  | nil => rfl
  | cons e t ih =>
    obtain ⟨k, w⟩ := e
    simp only [Store.wf, Bool.and_eq_true] at h
    by_cases hp : p (k, w) = true
    · rw [List.filter_cons_of_pos hp]
      simp only [Store.wf, Bool.and_eq_true]
      refine ⟨⟨h.1.1, ?_⟩, ih h.2⟩
      rw [List.all_eq_true] at *
      exact fun x hx => h.1.2 x (List.mem_of_mem_filter hx)
    · rw [List.filter_cons_of_neg hp]; exact ih h.2

/-- Writing one pair after another keeps the canonical form. -/
theorem Store.wf_foldl_write (l : List (Nat × Word)) (h : Store.wf d m = true) :
    Store.wf d (l.foldl (fun m e => Store.write d m e.1 e.2) m) = true := by
  induction l generalizing m with
  | nil => exact h
  | cons e t ih => exact ih (Store.wf_write h)

variable (s : State)

theorem State.reg_setReg_same (h : Store.wf regDflt s.regs = true) : (s.setReg a v).reg a = v := Store.read_write_same h

theorem State.reg_setReg_ne (h : a ≠ b) : (s.setReg a v).reg b = s.reg b := Store.read_write_ne h

theorem State.wf_setReg (h : Store.wf regDflt s.regs = true) : Store.wf regDflt (s.setReg a v).regs = true := Store.wf_write h

@[simp] theorem State.mwrite_mram : (s.mwrite a v).nvm.mram = Store.write mramDflt s.nvm.mram a v := rfl

@[simp] theorem State.mwrite_regs : (s.mwrite a v).regs = s.regs := rfl

theorem State.mread_mwrite_same (h : Store.wf mramDflt s.nvm.mram = true) : (s.mwrite a v).mread a = v :=
  Store.read_write_same h

theorem State.mread_mwrite_ne (h : a ≠ b) : (s.mwrite a v).mread b = s.mread b := Store.read_write_ne h

theorem State.wf_mwrite (h : Store.wf mramDflt s.nvm.mram = true) :
    Store.wf mramDflt (s.mwrite a v).nvm.mram = true := Store.wf_write h

end Sys2Proof.Machine
end

