-- ==== Sys2Proof/Laws/Access.lean ====
section
/-! SUPPORT. What one register access does: a write that arrives acts by the access code of its register, and the codes of
the registers with a command of their own. -/

namespace Sys2Proof.Machine

variable {s : State} {p : Port} {a : Nat} {v : Word} {r : RegRow}

/-- The row a path reaches is the register's own. -/
theorem State.reach_row (h : s.reach p a = some r) : regRow? a = some r := by
  have hp : ∀ r, s.present a = some r → regRow? a = some r := by
    intro r h
    unfold State.present at h
    split at h
    · cases h
    · rename_i q hq
      rw [hq]
      split at h
      · cases h
      · split at h
        · split at h <;> simp_all
        · split at h <;> simp_all
  unfold State.reach at h
  cases p <;> simp only at h <;> split at h <;> first | exact h | exact hp _ h | cases h | skip
  split at h
  · cases h
  · exact hp _ h

/-- A write that arrives acts by the access code. -/
theorem State.access_of_reaches (h : Reaches s p a) (hr : regRow? a = some r) :
    s.access p a v = match r.acc with
      | .ro | .rc => s
      | .live => s.liveWrite a v
      | .rw => (s.rwWrite p a v).getD (s.setReg (s.keyOf p a) (v &&& w32 r.mask))
      | .w1c => s.w1cWrite r a v
      | .wo => s.cmdWrite p a v
      | .mix => s.mixWrite p a v := by
  obtain ⟨h1, h2, h3, h4, h5⟩ := h
  have hr' : s.reach p a = some r := by
    cases hq : s.reach p a with
    | none => simp [hq] at h5
    | some q => rw [← hr, State.reach_row hq]
  have g1 : (decide (p = .svc) && decide (s.svcWriteStatus a ≠ 0)) = false := by
    by_cases hp : p = .svc
    · simp [h2 hp]
    · simp [hp]
  have g2 : (decide (p = .host) && s.hostIgnored a) = false := by
    by_cases hp : p = .host
    · simp [h3 hp]
    · simp [hp]
  unfold State.access
  rw [h1, g1]
  simp only [Bool.not_true, Bool.or_self, Bool.false_eq_true, ↓reduceIte]
  unfold State.portWrite
  rw [g2, h4, hr']
  simp only [Bool.or_self, Bool.false_eq_true, ↓reduceIte]
  all_goals rfl

/-- Code of a register. -/
def accOf (a : Nat) : Option Acc := (regRow? a).map RegRow.acc

/-- A write that arrives at a command register acts by the command register's rule. -/
theorem State.access_wo (h : Reaches s p a) (hr : accOf a = some .wo) : s.access p a v = s.cmdWrite p a v := by
  obtain ⟨r, h1, h2⟩ := Option.map_eq_some_iff.mp hr
  rw [State.access_of_reaches h h1, h2]

/-- A write that arrives at a LIVE register. -/
theorem State.access_live (h : Reaches s p a) (hr : accOf a = some .live) : s.access p a v = s.liveWrite a v := by
  obtain ⟨r, h1, h2⟩ := Option.map_eq_some_iff.mp hr
  rw [State.access_of_reaches h h1, h2]

/-- A write that arrives at a register of mixed access. -/
theorem State.access_mix (h : Reaches s p a) (hr : accOf a = some .mix) : s.access p a v = s.mixWrite p a v := by
  obtain ⟨r, h1, h2⟩ := Option.map_eq_some_iff.mp hr
  rw [State.access_of_reaches h h1, h2]

/-- A write that arrives at a read-only register, or one that a read clears, changes nothing. -/
theorem State.access_ro (h : Reaches s p a) (hr : accOf a = some .ro ∨ accOf a = some .rc) : s.access p a v = s := by
  rcases hr with hr | hr <;>
  · obtain ⟨r, h1, h2⟩ := Option.map_eq_some_iff.mp hr
    rw [State.access_of_reaches h h1, h2]

/-- A write that arrives at a RW register with an effect of its own. -/
theorem State.access_rw {t : State} (h : Reaches s p a) (hr : accOf a = some .rw) (ht : s.rwWrite p a v = some t) :
    s.access p a v = t := by
  obtain ⟨r, h1, h2⟩ := Option.map_eq_some_iff.mp hr
  rw [State.access_of_reaches h h1, h2]
  simp [ht]

/-- A write that arrives at a W1C register. -/
theorem State.access_w1c (h : Reaches s p a) (h1 : regRow? a = some r) (h2 : r.acc = .w1c) :
    s.access p a v = s.w1cWrite r a v := by
  rw [State.access_of_reaches h h1, h2]

/-! ### Registers with a command of their own -/

@[simp] theorem acc_rstCmd : accOf Reg.rstCmd = some .wo := by rfl
@[simp] theorem acc_rstBlk : accOf Reg.rstBlk = some .wo := by rfl
@[simp] theorem acc_imgCtrl : accOf Reg.imgCtrl = some .wo := by rfl
@[simp] theorem acc_chWetCtrl : accOf Reg.chWetCtrl = some .wo := by rfl
@[simp] theorem acc_resSnapCtrl : accOf Reg.resSnapCtrl = some .wo := by rfl
@[simp] theorem acc_cmpChkCtrl : accOf Reg.cmpChkCtrl = some .wo := by rfl
@[simp] theorem acc_seqCtrl : accOf Reg.seqCtrl = some .wo := by rfl
@[simp] theorem acc_mrgCtrl : accOf Reg.mrgCtrl = some .wo := by rfl
@[simp] theorem acc_logCtrl : accOf Reg.logCtrl = some .wo := by rfl
@[simp] theorem acc_pairCtrl : accOf Reg.pairCtrl = some .wo := by rfl
@[simp] theorem acc_sysWdtKick : accOf Reg.sysWdtKick = some .wo := by rfl
@[simp] theorem acc_stackPortCtrl : accOf Reg.stackPortCtrl = some .wo := by rfl
@[simp] theorem acc_stackPxCtrl : accOf Reg.stackPxCtrl = some .wo := by rfl
@[simp] theorem acc_ridgeHcmd : accOf Reg.ridgeHcmd = some .wo := by rfl
@[simp] theorem acc_ridgePxCtrl : accOf Reg.ridgePxCtrl = some .wo := by rfl
@[simp] theorem acc_ridgeNtCtrl : accOf Reg.ridgeNtCtrl = some .wo := by rfl
@[simp] theorem acc_sysPwr : accOf Reg.sysPwr = some .mix := by rfl
@[simp] theorem acc_resScanCtrl : accOf Reg.resScanCtrl = some .rw := by rfl
@[simp] theorem acc_seqSrcCtrl : accOf Reg.seqSrcCtrl = some .rw := by rfl
@[simp] theorem acc_logAddr : accOf Reg.logAddr = some .rw := by rfl
@[simp] theorem acc_nvmAddr : accOf Reg.nvmAddr = some .rw := by rfl
@[simp] theorem acc_nvmData : accOf Reg.nvmData = some .rw := by rfl
@[simp] theorem acc_cmpFlLat : accOf Reg.cmpFlLat = some .w1c := by rfl
@[simp] theorem acc_cmpFhLat : accOf Reg.cmpFhLat = some .w1c := by rfl
@[simp] theorem acc_schedUs : accOf Reg.schedUs = some .w1c := by rfl

end Sys2Proof.Machine
end

