-- ==== Sys2Proof/Laws/Wire.lean ====
section
/-! SUPPORT. What the bytes on a wire read back as: bodies with their checksum, mirror frames, and the mirror image of a unit
(spec/11_ridge_link.md R360; spec/13_redundant_pair.md R428, R431 to R435; spec/14_stack_role.md R459). -/

namespace Sys2Proof.Machine

/-- A body with its CRC-32 is taken whole. -/
theorem crcBody_withCrc (l : List Byte) : crcBody l.length (withCrc l) = some l := by
  simp [crcBody, withCrc, leBytes]

/-- A mirror frame of a known length is read back from its bytes. -/
theorem mframe_bytes (m : MFrame) (h1 : m.ty < 256) (h2 : m.fseq < 256) (h3 : m.payload.length ≤ 64) : mframe m.bytes = some m := by
  have hl : leAt m.bytes 2 1 = m.payload.length := by
    simp [MFrame.bytes, withCrc, leAt, ofLe, b8]; omega
  have hb := crcBody_withCrc (b8 m.ty :: b8 m.fseq :: b8 m.payload.length :: m.payload)
  unfold mframe
  rw [hl, if_neg (by omega)]
  unfold MFrame.bytes
  simp only [List.length_cons] at hb
  rw [show m.payload.length + 3 = m.payload.length + 1 + 1 + 1 by omega, hb]
  cases m
  simp_all [leAt, ofLe, b8]

/-- The digest behind an epoch number reads back. -/
theorem digest_read (e : Nat) (d : Word) : w32 (leAt (leBytes 2 e ++ leBytes 4 d.toNat) 2 4) = d := by
  have h : List.range 4 = [0, 1, 2, 3] := rfl
  have h2 : List.range 2 = [0, 1] := rfl
  apply BitVec.eq_of_toNat_eq
  simp [leAt, leBytes, ofLe, w32, h, h2, b8]
  omega

/-- The mirror image of a unit does not read the copy it keeps. -/
theorem State.mirrorImage_copy (s : State) (c : List (Nat × Word)) :
    ({ s with pair := { s.pair with copy := c } } : State).mirrorImage = s.mirrorImage := rfl

/-- A store differs nowhere from itself. -/
theorem mirrorDiff_self (l : List (Nat × Word)) : mirrorDiff l l = [] := by simp [mirrorDiff]

/-- A unit whose copy is its image has nothing to record. -/
theorem State.mirrorSync_stream (s : State) (h : s.pair.stream = true) (hc : s.pair.copy = s.mirrorImage) (hd : s.pair.deltas = []) :
    s.mirrorSync.pair.stream = true := by
  unfold State.mirrorSync
  simp [h, ← hc, mirrorDiff_self, hd, State.modPair]

/-- A chain frame's body is taken whole. -/
theorem chainBody_chainFrame (b : List Byte) (h : 6 ≤ b.length) : chainBody (chainFrame b) = some b := by
  have hd : ((chainFrame b).drop 3).dropLast.dropLast = b := by
    have : leBytes 2 (crc16 b) = [b8 (crc16 b / 2 ^ 0), b8 (crc16 b / 2 ^ 8)] := rfl
    simp [chainFrame, linkTx, preamble, this, List.dropLast_append_of_ne_nil]
  simp only [chainBody, hd]
  simp [h]

end Sys2Proof.Machine
end

