-- ==== Sys2Proof/Tests/Slice0.lean ====
section
/-! SUPPORT. Tests: ill-formed commands that `Instr.wf` refuses, states that meet the hypotheses of the statements, and single
steps with results taken from the spec's tables, rules and worked examples. -/

namespace Sys2Proof.Tests
open Sys2Proof Sys2Proof.Machine

set_option Elab.async false

/-! ### States -/

/-- A state with some registers written. -/
def put (s : State) (l : List (Nat × Nat)) : State := l.foldl (fun (t : State) e => t.setReg e.1 (w32 e.2)) s

/-- A start in stage k that began long ago, with the fuse shadow valid. -/
def start (k : Nat) : State :=
  let s := State.reset
  { s with boot := { s.boot with stage := k, stageAt := 0, shadowOk := true } }

/-- A device that runs a role with every path open: powered, started, attached, at FACTORY. -/
def run (r : Role) : State :=
  let s := State.reset
  { s with role := { s.role with role := r, state := .running }, boot := { s.boot with stage := 7, shadowOk := true },
           rst := { s.rst with run := none, domains := 6, hifUp := true, sramOk := true },
           clk := { s.clk with pllFromRc := false, pllLock := true, armed := true }, tb := { s.tb with running := true },
           supply := { s.supply with cpOk := true, vbus := true },
           svc := { s.svc with attached := true, suspended := false, level := .factory, configured := true } }

/-- The same in the sequence state UP. -/
def up (r : Role) : State :=
  let s := run r
  { s with seq := { s.seq with state := .up } }

/-- Rail n with the given fields. -/
def rail (s : State) (n : Nat) (f : Rail → Rail) : State :=
  { s with seq := { s.seq with rails := s.seq.rails.set n (f Rail.init) } }

/-- A due edge of one fabric sink. -/
def edge (s : State) (k : Nat) : State := { s with fab := { s.fab with edges := [[k]] } }

/-- The state a command leaves, where it answers one. -/
def after (c : Instr) (s : State) : State := match exec c s with | .next t => t | .fault _ => s | .refused _ => s

/-- A stack image with three sections, signed under the key of an OPEN device (Tables 5-1 to 5-3): its words from the base of a slot. -/
def imageWords : List Nat :=
  [0x5A574931, 0x10000, 0xE4, 0x5, 0x4, 0x3, 0x77, 0x579C965D,
   0x1, 0x8, 0x10010, 0xAAAAAAA9, 0x755FDE18, 0x2, 0x8, 0x10E00,
   0x3E8, 0xE7F967BE, 0xA, 0xC, 0x22C00, 0x640200, 0x64, 0xC72F1967,
   0x53494730, 0x6F3B538E, 0x467BBFA0, 0x6630BB25, 0x60FB017C, 0xB8F8F97E, 0x5BEF0FA8, 0x70280630,
   0xA3B28731, 0xBD1DEB73, 0x361833E0, 0x839F066D, 0x90F5A6, 0x3336C753, 0x211B04CB, 0x861A5EC5,
   0xB400F4C1, 0xB713D13E, 0x594C3B88, 0x9D373806, 0xDA1CC2B0, 0xD02E7416, 0xBF485025, 0xD3913343] ++
  [0xD121BC74, 0x403CA11, 0x8491985E, 0x7A192968, 0x4718E44, 0x778DBCF, 0x4238028D, 0xFD3EAD2C,
   0x85881BA3]

/-- An AUTH payload for FACTORY under the nonce 0, 1, …, 31 on a device with UID 0 (Tables 16-7, 16-8; R521). -/
def authPayload : List Nat :=
  [0x2, 0x8E, 0x53, 0x3B, 0x6F, 0xA0, 0xBF, 0x7B, 0x46, 0x25, 0xBB, 0x30, 0x66, 0x7C, 0x1, 0xFB,
   0x60, 0x7E, 0xF9, 0xF8, 0xB8, 0xA8, 0xF, 0xEF, 0x5B, 0x30, 0x6, 0x28, 0x70, 0x31, 0x87, 0xB2,
   0xA3, 0x73, 0xEB, 0x1D, 0xBD, 0xE0, 0x33, 0x18, 0x36, 0x6D, 0x6, 0x9F, 0x83, 0xA6, 0xF5, 0x90] ++
  [0x0, 0x53, 0xC7, 0x36, 0x33, 0xCB, 0x4, 0x1B, 0x21, 0xC5, 0x5E, 0x1A, 0x86, 0xC1, 0xF4, 0x0,
   0xB4, 0x3E, 0xD1, 0x13, 0xB7, 0x88, 0x3B, 0x4C, 0x59, 0x6, 0x38, 0x37, 0x9D, 0xB0, 0xC2, 0x1C,
   0xDA, 0x16, 0x74, 0x2E, 0xD0, 0x25, 0x50, 0x48, 0xBF, 0x43, 0x33, 0x91, 0xD3, 0x74, 0xBC, 0x21] ++
  [0xD1, 0xA9, 0x83, 0xC6, 0xB4, 0x9B, 0xF3, 0x70, 0xBC, 0x3B, 0x7D, 0xC1, 0xEC, 0x11, 0x2F, 0x3D,
   0x44, 0xFF, 0xFA, 0xCF, 0x2B, 0x79, 0x56, 0x16, 0x45, 0x74, 0x6B, 0xCC, 0x1B, 0x83, 0x65, 0xA4,
   0x4A, 0x29, 0x1, 0x30, 0x82, 0x1, 0x25, 0x30, 0x81, 0xCC, 0xA0, 0x3, 0x2, 0x1, 0x2, 0x2] ++
  [0x1, 0x5, 0x30, 0xA, 0x6, 0x8, 0x2A, 0x86, 0x48, 0xCE, 0x3D, 0x4, 0x3, 0x2, 0x30, 0xC,
   0x31, 0xA, 0x30, 0x8, 0x6, 0x3, 0x55, 0x4, 0xB, 0xC, 0x1, 0x49, 0x30, 0x1E, 0x17, 0xD,
   0x32, 0x35, 0x30, 0x31, 0x30, 0x31, 0x30, 0x30, 0x30, 0x30, 0x30, 0x30, 0x5A, 0x17, 0xD, 0x33] ++
  [0x35, 0x30, 0x31, 0x30, 0x31, 0x30, 0x30, 0x30, 0x30, 0x30, 0x30, 0x5A, 0x30, 0x1B, 0x31, 0x19,
   0x30, 0x17, 0x6, 0x3, 0x55, 0x4, 0xB, 0xC, 0x10, 0x53, 0x75, 0x69, 0x6E, 0x64, 0x65, 0x6C,
   0x6D, 0x20, 0x46, 0x41, 0x43, 0x54, 0x4F, 0x52, 0x59, 0x30, 0x59, 0x30, 0x13, 0x6, 0x7, 0x2A] ++
  [0x86, 0x48, 0xCE, 0x3D, 0x2, 0x1, 0x6, 0x8, 0x2A, 0x86, 0x48, 0xCE, 0x3D, 0x3, 0x1, 0x7,
   0x3, 0x42, 0x0, 0x4, 0xEA, 0x68, 0xD7, 0xB6, 0xFE, 0xDF, 0xB, 0x71, 0x87, 0x89, 0x38, 0xD5,
   0x1D, 0x71, 0xF8, 0x72, 0x9E, 0xA, 0xCB, 0x8C, 0x2C, 0x6D, 0xF8, 0xB3, 0xD7, 0x9E, 0x8A, 0x4B] ++
  [0x90, 0x94, 0x9E, 0xE0, 0x2A, 0x27, 0x44, 0xC9, 0x72, 0xC9, 0xFC, 0xE7, 0x87, 0x1, 0x4A, 0x96,
   0x4A, 0x8E, 0xA0, 0xC8, 0x4D, 0x71, 0x4F, 0xEA, 0xA4, 0xDE, 0x82, 0x3F, 0xE8, 0x5A, 0x22, 0x4A,
   0x4D, 0xD0, 0x48, 0xFA, 0xA3, 0x10, 0x30, 0xE, 0x30, 0xC, 0x6, 0x3, 0x55, 0x1D, 0x13, 0x1] ++
  [0x1, 0xFF, 0x4, 0x2, 0x30, 0x0, 0x30, 0xA, 0x6, 0x8, 0x2A, 0x86, 0x48, 0xCE, 0x3D, 0x4,
   0x3, 0x2, 0x3, 0x48, 0x0, 0x30, 0x45, 0x2, 0x20, 0x3E, 0xD1, 0x13, 0xB7, 0x88, 0x3B, 0x4C,
   0x59, 0x6, 0x38, 0x37, 0x9D, 0xB0, 0xC2, 0x1C, 0xDA, 0x16, 0x74, 0x2E, 0xD0, 0x25, 0x50, 0x48] ++
  [0xBF, 0x43, 0x33, 0x91, 0xD3, 0x74, 0xBC, 0x21, 0xD1, 0x2, 0x21, 0x0, 0xF2, 0xF2, 0x3C, 0x15,
   0x7A, 0xCE, 0xCE, 0xD4, 0xD7, 0xD6, 0x3B, 0xC0, 0x69, 0xA7, 0x6E, 0xA7, 0xD9, 0x48, 0xE3, 0x25,
   0x6D, 0x27, 0xB9, 0x78, 0x35, 0x67, 0x72, 0xA9, 0x75, 0x21, 0x3D, 0x39]

/-! ### Hypotheses met: the machine as a whole, start-up, resets -/

theorem witness_StepRunsFrontCommand :
    let s := { State.reset with pending := [Instr.wakePinLevel false] }
    s.pending = Instr.wakePinLevel false :: [] := by decide +kernel

theorem witness_QueueAndTimeMoveInStep :
    exec (.wakePinLevel false) (run .sgl) = .next (after (.wakePinLevel false) (run .sgl)) ∧
    ((run .sgl).pending = [] ∧ (run .sgl).supply.aon = true ∧ (run .sgl).tb.running = true) ∧
    ((start 3).pending = [] ∧ (start 3).supply.aon = true ∧ (start 3).tb.running = false) ∧
    (let s : State := { State.reset with supply := { State.reset.supply with aon := false } }
     s.pending = [] ∧ s.supply.aon = false) ∧
    ((run .sgl).tb.slew = 0 ∧ 0 ≤ (run .sgl).tb.frac ∧ (run .sgl).tb.frac < 2000) ∧
    ((start 3).pwr.sleep = false ∧ (start 3).boot.wakeRun = false) ∧
    (let s : State := { run .stk with tb := { (run .stk).tb with running := false }, pwr := { (run .stk).pwr with sleep := true } }
     s.pending = [] ∧ s.supply.aon = true ∧ s.tb.running = false ∧ s.pwr.sleep = true) :=
  ⟨rfl, by and_intros <;> decide +kernel⟩

theorem witness_FusesAndLevelsGuarded :
    exec (.logout false 0 []) (run .sgl) = .next (after (.logout false 0 []) (run .sgl)) ∧
    (after (.logout false 0 []) (run .sgl)).svc.level ≠ (run .sgl).svc.level :=
  ⟨rfl, by decide +kernel⟩

theorem witness_SmallFrames :
    exec (.wakePinLevel false) (run .sgl) = .next (after (.wakePinLevel false) (run .sgl)) ∧
    exec .vddioLost (run .sgl) = .next (after .vddioLost (run .sgl)) ∧ exec .usbSuspend (run .sgl) = .next (after .usbSuspend (run .sgl)) :=
  ⟨rfl, rfl, rfl⟩

theorem witness_StepKeepsInvariants :
    (StoresWf (run .sgl) ∧ ListsWf (run .sgl)) ∧
    step { run .sgl with pending := [.wakePinLevel false] } = .next (after (.wakePinLevel false) (run .sgl)) :=
  ⟨by unfold StoresWf ListsWf; decide +kernel, rfl⟩

theorem witness_EveryCommandAnswers :
    let s : State := { start 3 with pins := { (start 3).pins with strapTest := true } }
    s.inStage 3 = true ∧ s.pins.strapTest = true ∧ fld (s.svc.fuses.getD 0 0) 0 2 = 0 := by
  and_intros <;> decide +kernel

theorem witness_StartStagesComplete :
    ((start 1).inStage 1 = true ∧ (start 1).resetHigh = true) ∧
    ((start 2).inStage 2 = true ∧ ¬((start 2).boot.wakeRun = true ∧ (start 2).boot.shadowOk = true)) ∧
    (∀ c ∈ [false, true],
      let s : State := { start 2 with boot := { (start 2).boot with wakeRun := true }, unit := { (start 2).unit with toneDue := c } }
      s.inStage 2 = true ∧ s.boot.wakeRun = true ∧ s.boot.shadowOk = true ∧ s.unit.toneDue = c) ∧
    ((start 3).inStage 3 = true ∧ (start 3).pins.strapTest = false) ∧
    (let s : State := { start 3 with boot := { (start 3).boot with fuseTry := 2 } }
     s.inStage 3 = true ∧ s.boot.fuseTry < 3) ∧
    (let s : State := { start 3 with boot := { (start 3).boot with fuseTry := 3 } }
     s.inStage 3 = true ∧ 3 ≤ s.boot.fuseTry) ∧
    (let s : State := { start 4 with boot := { (start 4).boot with stageAt := (start 4).ticks - 8000 } }
     s.inStage 4 = true ∧ s.clk.pllFromRc = false ∧ s.boot.stageAt + 8000 ≤ s.ticks) ∧
    ((start 4).inStage 4 = true ∧ (start 4).clk.gated = false ∧ (start 4).pwr.waking = false) ∧
    ((start 5).inStage 5 = true ∧ (start 5).boot.bench = false) ∧
    (let s : State := { start 5 with boot := { (start 5).boot with bench := true } }
     s.inStage 5 = true ∧ s.boot.bench = true) ∧
    (∀ k ∈ [1, 2, 4, 5, 6], (start k).boot.stage ≠ 3 ∧ 1 ≤ (start k).boot.stage ∧ (start k).boot.stage < 7 ∧
      (start k).inStage (start k).boot.stage = true ∧ (start k).stageStart + stageLimit (start k).boot.stage ≤ (start k).ticks ∧
      (start k).resetHigh = true) ∧
    (∀ k ∈ [2, 3],
      let s : State := { start 3 with boot := { (start 3).boot with fuseTry := k, stageAt := (start 3).ticks - 1000 } }
      s.boot.stage = 3 ∧ s.inStage 3 = true ∧ s.boot.stageAt + 1000 ≤ s.ticks ∧ s.boot.fuseTry = k) ∧
    (let s : State := { start 0 with boot := { (start 0).boot with retryEnd := some (start 0).ticks } }
     s.boot.retryEnd = some s.ticks ∧ s.ticks ≤ s.ticks) := by
  and_intros <;> decide +kernel

theorem witness_EpochAdvancesBeforeStage5 :
    let h (s : State) (b : Bool) : Bool := s.inStage 4 && !s.clk.gated && !s.pwr.waking && decide (s.boot.bench = b) && !s.boot.wakeRun &&
      !s.boot.epochDone && Store.wf mramDflt s.nvm.mram
    let bad : State := { start 4 with nvm := { (start 4).nvm with bad := [0x14C00] } }
    let full : State := { start 4 with nvm := { (start 4).nvm with mram := [(0x14C00, 0xFFFFFFFF)] } }
    let bench : State := { start 4 with boot := { (start 4).boot with bench := true } }
    (h (start 4) false = true ∧ (start 4).mbad 0x14C00 = false ∧ (start 4).mread 0x14C00 ≠ 0xFFFFFFFF#32) ∧
    (h bad false = true ∧ bad.mbad 0x14C00 = true) ∧
    (h full false = true ∧ full.mbad 0x14C00 = false ∧ full.mread 0x14C00 = 0xFFFFFFFF#32) ∧
    (h bench true = true ∧ bench.mbad 0x14C00 = false) := by
  and_intros <;> decide +kernel

/-- Stage 6 about to end, with an image of a role or none; with `b` the built-in stack default, and the PLL on its fallback. -/
def sixth (r : Option Role) (b : Bool) : State :=
  let s := start 6
  { s with rst := { s.rst with domains := 6, hifUp := true }, nvm := { s.nvm with rebuilt := true },
           role := { s.role with saved := .running, stkDflt := b }, clk := { s.clk with fallback := b },
           img := { s.img with running := r.map fun r => { role := r, pair := false, version := 0, svn := 0, oemTag := 0, imgTag := 0,
                                                           devKey := false, secs := [], vals := [] } } }

theorem witness_ReleaseAndRole :
    (∀ k ∈ [0, 1, 4, 5],
      let r : ResetRun := { level := .l3, asserted := false, since := 0 }
      let s : State := { run .sgl with rst := { (run .sgl).rst with run := some r, domains := k, hifUp := false } }
      s.releasing = true ∧ s.rst.domains = k ∧ k < 6 ∧ s.runLevel = .l3) ∧
    (∀ k ∈ [0, 1, 2, 3, 4, 5],
      let s : State := { start 6 with rst := { (start 6).rst with domains := k } }
      s.releasing = true ∧ s.rst.domains = k ∧ k < 6 ∧ s.runLevel ≠ .l3 ∧ s.boot.bench = false) ∧
    (let s : State := { start 6 with boot := { (start 6).boot with bench := true } }
     s.releasing = true ∧ s.rst.domains = 0 ∧ s.boot.bench = true ∧ s.runLevel ≠ .l3) ∧
    (let s : State := { start 6 with rst := { (start 6).rst with domains := 3, coreAt := some ((start 6).ticks - 1) },
                                     pins := { (start 6).pins with strapSamp := [(true, 1), (false, 2)] } }
     s.rst.coreAt = some (s.ticks - 1) ∧ s.pending = [] ∧ s.supply.aon = true ∧ s.pins.strapSamp = [(true, 1), (false, 2)] ∧
       s.ticks - 1 + 1 ≤ s.ticks ∧ s.supply.vddioOk = true) ∧
    (let s : State := { start 6 with rst := { (start 6).rst with domains := 6, coreAt := some ((start 6).ticks - 12) } }
     s.rst.coreAt = some (s.ticks - 12) ∧ s.releasing = true ∧ s.rst.hifUp = false ∧ s.ticks - 12 + 12 ≤ s.ticks ∧ s.rst.domains = 6 ∧
       s.runLevel ≠ .l3) ∧
    (∀ e ∈ [(Role.sgl, false), (.slv, true), (.mst, true)],
      let s := run e.1
      let r : ResetRun := { level := .l3, asserted := false, since := 0 }
      let u : State := { s with rst := { s.rst with run := some r, hifUp := false, coreAt := some (s.ticks - 12), sysArmed := e.2 },
                                clk := { s.clk with fallback := decide (e.1 = .mst) } }
      u.rst.coreAt = some (u.ticks - 12) ∧ u.releasing = true ∧ u.rst.hifUp = false ∧ u.ticks - 12 + 12 ≤ u.ticks ∧ u.rst.domains = 6 ∧
        u.runLevel = .l3 ∧ u.inStage 6 = false ∧ u.isRole e.1 = true ∧ u.clk.fallback = decide (e.1 = .mst)) ∧
    (let s : State := { start 6 with pins := { (start 6).pins with usbOutAt := some ((start 6).ticks - 100) } }
     s.pins.usbOutAt = some (s.ticks - 100) ∧ s.boot.bench = false ∧ s.ticks - 100 + 100 ≤ s.ticks) ∧
    (∀ l ∈ [Level.l1, .l2, .l3],
      let r : ResetRun := { level := l, asserted := true, since := (start 5).ticks - 20 }
      let s : State := { start 5 with rst := { (start 5).rst with run := some r } }
      s.rst.run = some r ∧ r.level ≠ .l0 ∧ r.asserted = true ∧ r.since + 20 ≤ s.ticks ∧ s.resetHeld = false) ∧
    (let s : State := { start 5 with pins := { (start 5).pins with resetN := false } }
     s.pins.resetN = false) ∧
    (∀ e ∈ [(none, false), (none, true), (some Role.mst, true), (some .sgl, false), (some .slv, false)],
      let s := sixth e.1 e.2
      s.stage6Ready = true ∧ s.role.saved ≠ .starting ∧ s.boot.bench = false ∧ s.runLevel ≠ .l2 ∧ s.boot.wakeRun = false ∧
        s.img.running.map (fun g => (g.role, g.pair)) = e.1.map (fun r => (r, false)) ∧ s.role.stkDflt = e.2 ∧ s.clk.fallback = e.2) ∧
    (let s : State := { sixth none false with boot := { (sixth none false).boot with bench := true } }
     s.stage6Ready = true ∧ s.boot.bench = true) := by
  and_intros <;> decide +kernel

theorem witness_PowerTransitionsComplete :
    (let s : State := { State.reset with supply := { State.reset.supply with aon := false } }
     s.supply.aon = false) ∧
    ((run .sgl).supply.aon = true ∧ (run .sgl).boot.bench = false) ∧
    (let s : State := { run .sgl with boot := { (run .sgl).boot with bench := true } }
     s.boot.bench = true ∧ s.supply.aon = true ∧ s.rst.run = none ∧ s.boot.retryEnd = none) ∧
    ((run .sgl).boot.stage = 7) ∧
    (let s : State := { run .sgl with supply := { (run .sgl).supply with cpRun := true, cpOk := false } }
     s.supply.cpRun = true ∧ s.supply.cpOk = false) ∧
    (Reaches (run .sgl) .host Reg.sysPwr ∧ bit (1 : Word) 0 = true ∧ (run .sgl).isRole .sgl = true ∧ (run .sgl).role.pair = false ∧
      (run .sgl).seq.state = .idle ∧ (run .sgl).dozeQuiet = true ∧ (run .sgl).seq.src = .none ∧ (run .sgl).fab.guard = false) ∧
    (Reaches (up .sgl) .svc Reg.sysPwr ∧ (up .sgl).seq.state ≠ .idle) ∧ (Reaches (run .mst) .svc Reg.sysPwr ∧ (run .mst).isRole .sgl = false) := by
  unfold Reaches; and_intros <;> decide +kernel

theorem witness_PinAndClockEventsComplete :
    (7 < 8 ∧ (run .sgl).paired = false ∧
      (let s : State := { run .sgl with role := { (run .sgl).role with pair := true } }
       s.paired = true ∧ s.pins.gpio.getLsbD 7 ≠ !s.pins.gpio.getLsbD 7)) ∧
    (let s : State :=
       { run .sgl with clk := { (run .sgl).clk with pllFromRc := true, pllLock := true, sofTrim := false, sofCount := 2 } }
     s.svc.attached = true ∧ s.clk.pllFromRc = true ∧ s.clk.pllLock = true ∧ s.clk.sofTrim = false) ∧
    (let s : State :=
       { run .mst with boot := { (run .mst).boot with listenEnd := some (run .mst).ticks },
                       ridge := { (run .mst).ridge with lstate := .mstListen } }
     s.boot.listenEnd = some s.ticks ∧ s.isRole .mst = true ∧ s.ridge.lstate = .mstListen ∧ s.isShadow = false) ∧
    (let s : State := { run .sgl with pwr := { (run .sgl).pwr with doze := true, wakePinEn := true } }
     s.pwr.doze = true ∧ s.pwr.waking = false ∧ s.wakeOpen .wakePin = true ∧ s.wakeOpen .hostAccess = true) ∧
    (∀ k ∈ [ClockFailKind.crystal, .aon, .pll], (run .sgl).monWatches k = true) ∧
    (Settled (run .sgl) ∧ ((run .sgl).levelFor (plainReq .clkfail)).1 ≠ 0) ∧
    (∀ b ∈ [true, false],
      let r : ResetRun := { level := .l3, asserted := false, since := 0, applied := b }
      let s : State :=
        { start 4 with clk := { (start 4).clk with gated := true }, rst := { (start 4).rst with run := some r } }
      s.inStage 4 = true ∧ s.clk.gated = true ∧ s.pwr.waking = false ∧ s.rst.run = some r ∧ r.level = .l3 ∧ r.applied = b) := by
  unfold Settled; and_intros <;> decide +kernel

theorem witness_ResetSourcesBeginResets :
    Settled (run .sgl) ∧ (Reaches (run .sgl) .host Reg.rstCmd ∧ fld (0xC1A00001 : Word) 16 16 = 0xC1A0 ∧ bit (0xC1A00001 : Word) 0 = true) ∧
    fld (0xC1A10001 : Word) 16 16 ≠ 0xC1A0 ∧
    (Settled (edge (run .sgl) 0x20) ∧ (edge (run .sgl) 0x20).takeEdges (· = 0x20) = some ([0x20], run .sgl)) ∧
    (let s : State :=
       { put (run .sgl) [(Reg.sysWdtCfg, 0x00050000)] with
         wdt := { (run .sgl).wdt with run := true, first := false, since := (run .sgl).ticks - 5000 } }
     Settled s ∧ s.wdt.run = true ∧ s.wdt.since + s.wdtDeadline ≤ s.ticks) ∧
    (let s : State :=
       { run .sgl with react := { (run .sgl).react with sysEnd := some ((run .sgl).ticks - 50) },
                       seq := { (run .sgl).seq with state := .falling } }
     Settled s ∧ s.react.sysEnd = some (s.ticks - 50) ∧ s.ticks - 50 + 50 ≤ s.ticks ∧ s.seq.state = .falling) := by
  unfold Settled Reaches; and_intros <;> decide +kernel

theorem witness_MergedAndSmallResets :
    (let r : ResetRun := { level := .l0, asserted := true, since := 0 }
     let s : State := { run .sgl with rst := { (run .sgl).rst with run := some r } }
     s.supply.aon = true ∧ s.boot.retryEnd = none ∧ s.rst.run = some r ∧ r.level.num < (s.levelFor (plainReq .pin)).1) ∧
    (Settled (run .sgl) ∧ coWf .pin [.wdt] = true) ∧
    (∀ k ∈ [0, 1],
      let s : State := { run .sgl with svc := { (run .sgl).svc with shadow := (run .sgl).svc.shadow.set 6 8 },
                                       img := { (run .sgl).img with reload := k } }
      Settled s ∧ s.pwr.doze = false ∧ (s.levelFor (plainReq .pin)).1 = 3 ∧ s.liveImg = none ∧ s.img.reload = k ∧ s.isRole .stk = false) ∧
    (Reaches (run .mst) .host Reg.rstBlk ∧ fld (0xB10C0001 : Word) 16 16 = 0xB10C ∧ fld (0xB10C0001 : Word) 0 8 = 1) ∧
    (Reaches (run .mst) .svc Reg.rstBlk ∧ fld (0xB10C0010 : Word) 16 16 = 0xB10C ∧ fld (0xB10C0010 : Word) 0 8 = 16 ∧
      fld (0xB10C0008 : Word) 16 16 = 0xB10C ∧ fld (0xB10C0008 : Word) 0 8 = 8) ∧
    fld (0xB10D0010 : Word) 16 16 ≠ 0xB10C ∧
    (let s : State := { run .mst with rst := { (run .mst).rst with busy := [(4, (run .mst).ticks - 2)] } }
     s.rst.busy.find? (fun x => decide (x.1 = 4)) = some (4, s.ticks - 2) ∧ s.ticks - 2 + 2 ≤ s.ticks) := by
  unfold Settled Reaches; and_intros <;> decide +kernel

theorem witness_ResetEndsTheRetryWait :
    let s : State := { start 0 with boot := { (start 0).boot with retryEnd := some (2 ^ 33), retryCnt := 1, failStage := 4 } }
    s.supply.aon = true ∧ s.boot.retryEnd.isSome = true := by
  and_intros <;> decide +kernel

theorem witness_ResetLevelRules :
    (start 2).boot.shadowOk = true ∧ RstSource.pin ≠ .por ∧ State.reset.boot.shadowOk = false ∧
    (let s : State := { run .sgl with boot := { (run .sgl).boot with bench := true } }
     s.boot.bench = true) ∧
    (let s : State := { run .sgl with role := { (run .sgl).role with state := .safeIdle } }
     s.role.state = .safeIdle) ∧ (let s : State := { start 2 with rst := { (start 2).rst with sramOk := false } }
     s.rst.sramOk = false) := by
  and_intros <;> decide +kernel

theorem witness_AdoptCompletes :
    (let x : BitVec 24 × BitVec 24 × BitVec 24 := (0, 0, 0)
     let s : State := { run .sgl with rst := { (run .sgl).rst with adopt := some { since := (run .sgl).ticks - 20, samples := [] } } }
     let u : State := { run .sgl with rst := { (run .sgl).rst with adopt := some { since := (run .sgl).ticks - 30, samples := [x] } } }
     let v : State := { run .sgl with rst := { (run .sgl).rst with adopt := some { since := (run .sgl).ticks - 40, samples := [x, x] } } }
     (s.rst.adopt = some { since := s.ticks - 20, samples := [] } ∧ s.ticks - 20 + 20 ≤ s.ticks) ∧
     (u.rst.adopt = some { since := u.ticks - 30, samples := [x] } ∧ u.ticks - 30 + 30 ≤ u.ticks ∧ u.hasPair = false) ∧
     (v.rst.adopt = some { since := v.ticks - 40, samples := [x, x] } ∧ v.ticks - 40 + 40 ≤ v.ticks ∧
       (∀ n, n < 24 → v.rkind n = .none) ∧ v.seq.heldStart = none ∧ v.seq.heldStop = false ∧ v.seq.heldGrp = [])) ∧
    (let x : BitVec 24 × BitVec 24 × BitVec 24 := (0xC00000, 0, 0)
     let s := put (run .sgl) [(Reg.chRailCfg 22, 0x400), (Reg.chRailCfg 23, 0x500)]
     let u : State := { s with rst := { s.rst with adopt := some { since := s.ticks - 30, samples := [x] } } }
     u.railOf .mains = some 22 ∧ u.railOf .batt = some 23 ∧ u.rst.adopt = some { since := u.ticks - 30, samples := [x] } ∧ ListsWf u ∧
       u.ticks - 30 + 30 ≤ u.ticks ∧ x.1.getLsbD 22 = true ∧ x.1.getLsbD 23 = true) ∧
    (let s : State := { run .sgl with rst := { (run .sgl).rst with sysRestart := some (run .sgl).tb.now } }
     s.rst.sysRestart = some s.tb.now ∧ s.due s.tb.now = true ∧ s.seqRuns = true ∧ s.seq.state = .idle ∧ s.isRole .slv = false) := by
  unfold ListsWf; and_intros <;> decide +kernel

/-! ### Hypotheses met: images, registers, fabric, measurement, comparators -/

/-- MRAM with the image in slot A, verified. -/
def withImage (s : State) : State :=
  { s with nvm := { s.nvm with mram := (imageWords.zipIdx.filter fun e => decide (e.1 ≠ 0)).map fun e => (4 * e.2, w32 e.1) },
           img := { s.img with verified := true, liveOk := true, vslot := false } }

/-- What a device keeps of that image (Tables 5-1 to 5-3): imgTag is the start of the SHA-256 of the signed bytes. -/
def theImage : ImageInfo :=
  { role := .stk, pair := false, version := 5, svn := 0, oemTag := 0x77, imgTag := 0x2A97F60B, devKey := true,
    secs := [{ tag := 1, live := false, len := 8, crc := 0x755FDE18 }, { tag := 2, live := false, len := 8, crc := 0xE7F967BE },
             { tag := 10, live := false, len := 12, crc := 0xC72F1967 }],
    vals := [(0x10, 0xAAAAAAA9), (0xE00, 1000), (0x2C00, 0x640200), (0x2C04, 100)] }

/-- A device that runs the image, in HOLD, with its scans on; a full reload is in step k, 0 for none. -/
def holdsImage (k : Nat) : State :=
  let s := withImage (run .stk)
  { s with img := { s.img with running := some theImage, reload := k }, seq := { s.seq with state := .hold },
           meas := { s.meas with active := true } }

/-- The image passes every check of Table 5-5. -/
theorem test_image_is_valid : (holdsImage 0).checkSlot false = (0, some theImage) := by decide +kernel

/-- The same in step 3 of a full reload, in a rail role. -/
def reloads : State := { holdsImage 3 with role := { (holdsImage 3).role with role := .sgl } }

/-- Step 3 reads the three sections. -/
theorem test_reload_reads_the_sections : ∃ l, reloads.reloadRead = .ok l ∧ l.length = 3 := by
  have h : (match reloads.reloadRead with | .ok l => l.length | .error _ => 0) = 3 := by decide +kernel
  cases hr : reloads.reloadRead with
  | ok l => rw [hr] at h; exact ⟨l, rfl, h⟩
  | error _ => rw [hr] at h; cases h

theorem witness_ImageCommandsComplete :
    ((holdsImage 0).checkSlot false).2 = some theImage ∧
    (let s := run .sgl
     Reaches s .host Reg.imgCtrl ∧ fld (0x1A6E0100 : Word) 16 16 = 0x1A6E ∧ fld (0x1A6E0100 : Word) 8 2 = 1 ∧ s.img.op = .none ∧
       ¬(s.img.running.isSome = true ∧ s.img.runSlot = bit (0x1A6E0100 : Word) 0)) ∧
    (let s : State := { run .sgl with img := { (run .sgl).img with op := .verify } }
     s.img.op = .verify) ∧
    (let s := holdsImage 0
     Reaches s .svc Reg.imgCtrl ∧ s.img.op = .none ∧ s.running = true ∧ s.img.verified = true ∧
       s.img.liveOk = true ∧ s.scanStopped = false ∧ s.fullRefuses theImage = 0) ∧
    ((holdsImage 0).img.vslot = false ∧ fld (0x1A6E0200 : Word) 16 16 = 0x1A6E ∧ fld (0x1A6E0200 : Word) 8 2 = 2 ∧
      bit (0x1A6E0200 : Word) 0 = false ∧ fld (0x1A6E0300 : Word) 16 16 = 0x1A6E ∧ fld (0x1A6E0300 : Word) 8 2 = 3 ∧
      bit (0x1A6E0300 : Word) 0 = false) ∧
    (fld (0x1A6E0000 : Word) 16 16 = 0x1A6E ∧ fld (0x1A6E0000 : Word) 8 2 = 0) ∧
    (let s : State := { withImage (run .stk) with img := { (withImage (run .stk)).img with reload := 1 } }
     s.img.reload = 1 ∧ s.rereadSlot = 0) ∧
    (let s : State := { run .sgl with img := { (run .sgl).img with reload := 1 } }
     s.img.reload = 1 ∧ s.rereadSlot ≠ 0) ∧
    (reloads.img.reload = 3 ∧ reloads.seqRuns = true ∧ Settled reloads) ∧
    (let s := holdsImage 0
     Settled s ∧ s.img.running.isSome = true ∧ s.img.reload = 0 ∧ s.rst.sramOk = true ∧ s.running = true ∧
       s.clk.gated = false ∧ s.pwr.doze = false) ∧
    fld (0x1A6F0100 : Word) 16 16 ≠ 0x1A6E := by
  refine ⟨by rw [test_image_is_valid], ?_⟩
  unfold Reaches Settled; and_intros <;> decide +kernel

theorem witness_RegisterWrites :
    (let s := run .mst
     Reaches s .host Reg.sysIrqEn ∧ (regRow? Reg.sysIrqEn).map RegRow.acc = some .rw ∧ Store.wf regDflt s.regs = true ∧
       (s.rwWrite .host Reg.sysIrqEn 5).isNone = true) ∧
    (let s := run .mst
     Reaches s .svc Reg.seqEvt ∧ (regRow? Reg.seqEvt).map RegRow.acc = some .w1c ∧ Reg.seqEvt ≠ Reg.cmpFlLat ∧
       Reg.seqEvt ≠ Reg.cmpFhLat ∧ Reg.seqEvt ≠ Reg.schedUs) ∧
    (let s := run .mst
     Reaches s .host Reg.sysId ∧ (regRow? Reg.sysId).map RegRow.acc = some .ro ∧ Reaches s .host Reg.ridgeErrcnt ∧
       (regRow? Reg.ridgeErrcnt).map RegRow.acc = some .rc) ∧
    (let s : State := { run .slv with meas := { (run .slv).meas with active := true } }
     Reaches s .svc (Reg.chRamp 23) ∧ (regRow? (Reg.chRamp 23)).map RegRow.acc = some .live ∧ s.scanStopped = false) := by
  unfold Reaches; and_intros <;> decide +kernel

theorem witness_ReadsAndClosedPaths :
    (State.reset.pathOpen .host = false ∧ State.reset.pathOpen .svc = false ∧ State.reset.pathOpen .ridge = false ∧
      State.reset.pathOpen .chain = false) ∧
    ((run .sgl).present Reg.ridgeCfg = none ∧ (run .sgl).pathOpen .host = true) ∧
    (Readable (run .mst) .host Reg.ridgeErrcnt ∧ (regRow? Reg.ridgeErrcnt).map RegRow.acc = some .rc ∧
      Store.wf regDflt (run .mst).regs = true) ∧
    (let s : State := { run .stk with role := { (run .stk).role with addrValid := true, addr := 3 } }
     s.present Reg.seqCtrl = none ∧ s.pathOpen .chain = true) := by
  unfold Readable; and_intros <;> decide +kernel

/-- Edges of the sinks, in a device of role r in UP. -/
def edgeUp (r : Role) (k : Nat) : State := edge (up r) k

theorem witness_FabricEventsComplete :
    (∀ m ∈ [1, 2, 3],
      let s : State := put (run .sgl) [(Reg.fabCellTmr 63, 7), (Reg.fabCellCfg 63, 4096 * m)]
      let u : State := { s with fab := { s.fab with run := true, cells := s.fab.cells.set 63 { Cell.init with tcnt := 7 } } }
      63 < 64 ∧ u.fabRuns = true ∧ u.cellN 63 ≠ 0 ∧ (u.cell 63).tcnt = u.cellN 63 ∧ u.cellMode 63 = m) ∧
    ListsWf (let s : State := run .sgl; { s with fab := { s.fab with run := true, cells := s.fab.cells.set 63 { Cell.init with tcnt := 7 } } }) ∧
    (∀ n ∈ [0, 7], (edge (run .sgl) (0x30 + n)).takeEdges (· = 0x30 + n % 8) = some ([0x30 + n], run .sgl)) ∧
    (let s := edge (run .mst) 0x21
     s.takeEdges (· = 0x21) = some ([0x21], run .mst) ∧ s.seqRuns = true ∧ s.react.lockout = false ∧
       s.ridge.m.queue.length < 64 ∧ s.seq.state ≠ .hold) ∧
    (let s : State := { edge (run .mst) 0x21 with react := { (run .mst).react with lockout := true } }
     (s.takeEdges (· = 0x21)).isSome = true ∧ s.seqRuns = true ∧ s.react.lockout = true) ∧
    (edgeUp .mst 0x22).takeEdges (· = 0x22) = some ([0x22], up .mst) ∧
    (∀ g ∈ [0, 7], (edgeUp .sgl (0x18 + g)).takeEdges (· = 0x18 + g % 8) = some ([0x18 + g], up .sgl) ∧
      (edgeUp .sgl (0x18 + g)).seqRuns = true ∧ (edgeUp .sgl (0x18 + g)).seq.state = .up) ∧
    (∀ n ∈ [0, 15], (edgeUp .slv (0x38 + n)).takeEdges (· = 0x38 + n % 16) = some ([0x38 + n], up .slv) ∧
      (edgeUp .slv (0x38 + n)).isShadow = false ∧ (edgeUp .slv (0x38 + n)).isRole .slv = true) ∧
    ((edgeUp .sgl 0x49).takeEdges (· = 0x49) = some ([0x49], up .sgl) ∧ (edgeUp .sgl 0x49).seqRuns = true) := by
  unfold ListsWf; and_intros <;> decide +kernel

/-- Rail 23 is ON in UP, of kind SEQ, with reaction code re. -/
def onRail (re : Nat) : State :=
  put (rail (up .sgl) 23 fun x => { x with state := .on, en := true }) [(Reg.chRailCfg 23, 0x100), (Reg.reactRailCfg 23, re)]

theorem witness_ReactEdgeTurnsOff :
    ∀ e ∈ [(2, Reaction.group), (0, Reaction.ignore)],
      let s := edge (onRail e.1) 23
      s.takeEdges (· < 0x20) = some ([23], onRail e.1) ∧ s.isShadow = false ∧ s.seqRuns = true ∧ s.seq.state = .up ∧
        s.rstate 23 = .on ∧ s.hasEn 23 = true ∧ s.reaction 23 = e.2 ∧ s.seq.rails.length = 24 := by
  decide +kernel

/-- A scan in flight. -/
def scanRun : ScanRun :=
  { ts := 7, codes := List.replicate 24 0, avdd := 180000, take := 0, short := false, at_ := 0 }

/-- A device whose scans run, with the period of 20 µs. -/
def scans (s : State) : State :=
  let s := put s [(Reg.chScanCfg, 20)]
  { s with meas := { s.meas with active := true, notUntil := 0 } }

theorem witness_ScansComplete :
    ((scans (run .sgl)).scanDue = true ∧ (scans (run .sgl)).pwr.doze = false) ∧
    (let s : State := { scans (run .sgl) with meas := { (scans (run .sgl)).meas with scan := some scanRun } }
     Store.wf regDflt s.regs = true ∧ s.meas.scan = some scanRun ∧ s.live = [] ∧ s.liveImg = none) ∧
    (Reaches (run .sgl) .host Reg.resScanCtrl ∧ bit (2 : Word) 0 = false ∧ (run .sgl).regBit Reg.resScanCtrl 0 = true) ∧
    (let s := put (run .stk) [(Reg.resScanCtrl, 0)]
     Reaches s .svc Reg.resScanCtrl ∧ bit (1 : Word) 0 = true ∧ s.regBit Reg.resScanCtrl 0 = false) := by
  unfold Reaches; and_intros <;> decide +kernel

theorem witness_ResultsAndSnapshots :
    (∀ n ∈ [0, 23], ∀ p ∈ [Port.host, .svc],
      (run .slv).pathOpen p = true ∧ (run .slv).blkErr (Reg.resCh n) = false ∧ ((run .slv).reach p (Reg.resCh n)).isSome = true ∧
        (run .slv).blkErr (Reg.resSnap n) = false ∧ ((run .slv).reach p (Reg.resSnap n)).isSome = true) ∧
    (let s : State := { run .stk with role := { (run .stk).role with addrValid := true } }
     Readable s .chain (Reg.resCh 23) ∧ Readable s .chain (Reg.resSnap 23)) ∧
    (let s : State := { run .slv with ridge := { (run .slv).ridge with lstate := .admitted } }
     Readable s .ridge (Reg.resCh 0) ∧ Readable s .ridge (Reg.resSnap 0)) ∧
    (Reaches (run .sgl) .host Reg.resSnapCtrl ∧ Store.wf regDflt (run .sgl).regs = true ∧ bit (1 : Word) 0 = true ∧
      bit (2 : Word) 0 = false ∧ bit (2 : Word) 1 = true) := by
  unfold Readable Reaches; and_intros <;> decide +kernel

/-- Channel n measures a voltage, its comparators continuous. -/
def volt (s : State) (n : Nat) : State := put s [(Reg.chCfg n, 1), (Reg.chCmpCfg n, 0x105)]

/-- A wet check of channel 23 in step k. -/
def wet (k : Nat) : WetRun :=
  { todo := [23], step := k, v0 := 0, vPos := 0, clipP := false, clipN := false, tieBad := false, holdFl := false, holdFh := false,
    settle := 0 }

theorem witness_ChecksComplete :
    (let s := scans (volt (run .sgl) 23)
     Reaches s .svc Reg.chWetCtrl ∧ s.wetRefused = false ∧ s.chKind 23 ≠ 0 ∧ s.cmp.chk = none) ∧
    (let s := up .sgl
     Store.wf regDflt s.regs = true ∧ Reaches s .host Reg.chWetCtrl ∧ bit (0x01000001 : Word) 24 = true ∧
       fld (0x01000001 : Word) 0 24 ≠ 0 ∧ s.rail = true ∧ s.seq.state ≠ .idle) ∧
    (let s : State := { run .sgl with meas := { (run .sgl).meas with wet := some (wet 2) } }
     Reaches s .host Reg.chWetCtrl ∧ s.meas.wet = some (wet 2) ∧ Store.wf regDflt s.regs = true) ∧
    (∀ k ∈ [1, 2],
      let s := put (run .sgl) [(Reg.chWetCfg, 0x30000)]
      let u : State := { s with meas := { s.meas with wet := some (wet k), active := true } }
      u.meas.active = true ∧ u.meas.wet = some (wet k) ∧ (wet k).todo = 23 :: [] ∧ (wet k).settle ≤ u.ticks ∧
        [1, 2, (3 : Int)].length = u.regFld Reg.chWetCfg 16 6 ∧ 1 ≤ (wet k).step ∧ (wet k).step < 3) ∧
    (let s := volt (run .sgl) 23
     Reaches s .host Reg.cmpChkCtrl ∧ s.chkBlocked = false ∧ s.clk.gated = false ∧ s.pwr.doze = false ∧ s.cmpMode 23 false ≠ 0 ∧
       s.wetOn 23 = false) ∧
    (let s : State :=
       { run .sgl with cmp := { (run .sgl).cmp with chk := some { todo := [0], step := 2, n := false, since := (run .sgl).ticks - 5, periodic := false } } }
     Reaches s .host Reg.cmpChkCtrl ∧ bit (0x01000001 : Word) 24 = true ∧ fld (0x01000001 : Word) 0 24 ≠ 0 ∧ s.chkBlocked = true ∧
       (s.cmp.chk.map fun c => (c.todo, c.step, c.since)) = some ([0], 2, s.ticks - 5) ∧ s.coreRuns = true ∧
       s.ticks - 5 + (2 * 2 + 1) ≤ s.ticks) ∧
    (∀ c ∈ [none, some ({ todo := [0], step := 0, n := false, since := 0, periodic := false } : ChkRun)],
      let s := put (run .sgl) [(Reg.cmpChkCfg, 5)]
      let u : State := { s with cmp := { s.cmp with perCnt := 5, chk := c } }
      u.regFld Reg.cmpChkCfg 0 16 ≠ 0 ∧ u.regFld Reg.cmpChkCfg 0 16 ≤ u.cmp.perCnt ∧ u.clk.gated = false ∧ u.pwr.doze = false ∧
        u.boot.bench = false ∧ u.chkBlocked = c.isSome) := by
  unfold Reaches; and_intros <;> decide +kernel

/-- Channel n armed with continuous comparators, FL and FH. -/
def armed (n : Nat) : State :=
  let s := volt (run .sgl) n
  { s with cmp := { s.cmp with armed := true, ch := List.replicate 24 { CmpCh.init with fl := { Comp.init with holdTo := none }, fh := { Comp.init with holdTo := none } } } }

theorem witness_ComparatorEventsComplete :
    ListsWf (armed 23) ∧ WorksNow (armed 23) 23 false ∧ WorksNow (armed 0) 0 true ∧
    (let s : State :=
       { armed 23 with cmp := { (armed 23).cmp with ch := (armed 23).cmp.ch.set 23 { CmpCh.init with fl := { Comp.init with out := true } } } }
     (s.comp 23 false).out = true ∧ s.dgl 23 ≠ 0 ∧ s.blind 23 false = false ∧ s.clk.gated = false ∧ s.pwr.doze = false) ∧
    (let s : State :=
       { armed 23 with cmp := { (armed 23).cmp with ch := (armed 23).cmp.ch.set 23 { CmpCh.init with fl := { Comp.init with holdTo := some (armed 23).ticks } } } }
     (s.comp 23 false).holdTo = some s.ticks ∧ s.ticks ≤ s.ticks) ∧
    (let s := put { armed 23 with tb := { (armed 23).tb with now := 11 } } [(Reg.chCmpCfg 23, 0x000A000A), (Reg.chCmpTh 23, 0x00C80064)]
     ListsWf s ∧ s.strobeDue 23 false = true ∧ s.strobeDue 23 true = true ∧ s.blind 23 false = false ∧ s.blind 23 true = false ∧
       (s.comp 23 false).out = false ∧ (s.comp 23 true).out = false ∧ (99 : Int) < (s.cmpTh 23 false : Int) ∧
       (s.cmpTh 23 true : Int) < 201) ∧
    (let s : State :=
       { armed 23 with cmp := { (armed 23).cmp with ch := (armed 23).cmp.ch.set 23 { CmpCh.init with fl := { Comp.init with q := true } } } }
     Store.wf regDflt s.regs = true ∧ Reaches s .host Reg.cmpFlLat ∧ bit (0x800001 : Word) 23 = true ∧ (s.comp 23 false).q = true ∧
       bit (0x800001 : Word) 0 = true ∧ (s.comp 0 false).q = false) ∧
    (run .stk).rail = false := by
  unfold ListsWf WorksNow Reaches; and_intros <;> decide +kernel

/-! ### Hypotheses met: sequencer, rails, margins, log, windows, host -/

/-- `TB_NOW` at x. -/
def at_ (s : State) (x : Nat) : State := { s with tb := { s.tb with now := w32 x } }

theorem witness_SequenceCommandsBecomePending :
    (let s := put (at_ (run .mst) 1000) [(Reg.seqLaunch, 3000)]
     Reaches s .host Reg.seqCtrl ∧ s.isShadow = false ∧ s.ridge.m.queue.length < 64 ∧
       s.tooLate (launchTime s 1) s.minLead = false ∧ fld (1 : Word) 0 4 = 1 ∧ s.seq.state ≠ .hold ∧ fld (2 : Word) 0 4 = 2 ∧
       fld (0x705 : Word) 0 4 = 5 ∧ fld (0x706 : Word) 0 4 = 6) ∧
    (let s := put (at_ (run .mst) 1001) [(Reg.seqLaunch, 3000)]
     s.tooLate (launchTime s 2) s.minLead = true ∧ s.tooLate (launchTime s 0x82) s.minLead = false) := by
  unfold Reaches; and_intros <;> decide +kernel

/-- A state in HOLD, entered from UP. -/
def held (r : Role) : State :=
  let s := run r
  { s with seq := { s.seq with state := .hold, holdFrom := .up, src := .none } }

theorem witness_HoldAndRelease :
    (Reaches (up .sgl) .host Reg.seqCtrl ∧ (up .sgl).isShadow = false ∧ fld (3 : Word) 0 4 = 3 ∧ (up .sgl).seq.state = .up ∧
      (up .sgl).seqBusy = false) ∧
    ((held .sgl).seq.state ≠ .idle ∧ (held .sgl).seq.state ≠ .up) ∧
    (let s := put (rail (up .sgl) 23 fun x => { x with state := .ramp }) [(Reg.chRailCfg 23, 0x100)]
     s.seq.state = .up ∧ s.seqBusy = true) ∧
    (let s := held .sgl
     Reaches s .svc Reg.seqCtrl ∧ fld (4 : Word) 0 4 = 4 ∧ s.seq.state = .hold ∧ s.seq.holdFrom = .up ∧
       (∀ n, n < 24 → (s.railAt n).deferred = none) ∧ s.seq.src = .none ∧ s.seq.heldGrp = [] ∧ s.seq.heldStop = false ∧
       s.seq.heldStart = none) ∧
    (up .sgl).seq.state ≠ .hold := by
  unfold Reaches; and_intros <;> decide +kernel

/-- Pending commands, all due at 1000, at `TB_NOW` = 1000. -/
def launch (s : State) (f : Seq → Seq) : State :=
  let s := at_ s 1000
  { s with seq := f s.seq }

theorem witness_LaunchesAct :
    (let s := launch (run .sgl) fun q => { q with pendStart := some (1000, false) }
     Store.wf regDflt s.regs = true ∧ s.seq.pendStart = some (1000, false) ∧ s.launchDue 1000 = true ∧ s.stopAtSame 1000 = false ∧
       s.seq.state = .idle ∧ s.unjoined = false ∧ s.isRole .mst = false) ∧
    (let s := launch (held .sgl) fun q => { q with pendStart := some (1000, false) }
     s.seq.pendStart = some (1000, false) ∧ s.launchDue 1000 = true ∧ s.stopAtSame 1000 = false ∧ s.seq.state = .hold ∧
       s.isRole .mst = false) ∧
    (let s := launch (up .mst) fun q => { q with pendStart := some (1000, false), pendStop := some 1000 }
     s.seq.pendStart = some (1000, false) ∧ s.launchDue 1000 = true ∧ s.stopAtSame 1000 = true ∧ s.ridge.m.queue = []) ∧
    (let s := launch (run .mst) fun q => { q with pendStart := some (1000, false) }
     let c : QueueCmd := { cmd := { op := 1, dst := dstAll, cseq := 0, arg0 := 1000, arg1 := 0 }, chooseT := false, tries := 0,
                           hcmd := false, proxy := false }
     let u : State := { s with ridge := { s.ridge with m := { s.ridge.m with queue := [c] } } }
     u.seq.pendStart = some (1000, false) ∧ Store.wf regDflt u.regs = true ∧ u.launchDue 1000 = true ∧ u.isRole .mst = true ∧
       u.ridge.m.queue = [c]) ∧
    (let s := launch (up .sgl) fun q => { q with pendStop := some 1000 }
     s.seq.pendStop = some 1000 ∧ Store.wf regDflt s.regs = true ∧ s.launchDue 1000 = true ∧ s.seq.state = .up ∧ s.isRole .mst = false) ∧
    (let c : GrpCmd := { stop := false, g := 7, t := 1000 }
     let s := launch (up .sgl) fun q => { q with pendGrp := [c], grpDown := 0x80 }
     c.g < 8 ∧ s.grpDue false = some c ∧ s.seq.state = .up ∧ s.seq.grpDown.getLsbD c.g = true ∧ s.seq.grpStop.getLsbD c.g = false ∧
       s.isRole .mst = false) ∧
    (let c : GrpCmd := { stop := true, g := 0, t := 1000 }
     let s := launch (up .sgl) fun q => { q with pendGrp := [c] }
     c.g < 8 ∧ s.grpDue true = some c ∧ s.seq.state = .up ∧ s.isRole .mst = false) := by
  and_intros <;> decide +kernel

/-- Rail 23 of kind SEQ with reaction GROUP in a state, its times long past, in UP. -/
def inUp (f : Rail → Rail) : State :=
  put (rail (up .sgl) 23 f) [(Reg.chRailCfg 23, 0x100), (Reg.reactRailCfg 23, 2), (Reg.chRamp 23, 0x00010001)]

theorem witness_RailEventsComplete :
    (∀ x ∈ [RailState.waitOn, .waitOff, .ramp, .discharge, .retryWait],
      let s := inUp fun r => { r with state := x, inWin := some 0 }
      s.seqCounts = true ∧ s.seq.state = .up ∧ s.rkind 23 = .seq ∧ s.fab.guard = false ∧ s.stopDue 23 = false ∧ s.edgeWaits 23 = false ∧
        s.rstate 23 = x ∧
        s.due (s.railAt 23).inst = true ∧ s.canTurnOn 23 = true ∧ (s.railAt 23).inWin = some 0 ∧ 0 + 10 ≤ s.ticks ∧
        (s.railAt 23).since + (s.railAt 23).tmo ≤ s.ticks ∧ s.reaction 23 = .group ∧ s.dischTmo 23 ≠ 0) ∧
    ListsWf (inUp fun r => { r with state := .ramp }) := by
  refine ⟨by decide +kernel, by unfold ListsWf; decide +kernel⟩

theorem witness_SequencerTimersComplete :
    (let s := launch (run .sgl) fun q => { q with state := .downHold, startReq := false, downAt := 0, minOff := 500000 }
     s.seqRuns = true ∧ s.seq.state = .downHold ∧ s.seq.startReq = false ∧ s.seq.downAt + s.seq.minOff ≤ s.ticks) ∧
    (let s := put (rail (up .sgl) 23 fun x => { x with state := .on }) [(Reg.reactRailCfg 23, 0x10000)]
     ListsWf s ∧ s.forgive 23 ≠ 0 ∧ s.rstate 23 = .on ∧ (s.railAt 23).onAt + s.forgive 23 ≤ s.ticks) ∧
    (let s := put (launch (up .sgl) fun q => { q with upAt := 0 }) [(Reg.reactSys, 0x01000000)]
     s.seqRuns = true ∧ s.seq.state = .up ∧ s.regFld Reg.reactSys 24 8 ≠ 0 ∧
       s.seq.upAt + 1000000 * s.regFld Reg.reactSys 24 8 ≤ s.ticks) ∧
    (held .sgl).seqCounts = false ∧ (launch (up .sgl) fun q => { q with pendStop := some 1000 }).stopDue 23 = true ∧
    (edge (up .sgl) 23).edgeWaits 23 = true := by
  unfold ListsWf; and_intros <;> decide +kernel

/-- A source pair on rails 22 and 23 in UP. -/
def pairSrc (f : Seq → Seq) : State :=
  put (launch (up .sgl) f) [(Reg.chRailCfg 22, 0x400), (Reg.chRailCfg 23, 0x500), (Reg.seqCfg, 50)]

theorem witness_SourcePairCompletes :
    (let s := pairSrc fun q => { q with src := .gapToBatt, srcAt := 0, srcTmo := 50 }
     s.seqCounts = true ∧ s.seq.srcAt + s.seq.srcTmo ≤ s.ticks ∧ s.seq.src = .gapToBatt ∧ s.railOf .batt = some 23 ∧
       s.canTurnOn 23 = true ∧ s.seq.state ≠ .falling ∧ s.seq.pendStop.toList.any s.due = false) ∧
    (∀ e ∈ [(SeqState.falling, none), (.up, some 1000)],
      let s := pairSrc fun q => { q with state := e.1, pendStop := e.2 }
      s.seq.state = e.1 ∧ s.seq.pendStop.toList.any s.due = e.2.isSome) ∧
    (let s := pairSrc fun q => { q with src := .batt, dwell := true, srcAt := 0, srcTmo := 10000 }
     s.seqCounts = true ∧ s.seq.src = .batt ∧ s.seq.dwell = true ∧ s.seq.srcAt + s.seq.srcTmo ≤ s.ticks) ∧
    (let s := pairSrc fun q => { q with src := .mains }
     Store.wf regDflt s.regs = true ∧ Reaches s .host Reg.seqSrcCtrl ∧ bit (1 : Word) 0 = true ∧ s.seqRuns = true ∧ s.seq.state = .up ∧
       s.seq.src = .mains) ∧
    (let s : State := { run .slv with supply := { (run .slv).supply with srcEdge := true } }
     s.supply.srcEdge = true ∧ s.pwr.doze = false ∧ s.seqRuns = true) ∧
    (let s := put (armed 23) [(Reg.sysSrcCfg, 23)]
     ListsWf s ∧ s.srcCh = some 23 ∧ WorksNow s 23 false) := by
  unfold Reaches ListsWf WorksNow; and_intros <;> decide +kernel

/-- DAC 7 on channel 23, whose rail is ON in UP. -/
def dac7 (d : Dac → Dac) : State :=
  let s := put (rail (up .sgl) 23 fun x => { x with state := .on }) [(Reg.mrgCfg 7, 0x01010117), (Reg.mrgCode 7, 0x00050005)]
  { s with mrg := { s.mrg with dacs := s.mrg.dacs.set 7 (d (s.dac 7)) } }

theorem witness_MarginsComplete :
    (let s := dac7 fun d => { d with state := .held, cur := 3 }
     ListsWf s ∧ Store.wf regDflt s.regs = true ∧ Reaches s .host Reg.mrgCtrl ∧ s.isShadow = false ∧ fld (0x180 : Word) 0 8 = 2 ^ 7 ∧
       s.mrgCh 7 = some 23 ∧ fld (0x180 : Word) 8 2 = 1 ∧ fld (0x280 : Word) 8 2 = 2 ∧ fld (0x080 : Word) 8 2 = 0 ∧
       s.seq.state = .up ∧ s.rstate 23 = .on ∧ s.edgeWaits 23 = false ∧ s.edgeWaits 0x49 = false ∧ s.coreRuns = true ∧
       s.sinkBit 0x49 = false ∧ (s.dac 7).state ≠ .nominal ∧ (s.dac 7).cur ≠ 0 ∧
       (s.dac 7).state = .held ∧ s.regFld (Reg.mrgCfg 7) 24 8 ≠ 0 ∧
       (s.dac 7).cmdAt + 1000000 * s.regFld (Reg.mrgCfg 7) 24 8 ≤ s.ticks) ∧
    (let s := put (run .mst) ((List.range 8).map fun m => (Reg.mrgCfg m, 0x100 + m))
     Reaches s .svc Reg.mrgCtrl ∧ s.isShadow = false ∧ s.seq.state ≠ .up ∧ fld (0x101 : Word) 8 2 = 1 ∧ fld (0x101 : Word) 0 8 ≠ 0 ∧
       ∀ m, m < 8 → (s.mrgCh m).isSome = true) ∧
    (let s := dac7 fun d => { d with state := .slewOut, cur := 3, goal := 4, stepAt := 0 }
     (s.dac 7).state = .slewOut ∧ (s.dac 7).stepAt + 2 ^ s.regFld (Reg.mrgCfg 7) 16 3 ≤ s.ticks ∧ (s.dac 7).cur ≠ (s.dac 7).goal ∧
       s.coreRuns = true) := by
  unfold Reaches ListsWf; and_intros <;> decide +kernel

/-- A job that has only its commit word to write, or one word more. -/
def job (k : LogJobKind) (todo : List (Nat × Word)) : LogJob := { kind := k, seq := 5, todo := todo, commit := (commitAddr k 1, 0xA5000005) }

/-- MRAM and log writer changed. -/
def nvm (s : State) (f : Nvm → Nvm) : State := { s with nvm := f s.nvm }

theorem witness_LogWriterComplete :
    (∀ k ∈ [LogJobKind.record, .hist],
      let s := nvm (run .sgl) fun v => { v with job := some (job k []) }
      Store.wf mramDflt s.nvm.mram = true ∧ s.nvm.job = some (job k []) ∧ (job k []).todo = [] ∧ (job k []).kind = k) ∧
    (let s := nvm (run .sgl) fun v => { v with job := some (job .hist [(0x10000, 1)]) }
     s.nvm.job = some (job .hist [(0x10000, 1)]) ∧ (job .hist [(0x10000, 1)]).todo ≠ []) ∧
    (let s := nvm (sixth none false) fun v => { v with rebuilt := false, bad := [] }
     s.nvm.rebuilt = false ∧ s.inStage 6 = true ∧ s.rst.domains ≠ 0 ∧ s.nvm.bad = []) := by
  and_intros <;> decide +kernel

theorem witness_CountersComplete :
    (∀ l ∈ [[], [(4, (run .sgl).ticks)]],
      let s := nvm (run .sgl) fun v => { v with flushMs := 1000, dirty := [95] }
      let u : State := { s with rst := { s.rst with busy := l } }
      Store.wf mramDflt u.nvm.mram = true ∧ 1000 ≤ u.nvm.flushMs ∧ u.nvm.job = none ∧ u.nvm.buf = [] ∧ u.coreOut = true ∧
        u.coreRuns = true ∧ u.logwBusy = !l.isEmpty) ∧
    (Reaches (run .sgl) .svc Reg.logCtrl ∧ fld (0x6C0E0100 : Word) 16 16 = 0x6C0E ∧ bit (0x6C0E0100 : Word) 8 = true) ∧
    fld (0x6C0F0000 : Word) 16 16 ≠ 0x6C0E ∧
    (let s := nvm (run .sgl) fun v => { v with clrLog := true, clrCnt := [0, 95], job := none }
     StoresWf s ∧ s.nvm.job = none ∧ s.nvm.clrLog = true ∧ s.coreRuns = true) ∧
    (nvm (run .sgl) fun v => { v with job := some (job .hist []) }).nvm.job.isSome = true := by
  unfold Reaches StoresWf; and_intros <;> decide +kernel

theorem witness_WindowsComplete :
    (let s : State := { run .slv with ridge := { (run .slv).ridge with lstate := .admitted } }
     Reaches s .ridge Reg.logAddr ∧ Reaches s .ridge Reg.nvmData ∧ Readable s .ridge Reg.logData ∧ Readable s .ridge Reg.nvmData) ∧
    (let s := run .sgl
     Reaches s .host Reg.logAddr ∧ Reaches s .svc Reg.logAddr ∧ Readable s .host Reg.logData ∧ Readable s .svc Reg.nvmData ∧
       Reaches s .host Reg.nvmData ∧ (s.window .host).posted = none ∧ s.srcFault = false ∧
       s.inRunSlot (s.window .host).nvmAddr = false ∧ s.nvmAllowed .host (s.window .host).nvmAddr = true) ∧
    (let s := nvm (run .sgl) fun v => { v with winHost := { v.winHost with nvmAddr := 0x14000 } }
     s.nvmAllowed .host (s.window .host).nvmAddr = false) ∧
    (let s := nvm (run .sgl) fun v => { v with winHost := { v.winHost with posted := some (0x1FFFC, 1) } }
     Reaches s .host Reg.nvmData ∧ (s.window .host).posted = some (0x1FFFC, 1) ∧ Store.wf mramDflt s.nvm.mram = true ∧
       s.nvm.job = none ∧ s.nvm.buf = [] ∧ s.coreRuns = true) := by
  unfold Reaches Readable; and_intros <;> decide +kernel

theorem witness_UptimeReadLatchesHigh :
    (Readable (run .sgl) .host Reg.tbUpLo ∧ Readable (run .sgl) .svc Reg.tbUpHi) ∧
    (let s : State := { run .sgl with role := { (run .sgl).role with state := .safeIdle } }
     Settled s ∧ (s.levelFor (plainReq .pin)).1 = 0) ∧
    (let s : State := { State.reset with supply := { State.reset.supply with aon := false } }
     s.supply.aon = false) := by
  unfold Readable Settled; and_intros <;> decide +kernel

theorem witness_HostAndWatchdog :
    (let s := run .sgl
     s.hifOn = true ∧ s.hostBus = .spi ∧ s.hif.queue = [] ∧ s.regBit Reg.sysHifCfg 0 = false ∧ 0xFFFC < 65536 ∧ 0xFFFC % 4 = 0 ∧
       s.blkErr 0xFFFC = false ∧ 0xFFFC ≠ Reg.rstCmd ∧ 0xFFFD % 4 ≠ 0) ∧
    (let q : QWord := { addr := Reg.sysIrqEn, val := 1, txn := 3 }
     let s : State := { run .sgl with hif := { (run .sgl).hif with queue := [q] } }
     Store.wf regDflt s.regs = true ∧ s.hif.queue = q :: [] ∧ s.coreRuns = true ∧ Reaches s .host q.addr ∧
       (s.reach .host q.addr).map RegRow.acc = some .rw ∧ (s.rwWrite .host q.addr q.val).isNone = true) ∧
    (let q : QWord := { addr := Reg.nvmData, val := 1, txn := 3 }
     let s := nvm (run .sgl) fun v => { v with winHost := { v.winHost with posted := some (0, 1) } }
     let u : State := { s with hif := { s.hif with queue := [q], waitAt := s.ticks - 60 } }
     u.hif.queue = q :: [] ∧ u.queueWaits = true ∧ u.hif.waitAt + 60 ≤ u.ticks ∧ u.hif.qErr = false ∧ u.hif.lastErr = 0) ∧
    (let s : State := { run .sgl with hif := { (run .sgl).hif with qErr := true } }
     s.hif.qErr = true) ∧
    (let s : State := { run .sgl with pins := { (run .sgl).pins with strapIf := true } }
     s.hifOn = true ∧ s.hostBus = .i2c) ∧
    (let s := put (run .sgl) [(Reg.sysWdtCfg, 0x00050002), (Reg.sysWdtKey, 0x1234)]
     let u : State := { s with wdt := { s.wdt with run := true, first := false, since := s.ticks - 2000 } }
     let w : State := { s with wdt := { s.wdt with run := true, first := false, since := s.ticks - 1999, par := true } }
     Reaches u .host Reg.sysWdtKick ∧ Settled u ∧ s.wdt.run = false ∧ u.wdt.run = true ∧
       fld (0x1234 : Word) 0 16 = u.regFld Reg.sysWdtKey 0 16 ∧ u.wdtOpen = true ∧
       fld (0x1235 : Word) 0 16 ≠ u.regFld Reg.sysWdtKey 0 16 ∧ Settled w ∧ Reaches w .svc Reg.sysWdtKick ∧
       fld (0xEDCB : Word) 0 16 = w.regFld Reg.sysWdtKey 0 16 ^^^ 0xFFFF ∧ w.wdtOpen = false) := by
  unfold Reaches Settled; and_intros <;> decide +kernel

/-! ### Hypotheses met: the Ridge link and the scheduler -/

/-- The link controller changed. -/
def link (s : State) (f : Ridge → Ridge) : State := { s with ridge := f s.ridge }

/-- A master that drives the link, with its node table. -/
def master : State := link (run .mst) fun r => { r with lstate := .master }

/-- Node 31 of the master in a given row. -/
def node31 (f : Node → Node) : State := link master fun r => { r with m := { r.m with nodes := r.m.nodes.set 31 (f Node.init) } }

/-- A reply's body in session 0. -/
def reply14 : List Byte := [0, 2, 1, 0, 5, 0, 0, 0, 7, 0, 0, 0, 0, 0]

theorem witness_MasterLinkComplete :
    (let s := at_ (link master fun r => { r with m := { r.m with lastTick := some 5000 } }) 6000
     s.mstDrives = true ∧ s.ridge.m.lastTick = some 5000 ∧ s.just (s.nextTick 5000) = true ∧ (s.tb.now - 5000).toNat < 2000) ∧
    (let s := at_ (link master fun r => { r with m := { r.m with lastTick := some 5000, sentB := false } }) 5790
     s.frameOn = true ∧ s.ridge.m.lastTick = some 5000 ∧ s.ridge.m.sentB = false ∧ s.just (5000 + w32 790) = true ∧
       s.just (s.nextTick 5000) = false) ∧
    (link master fun r => { r with m := { r.m with sentB := true } }).ridge.m.sentB = true ∧
    (let s := node31 fun n => { n with admitted := true }
     ListsWf s ∧ s.frameOn = true ∧ s.hasSlot 31 = true ∧ reply14.length = 14 ∧ leAt reply14 0 1 = s.ridge.session.toNat ∧
       (s.node 31).missed + 1 < 3) ∧
    (let s := node31 fun n => { n with joining := true, missed := 2 }
     s.hasSlot 31 = true ∧ 3 ≤ (s.node 31).missed + 1) ∧
    (linkBody 14 reply14).isNone = true := by
  unfold ListsWf; and_intros <;> decide +kernel

/-- A croak's body of a single-unit device with no preference. -/
def croak28 : List Byte := 0x43#8 :: List.replicate 27 0

theorem witness_CroaksComplete :
    (let s := put master [(Reg.ridgeCfg, 0x11F)]
     ListsWf s ∧ s.frameOn = true ∧ s.croakOpen = true ∧ s.ridge.m.croaked = false ∧ croak28.length = 28 ∧ leAt croak28 0 1 = 0x43 ∧
       (nodeNums.all fun k => !((s.node k).admitted && decide ((s.node k).uid = BitVec.ofNat 64 (leAt croak28 4 8)))) = true ∧
       s.allowed (BitVec.ofNat 64 (leAt croak28 20 8)) = true ∧
       s.chooseNode (BitVec.ofNat 64 (leAt croak28 4 8)) (BitVec.ofNat 64 (leAt croak28 12 8)) (decide (leAt croak28 1 1 % 2 = 1))
         (if leAt croak28 1 1 / 2 % 2 = 1 then some (leAt croak28 2 1) else none) = some 1 ∧ (s.node 1).admitted = false) ∧
    (let s := put master [(Reg.ridgeCfg, 0x31F)]
     Store.wf regDflt s.regs = true ∧ s.frameOn = true ∧ s.croakOpen = true ∧ s.ridge.m.croaked = false ∧
       s.allowed (BitVec.ofNat 64 (leAt croak28 20 8)) = false ∧
       (nodeNums.all fun k => !((s.node k).admitted && decide ((s.node k).uid = BitVec.ofNat 64 (leAt croak28 4 8)))) = true) ∧
    (linkBody 28 croak28).isNone = true := by
  unfold ListsWf; and_intros <;> decide +kernel

theorem witness_HostRidgeCommands :
    (let s := master
     Store.wf regDflt s.regs = true ∧ Reaches s .host Reg.ridgeHcmd ∧ s.isShadow = false ∧ s.regBit Reg.ridgeHcmdStat 15 = false ∧
       s.ridge.m.queue.length < 64 ∧ fld (0xBF06 : Word) 0 8 = 6 ∧ fld (0xBF06 : Word) 8 6 = dstAll ∧ bit (0xBF06 : Word) 15 = true ∧
       fld (0x3F06 : Word) 0 8 = 6 ∧ fld (0x3F06 : Word) 8 6 = dstAll ∧ bit (0x3F06 : Word) 15 = false ∧
       s.tooLate (s.reg Reg.ridgeHcmdT) 2000 = true ∧ fld (0x3F01 : Word) 0 8 ≠ 6 ∧ fld (0x3F01 : Word) 0 8 ≠ 7 ∧ fld (0x3F01 : Word) 0 8 ≠ 8) ∧
    (put master [(Reg.ridgeHcmdStat, 0x8000)]).regBit Reg.ridgeHcmdStat 15 = true ∧
    (let s := put (node31 fun n => { n with admitted := true }) [(Reg.ridgePxAddr, 0x1F0204)]
     Reaches s .host Reg.ridgePxCtrl ∧ s.isShadow = false ∧ s.regBit Reg.ridgePxStat 31 = false ∧ s.regFld Reg.ridgePxAddr 16 5 = 31 ∧
       (s.node 31).admitted = true ∧ s.ridge.m.queue.length < 64) ∧
    (let s := put master [(Reg.ridgePxAddr, 0x1F0204)]
     s.regFld Reg.ridgePxAddr 16 5 = 31 ∧ (s.node 31).admitted = false) ∧
    (let s := link master fun r => { r with m := { r.m with pxRead := some (31, some 6), frames := 10 } }
     s.ridge.m.pxRead = some (31, some 6) ∧ 6 + 4 ≤ s.ridge.m.frames) ∧
    (let s := put (node31 fun n => { n with bound := true }) [(Reg.ridgeNtSel, 31)]
     ListsWf s ∧ Reaches s .svc Reg.ridgeNtCtrl ∧ s.isShadow = false ∧ fld (0x7E0F0001 : Word) 16 16 = 0x7E0F ∧
       bit (0x7E0F0001 : Word) 0 = true ∧ (s.node (s.regFld Reg.ridgeNtSel 0 5)).admitted = false ∧
       fld (0x7E0E0001 : Word) 16 16 ≠ 0x7E0F) := by
  unfold Reaches ListsWf; and_intros <;> decide +kernel

/-- A slave in a link state. -/
def slave (l : LinkState) : State := link (run .slv) fun r => { r with lstate := l, node := 31 }

/-- A header's body: frame 9, every node admitted. -/
def header24 : List Byte := [0x48, 1, 9, 0, 0, 0, 0, 0, 0, 0, 0, 0, 3, 0, 8, 1, 0xFF, 0xFF, 0xFF, 0xFF, 0, 0, 0, 0]

theorem witness_SlaveReceivesComplete :
    (let s := link (slave .joining) fun r => { r with s := { r.s with edge := some ((slave .joining).ticks - 40, 0) } }
     s.slaveOn = true ∧ header24.length = 24 ∧ leAt header24 0 2 = 0x0148 ∧ s.ridge.s.edge = some (s.ticks - 40, 0) ∧
       s.ticks ≤ s.ticks - 40 + 40 ∧ s.ridge.lstate = .joining ∧ s.ridge.node ≠ 0 ∧
       bit (w32 (leAt header24 16 4)) s.ridge.node = true) ∧
    (linkBody 24 header24).isNone = true ∧
    (let c : RidgeCmd := { op := 6, dst := dstAll, cseq := 65535, arg0 := 5000, arg1 := 0 }
     let s := at_ (slave .admitted) 4900
     let u := link s fun r => { r with s := { r.s with seen := [65535], fromSeq := 65535 } }
     s.slaveOn = true ∧ s.isShadow = false ∧ s.slaveAdmitted = true ∧ 1 ≤ c.op ∧ c.op ≤ 8 ∧ c.dst = dstAll ∧ c.cseq < 65536 ∧
       cseqFrom c.cseq u.ridge.s.fromSeq = true ∧ u.ridge.s.seen.contains c.cseq = true ∧ u.slaveAdmitted = true ∧
       s.tooLate c.arg0 100 = false) ∧
    (let c : RidgeCmd := { op := 1, dst := dstAll, cseq := 0, arg0 := 5000, arg1 := 0 }
     let s := at_ (slave .admitted) 4900
     cseqFrom c.cseq s.ridge.s.fromSeq = true ∧ s.ridge.s.seen.contains c.cseq = false ∧ s.tooLate c.arg0 100 = false) := by
  and_intros <;> decide +kernel

theorem witness_SlaveActsComplete :
    (let s := slave .croaking
     s.slaveDrives = true ∧ s.ridge.lstate = .croaking ∧ s.slaveOn = true ∧ s.ridge.lstate ≠ .paired ∧ (1 : BitVec 64) ≠ s.uid ∧
       Store.wf regDflt s.regs = true ∧ s.ridge.s.lastTick + 5000 ≤ s.ticks) ∧
    (let s := slave .admitted
     s.slaveDrives = true ∧ s.hasNode = true ∧ s.ridge.lstate ≠ .paired ∧ Readable s .ridge Reg.ridgeEvt ∧ Reaches s .ridge Reg.sysIrqEn ∧
       (s.reach .ridge Reg.sysIrqEn).map RegRow.acc = some .rw ∧ (s.rwWrite .ridge Reg.sysIrqEn 1).isNone = true) ∧
    (let s := link (slave .croaking) fun r => { r with s := { r.s with slots := 3 } }
     let u := at_ (link s fun r => { r with s := { r.s with rtime := some 5000 } }) 5730
     u.slaveDrives = true ∧ u.ridge.lstate = .croaking ∧ u.ridge.s.backoff = 0 ∧ u.ridge.s.waitAns = none ∧ u.slotOpen = true) ∧
    (let s := at_ (link (slave .admitted) fun r => { r with s := { r.s with rtime := some 5000 } }) 5711
     s.replyNow = true ∧ (at_ s 5713).replyNow = false) ∧
    (let s := link (slave .croaking) fun r => { r with s := { r.s with waitAns := some 3, tries := 7 } }
     s.slaveOn = true ∧ s.ridge.s.waitAns = some 3 ∧ s.ridge.lstate = .croaking) ∧
    ((slave .locking).slaveOn = true ∧ (slave .locking).ridge.s.lastTick + 5000 ≤ (slave .locking).ticks) ∧
    (let s := link (slave .joining) fun r => { r with s := { r.s with joinFr := 13 } }
     s.slaveOn = true ∧ s.ridge.lstate = .joining ∧ 13 ≤ s.ridge.s.joinFr) ∧
    ((put (slave .admitted) [(Reg.ridgeCfg, 0x2000)]).lossAct = 2 ∧ (slave .admitted).lossAct ≠ 2) := by
  unfold Readable Reaches; and_intros <;> decide +kernel

/-- A kept command of opcode op with argument a, due at 1000. -/
def kept (op : Nat) (a : Word) : RidgeCmd := { op := op, dst := dstAll, cseq := 1, arg0 := 1000, arg1 := a }

/-- An admitted slave that keeps it. -/
def keeps (s : State) (c : RidgeCmd) : State :=
  at_ (link s fun r => { r with lstate := .admitted, node := 1, s := { r.s with timed := [c] } }) 1000

theorem witness_RidgeLaunchesAct :
    (let s := keeps (run .slv) (kept 1 0)
     let u := link s fun r => { r with s := { r.s with once := true } }
     Store.wf regDflt u.regs = true ∧ u.dueCmd 1 = some (kept 1 0) ∧ u.seqRuns = true ∧ u.coreRuns = true ∧ u.seq.state = .idle ∧
       u.stopAtSame (kept 1 0).arg0 = false ∧ u.unjoined = false) ∧
    (let s := link (keeps (run .slv) (kept 1 0)) fun r => { r with s := { r.s with timed := [kept 1 0, kept 2 0] } }
     s.dueCmd 1 = some (kept 1 0) ∧ (s.dropTimed (kept 1 0)).stopAtSame (kept 1 0).arg0 = true) ∧
    ((keeps (up .slv) (kept 2 0)).dueCmd 2 = some (kept 2 0) ∧ (keeps (up .slv) (kept 2 0)).seq.state = .up) ∧
    (let s := keeps (launch (up .slv) fun q => { q with grpDown := 0x80 }) (kept 3 7)
     s.dueCmd 3 = some (kept 3 7) ∧ s.seqRuns = true ∧ s.seq.state = .up ∧ s.seq.grpDown.getLsbD (fld (kept 3 7).arg1 0 3) = true ∧
       s.seq.grpStop.getLsbD (fld (kept 3 7).arg1 0 3) = false) ∧
    (keeps (up .slv) (kept 4 7)).dueCmd 4 = some (kept 4 7) ∧
    (let s := keeps (up .slv) (kept 5 0x01000000)
     s.isShadow = false ∧ s.dueCmd 5 = some (kept 5 0x01000000) ∧ fld (kept 5 0x01000000).arg1 24 8 ≠ 0 ∧
       fld (kept 5 0x01000000).arg1 0 24 = 0) ∧
    (let s := keeps (up .slv) (kept 6 15)
     let u : State := { s with fab := { s.fab with run := true } }
     u.dueCmd 6 = some (kept 6 15) ∧ u.seqRuns = true ∧ u.coreRuns = true ∧ u.fabRuns = true) ∧
    ((keeps (up .slv) (kept 7 0)).dueCmd 7 = some (kept 7 0) ∧ fld (kept 7 0).arg1 0 8 = 0) ∧
    (let s := keeps (put (rail (up .slv) 23 fun x => { x with state := .on }) [(Reg.mrgCfg 7, 0x117)]) (kept 7 0x180)
     ListsWf s ∧ Store.wf regDflt s.regs = true ∧ s.dueCmd 7 = some (kept 7 0x180) ∧ s.seqRuns = true ∧ s.seq.state = .up ∧
       s.sinkBit 0x49 = false ∧ fld (kept 7 0x180).arg1 0 8 = 2 ^ 7 ∧ s.mrgCh 7 = some 23 ∧ fld (kept 7 0x180).arg1 8 2 = 1 ∧
       s.rstate 23 = .on) ∧
    (let s := keeps (run .slv) (kept 8 0xC1A00001)
     Settled s ∧ s.dueCmd 8 = some (kept 8 0xC1A00001) ∧ s.seqRuns = true ∧ s.isRole .slv = true) ∧
    ((keeps (run .slv) (kept 8 0)).dueCmd 8 = some (kept 8 0) ∧ (kept 8 0).arg1 ≠ 0xC1A00001#32) ∧ (run .stk).seqRuns = false := by
  unfold ListsWf Settled; and_intros <;> decide +kernel

/-- The scheduler changed. -/
def schd (s : State) (f : Sched → Sched) : State := { s with sched := f s.sched }

theorem witness_SchedulerComplete :
    (let s := at_ (schd (run .sgl) fun x => { x with zxLast := some 1000 }) 8020
     Store.wf regDflt s.regs = true ∧ s.schedules = true ∧ s.clk.gated = false ∧ s.pwr.doze = false ∧ s.sched.zxLast = some 1000 ∧
       s.zxLate = false ∧ 7000 ≤ (s.tb.now - w32 (20 + s.regFld Reg.schedZxcfg 0 11) - 1000).toNat) ∧
    (let s := at_ (schd (run .sgl) fun x => { x with zxLast := some 1000 }) 8019
     (s.tb.now - w32 (20 + s.regFld Reg.schedZxcfg 0 11) - 1000).toNat < 7000) ∧
    (run .slv).regFld Reg.schedCfg 1 2 ≠ 1 ∧
    (at_ (schd (run .sgl) fun x => { x with zxLast := some 1000 }) 13501).zxLate = true ∧
    (let g : Grant := { t := 1000, len := 1, mask := 1 }
     let s := at_ (schd (up .sgl) fun x => { x with pend := [g] }) 1000
     s.sched.pend = g :: [] ∧ s.due g.t = true ∧ s.isShadow = false ∧ s.seqRuns = true ∧ s.coreRuns = true ∧ g.len ≠ 0) ∧
    (let g : Grant := { t := 1000, len := 0, mask := 1 }
     let s := at_ (schd (up .sgl) fun x => { x with pend := [g] }) 1000
     s.sched.pend = g :: [] ∧ s.due g.t = true ∧ g.len = 0) ∧
    (let g : Grant := { t := 1000, len := 1, mask := 1 }
     let s := at_ (schd (up .sgl) fun x => { x with cur := some g }) 1100
     s.sched.cur = some g ∧ s.due g.stop = true ∧ s.grantDue = false ∧ s.isShadow = false) ∧
    (Reaches (run .slv) .svc Reg.schedUs ∧ Reaches (run .sgl) .host (Reg.schedLDuty 63) ∧ Reaches (run .mst) .host (Reg.schedLDuty 0)) := by
  unfold Reaches; and_intros <;> decide +kernel

/-! ### Hypotheses met: the pair, the stack, the chain master -/

/-- A pair unit in a state, everything of the pair changed. -/
def pairIn (st : PairState) (f : Pair → Pair) : State :=
  let s := run .sgl
  { s with role := { s.role with pair := true }, pair := f { s.pair with pstate := st } }

/-- A CLAIM of the partner at position B. -/
def claim : MFrame := { ty := 1, fseq := 0, payload := [1, 0, 0, 0, 0, 0, 0, 0] ++ List.replicate 8 7 }

/-- A heartbeat of the partner at position B in a pair state. -/
def beat (st : Nat) : MFrame := { ty := 2, fseq := 0, payload := [1, b8 st] ++ List.replicate 22 0 }

theorem witness_PairFormsUp :
    (let s := pairIn .listen fun p => { p with listenAt := (run .sgl).ticks - 300, txAt := (run .sgl).ticks - 40 }
     s.paired = true ∧ s.mirrorUp = true ∧ s.pair.pstate = .listen ∧ s.ticks ≤ s.pair.listenAt + 300 ∧ s.pair.txAt + 40 ≤ s.ticks ∧
       s.pair.claimWait = none ∧ s.pair.listenAt + 300 ≤ s.ticks ∧ s.pair.pstate ≠ .none ∧ s.mirrorFree = true) ∧
    (let s := pairIn .listen fun p => { p with listenAt := 5, txAt := 4, claimWait := some 5 }
     s.pair.txAt < s.pair.listenAt ∧ s.pair.claimWait.isSome = true ∧ s.pair.listenAt + 5300 ≤ s.ticks) ∧ (run .sgl).mirrorUp = false ∧
    (mframe claim.bytes = some claim ∧ claim.ty = 1 ∧ claim.payload.length = 16 ∧
      decide (leAt claim.payload 0 1 = 1) ≠ (pairIn .listen id).pos ∧ (pairIn .listen id).pair.pstate = .listen) ∧
    (mframe (beat 4).bytes = some (beat 4) ∧ (beat 4).ty = 2 ∧ (beat 4).payload.length = 24 ∧
      decide (leAt (beat 4).payload 0 1 = 1) ≠ (pairIn .solo id).pos ∧ w32 (leAt (beat 4).payload 12 4) = (pairIn .solo id).imgTag ∧
      (pairIn .solo id).pair.pstate = .solo ∧ (pairIn .solo id).paired = true ∧ leAt (beat 4).payload 1 1 = 4) ∧
    (mframe (beat 2).bytes = some (beat 2) ∧ leAt (beat 2).payload 1 1 = 2) ∧ (mframe [1, 2, 3]).isNone = true := by
  and_intros <;> decide +kernel

/-- A stream frame numbered 1. -/
def streamed (ty : Nat) (l : List Byte) : MFrame := { ty := ty, fseq := 1, payload := l }

theorem witness_ShadowFollowsTheStream :
    (∀ st ∈ [PairState.regrow, .inStep],
      let s := pairIn st fun p => { p with expect := 1, copyOk := true }
      s.mirrorUp = true ∧ s.pair.pstate = st ∧ Store.wf regDflt s.regs = true ∧ Store.wf (fun _ => 0) s.pair.copy = true ∧
        s.pair.expect = 1 ∧ s.pair.copyOk = true) ∧
    (let m := streamed 0x10 (deltaBytes [(2047, 5)])
     mframe m.bytes = some m ∧ m.fseq = 1 ∧ m.ty = 0x10 ∧ 2047 < 2048) ∧
    (mframe (streamed 0x12 [0, 0]).bytes = some (streamed 0x12 [0, 0])) ∧
    (let m := streamed 0x11 (leBytes 2 0 ++ leBytes 4 (mirrorDigest []).toNat)
     mframe m.bytes = some m ∧ w32 (leAt m.payload 2 4) = mirrorDigest [] ∧ (pairIn .inStep id).pair.copy = []) ∧
    (let m := streamed 0x13 [1, 2, 3, 4]
     mframe m.bytes = some m ∧ m.fseq ≠ (pairIn .inStep fun p => { p with expect := 2 }).pair.expect) := by
  refine ⟨by decide +kernel, by decide +kernel, by decide +kernel, ⟨?_, digest_read 0 _, by decide +kernel⟩, by decide +kernel⟩
  exact mframe_bytes _ (by decide) (by decide) (by simp [streamed, leBytes])

/-- A PRIMARY at the end of an epoch whose image is its copy. -/
def primary : State :=
  let s := at_ (pairIn .primary fun p => { p with stream := true, commitAt := none, deltas := [], unacked := [] }) 500
  { s with pair := { s.pair with copy := s.mirrorImage } }

/-- Its copy is its image. -/
theorem primary_copy : primary.pair.copy = primary.mirrorImage := by
  unfold primary; exact (State.mirrorImage_copy _ _).symm

theorem witness_PrimaryKeepsTheStream :
    (primary.paired = true ∧ primary.pair.pstate = .primary ∧ primary.pair.stream = true ∧ primary.tb.now.toNat % 100 = 0 ∧
      primary.pair.commitAt ≠ some primary.tb.now ∧ primary.pair.deltas = [] ∧ primary.pair.unacked = []) ∧
    (primary.pair.copy = primary.mirrorImage ∧ primary.mirrorSync.pair.stream = true) ∧
    (let m : MFrame := { ty := 0x20, fseq := 0, payload := [9, 0, 1, 2, 3, 4, 0, 0] }
     let s := pairIn .primary fun p => { p with commits := [(9, 7, 0)] }
     mframe m.bytes = some m ∧ m.ty = 0x20 ∧ m.payload.length = 8 ∧ s.mirrorUp = true ∧ s.pair.pstate = .primary ∧ Store.wf regDflt s.regs = true ∧
       (s.pair.commits.find? fun c => decide (c.1 = leAt m.payload 0 2)) = some (leAt m.payload 0 2, 7, 0) ∧ leAt m.payload 6 1 = 0) ∧
    (let s := pairIn .primary fun p => { p with commits := [(9, 7, (run .sgl).ticks - 500)] }
     (s.pair.commits.find? fun c => decide (c.2.2 ≠ 0) && s.passed c.2.2 500) = some (9, 7, s.ticks - 500)) ∧
    (let s := pairIn .primary fun p => { p with stream := true, sent := 1, ackAt := (run .sgl).ticks - 60 }
     s.mirrorUp = true ∧ s.pair.stream = true ∧ 0 < s.pair.sent ∧ s.pair.ackAt + 60 ≤ s.ticks) ∧
    (let m : MFrame := { ty := 0x21, fseq := 0, payload := [0] }
     mframe m.bytes = some m ∧ (pairIn .solo id).pair.pstate.drives = true) ∧
    (let s := pairIn .solo fun p => { p with guardAt := (run .sgl).ticks - 10 }
     s.mirrorUp = true ∧ s.pairShown.drives = true ∧ s.pair.guardAt + 10 ≤ s.ticks) := by
  refine ⟨by and_intros <;> decide +kernel, ⟨primary_copy, State.mirrorSync_stream _ (by decide +kernel) primary_copy (by decide +kernel)⟩, ?_⟩
  and_intros <;> decide +kernel

/-- The partner in step. -/
def partner5 : Partner := { pos := true, pstate := 5, term := 1, imgTag := 0, uid := 7, restart := false, copyOk := true }

theorem witness_PartnerLossAndYield :
    (∀ st ∈ [PairState.primary, .regrow, .inStep],
      let s := pairIn st fun p => { p with lastHb := some 0 }
      s.paired = true ∧ s.pair.lastHb = some 0 ∧ 0 + 300 ≤ s.ticks ∧ s.pair.pstate = st ∧ s.regBit Reg.pairCfg 8 = false) ∧
    (let t := (run .sgl).ticks
     let s := put (pairIn .inStep fun p => { p with lastHb := some (t - 300), lastEdge := some (t - 1) }) [(Reg.pairCfg, 0x100)]
     s.pair.pstate = .inStep ∧ s.regBit Reg.pairCfg 8 = true ∧ s.guardAlive (t - 300) = false ∧ s.guardSeen = true ∧ s.pair.lost = false) ∧
    (let s := put (at_ (pairIn .primary fun p => { p with partner := some partner5 }) 0) [(Reg.pairYieldT, 1000)]
     Reaches s .host Reg.pairCtrl ∧ s.isShadow = false ∧ fld (0x9A1F0001 : Word) 16 16 = 0x9A1F ∧ bit (0x9A1F0001 : Word) 0 = true ∧
       s.pair.pstate = .primary ∧ (s.pair.partner.map fun x => x.pstate) = some 5 ∧ s.tooLate (s.reg Reg.pairYieldT) 1000 = false) ∧
    (let s := put (at_ (pairIn .primary fun p => { p with partner := some partner5 }) 1) [(Reg.pairYieldT, 1000)]
     s.tooLate (s.reg Reg.pairYieldT) 1000 = true) ∧
    (Reaches (pairIn .solo id) .svc Reg.pairCtrl ∧ (pairIn .solo id).pair.pstate ≠ .primary ∧ fld (0x9A1E0001 : Word) 16 16 ≠ 0x9A1F) ∧
    (let s := pairIn .regrow id
     Reaches s .host Reg.pairCtrl ∧ s.isShadow = true ∧ fld (0x9A1F0002 : Word) 16 16 = 0x9A1F ∧ bit (0x9A1F0002 : Word) 1 = true) ∧
    (∀ st ∈ [PairState.primary, .inStep],
      let s := at_ (pairIn st fun p => { p with yield := some 700, yieldSeq := none }) 700
      s.paired = true ∧ s.pair.yield = some 700 ∧ s.due 700 = true ∧ s.pair.yieldSeq = none ∧ s.pair.pstate = st) ∧
    (let s := at_ (pairIn .primary fun p => { p with yield := some 700, yieldSeq := some 3 }) 600
     s.pair.yield = some 700 ∧ s.pair.yieldSeq.isSome = true ∧ s.until 700 = 100 ∧ (at_ s 601).tooLate 700 100 = true) := by
  unfold Reaches; and_intros <;> decide +kernel

/-- A stack unit with address 3, its block changed. -/
def unit3 (f : Unit_ → Unit_) : State :=
  let s := run .stk
  { s with role := { s.role with addr := 3, addrValid := true }, unit := f s.unit }

theorem witness_BalancingComplete :
    (let s := put (unit3 fun u => { u with perAt := 0 }) [(Reg.stackBalPer, 1000)]
     ListsWf s ∧ s.isRole .stk = true ∧ s.role.addrValid = true ∧ s.balPer ≠ 0 ∧ s.unit.perAt + 1000 * s.balPer ≤ s.ticks) ∧
    (let s := put (at_ (scans (unit3 id)) 19) [(Reg.chScanCfg, 1000), (Reg.stackUcfg, 0x200)]
     s.pauseDue = false ∧ (at_ s 800).pauseDue = true ∧ s.unit.pause = false) ∧
    (unit3 fun u => { u with pause := true }).unit.pause = true := by
  unfold ListsWf; and_intros <;> decide +kernel

/-- A chain master whose port P1 is in a given state. -/
def chainP1 (f : ChainPort → ChainPort) : State :=
  let s := run .mst
  { s with chain := { s.chain with p1 := f s.chain.p1 } }

theorem witness_EnumerationComplete :
    (Store.wf regDflt (run .stk).regs = true ∧ (run .stk).unitLive = true ∧ 1 ≤ 48 ∧ 48 < 49 ∧ 255 < 256) ∧
    (let s := unit3 fun u => { u with enumWait := some ((run .stk).ticks - 200) }
     s.unit.enumWait = some (s.ticks - 200) ∧ s.addressed = true ∧ s.unitLive = true ∧ s.ticks - 200 + 200 ≤ s.ticks) ∧
    (let b : List Byte := [3, 4, 0, 0, 0, 0]
     (unit3 id).addressed = true ∧ 6 ≤ b.length ∧ leAt b 0 1 = 3 ∧ leAt b 1 1 = (unit3 id).role.addr + 1) ∧
    (let s := put (chainP1 fun p => { p with state := .waking, at_ := 0 }) [(Reg.stackPCfg 1, 0x0A000001)]
     s.portLive true = true ∧ (s.port true).state = .waking ∧ (s.port true).at_ + 10000 * s.regFld (Reg.stackPCfg (b2n true)) 24 8 ≤ s.ticks) ∧
    (let s := chainP1 fun p => { p with state := .enumerating, at_ := 0 }
     Store.wf regDflt s.regs = true ∧ s.portLive true = true ∧ (s.port true).state = .enumerating ∧ leAt [2, 48, 0, 0, 0, (0 : Byte)] 0 1 = 2 ∧
       (s.port true).at_ + 20000 ≤ s.ticks) := by
  and_intros <;> decide +kernel

theorem witness_UnitFramesComplete :
    (let b := chainHead 0x10 4 9 1 0x204
     (unit3 id).addressed = true ∧ (unit3 id).unitLive = true ∧ 6 ≤ b.length ∧ leAt b 0 1 ≠ 1 ∧ (unit3 id).takesBody b = false ∧ leAt b 0 1 ≠ 3 ∧ leAt b 0 1 ≠ 2) ∧
    (let b := chainHead 0x10 3 9 1 0x204
     b.length = 6 ∧ leAt b 0 1 = 0x10 ∧ leAt b 1 1 = (unit3 id).role.addr ∧ (unit3 id).unit.lastCmd ≠ some b ∧
       (unit3 fun u => { u with lastCmd := some b }).unit.lastCmd = some b) ∧
    (let s := unit3 id
     Store.wf regDflt s.regs = true ∧ Reaches s .chain Reg.sysGpioOut ∧ (s.reach .chain Reg.sysGpioOut).map RegRow.acc = some .rw ∧
       s.role.addr < 256 ∧ (s.rwWrite .chain Reg.sysGpioOut 1).isNone = true ∧
       s.unit.lastCmd ≠ some (chainHead 0x11 s.role.addr 9 1 Reg.sysGpioOut ++ wordBytes [1])) := by
  unfold Reaches; and_intros <;> decide +kernel

theorem witness_UnitSleepsAndWakes :
    (let s := unit3 id
     Store.wf regDflt s.regs = true ∧ s.addressed = true ∧ s.unitLive = true ∧ s.unit.lastBc = none ∧ s.pwr.sleep = false ∧ s.isRole .stk = true) ∧
    (let s := put (unit3 fun u => { u with lastD := 0 }) [(Reg.stackUcfg, 0x00640000)]
     s.isRole .stk = true ∧ s.regFld Reg.stackUcfg 16 16 ≤ s.msSince s.unit.lastD) ∧
    (let s : State := { run .stk with pwr := { (run .stk).pwr with sleep := true } }
     s.pwr.sleep = true) := by
  and_intros <;> decide +kernel

/-- A READ of unit 48 in progress on P1. -/
def trans48 (n : Nat) : Trans :=
  { svc := true, frame := chainFrame (chainHead 0x10 48 9 2 0x204), write := false, unit := 48, cnt := 2, attempts := n, at_ := 0 }

theorem witness_ChainMasterComplete :
    (let s := chainP1 fun p => { p with state := .ready, units := 48 }
     Store.wf regDflt s.regs = true ∧ Reaches s .host Reg.stackPxCtrl ∧ s.chainOn = true ∧
       s.regBit (ctxKey false Reg.stackPxStat) 31 = false ∧ s.pxRefuses (bit (0x01300101 : Word) 24) 0x01300101 = 0 ∧
       (s.port (bit (0x01300101 : Word) 24)).trans = none ∧ bit (0x01300101 : Word) 0 = true ∧
       s.pxRefuses (bit (0x00300101 : Word) 24) 0x00300101 ≠ 0) ∧
    (let s := chainP1 fun p => { p with state := .ready, units := 48, trans := some (trans48 1) }
     s.portLive true = true ∧ (s.port true).trans = some (trans48 1) ∧ (s.port true).cmds = [] ∧ (s.port true).wait = [] ∧
       (s.port true).stale = [] ∧ (trans48 1).write = false ∧ (trans48 1).cnt = [(1 : Word), 2].length ∧ 9 = leAt (trans48 1).frame 5 1) ∧
    (let s := put (chainP1 fun p => { p with state := .ready, units := 48, trans := some (trans48 1) }) [(Reg.stackPCfg 1, 0x00010001)]
     (trans48 1).at_ + (40 + 34 * ((trans48 1).unit - 1)) ≤ s.ticks ∧
       (trans48 1).attempts ≤ s.regFld (Reg.stackPCfg (b2n true)) 16 2 ∧
       s.regFld (Reg.stackPCfg (b2n true)) 16 2 < (trans48 2).attempts) ∧
    (let s := chainP1 fun p => { p with state := .ready, units := 48 }
     Reaches s .host Reg.stackPortCtrl ∧ bit (0x57AC0103 : Word) 8 = true ∧ fld (0x57AC0103 : Word) 16 16 = 0x57AC ∧ fld (0x57AC0103 : Word) 0 4 = 3 ∧
       fld (0x57AC0104 : Word) 0 4 = 4 ∧ fld (0x57AC0105 : Word) 0 4 = 5 ∧ (s.port true).trans = none ∧ (s.port true).state = .ready ∧
       s.chainOn = true ∧ s.portBusy true = false ∧ s.portRefuses true .wakeEnum = false ∧ s.portRefuses true .enum = false ∧ fld (0x57AC0101 : Word) 0 4 = 1 ∧ fld (0x57AC0102 : Word) 0 4 = 2 ∧
       fld (0x57AD0101 : Word) 16 16 ≠ 0x57AC ∧ (s.port false).state ≠ .ready) ∧
    (let s := chainP1 id
     let u : State := { s with rst := { s.rst with busy := [(2, s.ticks)] } }
     Reaches u .host Reg.stackPortCtrl ∧ u.chainOn = true ∧ u.portBusy true = true) := by
  unfold Reaches; and_intros <;> decide +kernel

/-! ### Hypotheses met: the service port -/

/-- The port changed. -/
def port (s : State) (f : Svc → Svc) : State := { s with svc := f s.svc }

theorem witness_UsbComplete :
    ((run .sgl).supply.aon = true ∧ (run .sgl).svc.attached = true ∧ (run .sgl).svc.suspended = false ∧ (run .sgl).usbOn = true ∧
      (run .sgl).boot.bench = false ∧ (run .sgl).usbOut = true) ∧
    (let s := port (run .sgl) fun v => { v with suspended := true }
     s.svc.attached = true ∧ s.svc.suspended = true) ∧
    ((port (run .sgl) fun v => { v with dtr := true }).svc.dtr = true) ∧
    ((0x1F : Byte).toNat < 0x20 ∧ 0x23 < (0x24 : Byte).toNat ∧ [(1 : Byte), 2, 3, 4, 5, 6, 7].length = 7 ∧ 127 < 128) := by
  and_intros <;> decide +kernel

theorem witness_ServiceAccessComplete :
    (SvcNew (run .stk) 1 0 [] ∧ SvcNew (run .sgl) 2 255 (leBytes 2 0xFFFC ++ leBytes 2 1 ++ [0]) ∧ regRangeBad 0xFFFC 1 false = false ∧
      regRangeBad 0xFFFC 255 true = false) ∧
    (let s := run .mst
     let a := Reg.sysIrqEn
     Store.wf regDflt s.regs = true ∧ SvcNew s 3 1 (leBytes 2 a ++ leBytes 2 1 ++ [0] ++ leBytes 4 (1 : Word).toNat) ∧ Reaches s .svc a ∧
       (s.reach .svc a).map RegRow.acc = some .rw ∧ (s.rwWrite .svc a 1).isNone = true) ∧
    (port (run .mst) fun v => { v with level := .view }).svc.level = .view ∧
    (SvcNew (run .sgl) 4 1 (leBytes 4 0x1FFFC ++ leBytes 2 1) ∧ memRangeBad 0x1FFFC 1 = false) ∧
    (let s := run .sgl
     Store.wf mramDflt s.nvm.mram = true ∧ SvcNew s 5 1 (leBytes 4 0x16000 ++ leBytes 2 1 ++ leBytes 4 (1 : Word).toNat) ∧
       s.svc.level ≠ .view ∧ 0x16000 ≤ 0x16000 ∧ 0x1FFFC < 0x20000 ∧ s.srcFault = false ∧ s.blkBusy 4 = false ∧
       (s.window .svc).posted = none) := by
  unfold SvcNew Reaches; and_intros <;> decide +kernel

/-- The nonce 0, 1, …, 31, issued now. -/
def nonce : Nonce := { bytes := (List.range 32).map b8, since := State.reset.ticks }

/-- The AUTH payload of the signed request. -/
def authBytes : List Byte := authPayload.map b8

/-- The same with its last signature byte but the certificate's changed. -/
def badBytes : List Byte := authBytes.set 128 0

/-- The signature, the certificate and the key of the request pass checks 3 to 8 of R522 on an OPEN device. -/
theorem test_auth_request_is_valid :
    (port (run .sgl) fun v => { v with nonce := some nonce }).authChecks nonce.bytes authBytes = some true := by decide +kernel

theorem witness_SessionsComplete :
    (let s := run .sgl
     SvcNew s 6 1 [1] ∧ s.svc.idBad = false ∧ s.svc.lockEnd = none) ∧
    (let s := port (run .sgl) fun v => { v with nonce := some nonce }
     s.authChecks nonce.bytes authBytes = some true ∧ SvcNew s 7 1 authBytes ∧ SvcNew s 7 1 badBytes ∧ 132 ≤ authBytes.length ∧ authBytes.length = 131 + leAt authBytes 129 2 ∧
       leAt authBytes 129 2 ≤ 800 ∧ badBytes.length = 131 + leAt badBytes 129 2 ∧ s.role.state ≠ .safeIdle ∧
       s.nonceValid = some nonce.bytes ∧ s.svc.lockEnd = none ∧ (s.authChecks nonce.bytes badBytes).isNone = true) ∧
    (run .sgl).nonceValid = none ∧
    (let s := port (run .sgl) fun v => { v with nonce := some nonce, lockEnd := some (2 ^ 33) }
     s.nonceValid = some nonce.bytes ∧ s.svc.lockEnd.isSome = true) ∧
    (SvcNew (run .sgl) 8 1 [] ∧ SvcNew (run .sgl) 9 1 (List.replicate 16 0) ∧ SvcNew (run .sgl) 10 1 ([b8 1] ++ leBytes 2 0)) ∧
    (let s := port (run .sgl) fun v => { v with lastFrame := 0, nonce := some { nonce with since := 0 }, lockEnd := some (run .sgl).ticks }
     s.svc.attached = true ∧ s.svc.lastFrame + s.idleTime ≤ s.ticks ∧ s.svc.nonce = some { nonce with since := 0 } ∧
       0 + 60000000 ≤ s.ticks ∧ s.svc.lockEnd = some s.ticks) := by
  refine ⟨by unfold SvcNew; and_intros <;> decide +kernel, ⟨test_auth_request_is_valid, ?_⟩, ?_⟩ <;>
    unfold SvcNew <;> and_intros <;> decide +kernel

theorem witness_AuthFailuresLockOut :
    (let s := port (run .sgl) fun v => { v with nonce := some nonce, authFail := 2 }
     SvcNew s 7 1 badBytes ∧ s.nonceValid = some nonce.bytes ∧ s.svc.lockEnd = none ∧ 2 ≤ s.svc.authFail) ∧
    (port (run .sgl) fun v => { v with nonce := some nonce }).authChecks nonce.bytes authBytes ≠ none ∧
    (let s := port (run .sgl) fun v => { v with lockEnd := some (2 ^ 33) }
     SvcNew s 6 1 [2] ∧ s.svc.idBad = false ∧ s.svc.lockEnd = some (2 ^ 33) ∧ s.ticks < 2 ^ 33) ∧
    (Settled (run .sgl) ∧ (run .sgl).supply.aon = true ∧ (run .sgl).boot.bench = false) := by
  refine ⟨by unfold SvcNew; and_intros <;> decide +kernel, by rw [test_auth_request_is_valid]; exact Option.some_ne_none _,
    by unfold SvcNew; and_intros <;> decide +kernel, by unfold Settled; and_intros <;> decide +kernel⟩

theorem witness_ServiceMessagesFramed :
    ((run .sgl).usbOn = true ∧ (List.replicate 1024 (0 : Byte)).length ≤ 1024) ∧
    (port (run .sgl) fun v => { v with lastReq := some (b8 8, 1, []) }).svc.lastReq = some (b8 8, 1, []) ∧
    (SvcNew (run .sgl) 0 1 [] ∧ SvcNew (run .sgl) 13 1 [] ∧ SvcNew (run .sgl) 127 1 []) ∧ frameBad [0] = true ∧
    (let s := run .sgl
     Settled s ∧ SvcNew s 11 1 (leBytes 2 0xC1A0) ∧ s.svc.level ≠ .view) ∧
    (port (run .sgl) fun v => { v with level := .view }).svc.level = .view ∧
    (let s := run .sgl
     ListsWf s ∧ SvcNew s 12 1 ([b8 16] ++ leBytes 4 (5 : Word).toNat) ∧ s.svc.level = .factory ∧ s.fuseState = false ∧
       s.fuseDenied 16 5 = true ∧ s.fuseDenied 8 5 = false) := by
  unfold SvcNew Settled ListsWf; and_intros <;> decide +kernel

theorem witness_PinsPairsAndFirstFault :
    ((run .sgl).supply.aon = true ∧ (run .sgl).boot.bench = false) ∧
    (let s : State := { State.reset with supply := { State.reset.supply with aon := false } }
     s.supply.aon = false) ∧
    (let s := at_ (link master fun r => { r with m := { r.m with lastTick := some 5000 } }) 6000
     s.mstDrives = true ∧ s.ridge.m.lastTick = some 5000 ∧ s.just (s.nextTick 5000) = true) ∧
    ((run .sgl).mstDrives = false ∧ (run .sgl).slaveDrives = false ∧ (slave .croaking).slaveDrives = true) ∧
    ((run .sgl).regBit Reg.reactFirst 31 = false ∧ (put (run .sgl) [(Reg.reactFirst, 0x80170000)]).regBit Reg.reactFirst 31 = true) ∧
    (cascadeFirst 0 [⟨1, 2, 0x80000001⟩]).isNone = true ∧
    cascadeFirst 0 [⟨2, 1, 5⟩, ⟨1, 3, 5⟩, ⟨1, 2, 5⟩, ⟨0, 0, 0x80000000⟩] = some ⟨1, 2, 5⟩ := by
  and_intros <;> decide +kernel

/-! ### Ill-formed commands -/

/-- A string of n zero bytes. -/
def zeros (n : Nat) : List Byte := List.replicate n 0

/-- One ill-formed command for each check of `Instr.wf`: addresses out of range and out of line, channels, rails, blocks, cells, groups,
codes, margins, nodes, loads, frames, payloads and the coincident sources. -/
theorem test_wf_refuses :
    [Instr.registerWrite .host 0x10000 0, .registerWrite .host 2 0, .liveWrite .svc 0x10004 0, .liveWrite .svc 1 0, .rcFieldRead .host 0x10000,
      .rcFieldRead .host 3, .latchClear .host 0x10000 0, .latchClear .host 2 0, .ridgeRegRead 0x10000, .ridgeRegRead 1,
      .ridgeRegWrite 0x10000 0, .ridgeRegWrite 2 0, .pinReset [.pin], .pinReset [.host, .host], .parityError true [.parity],
      .ecc2Error false [.ecc2], .blockResetEnd 5, .fabTimerExpiry 64, .grpdnEdge 8, .fabIrqEdge 8, .ridgeTxEdge 16,
      .scanEdge (List.replicate 23 0) 0, .scanEdge (32768 :: List.replicate 23 0) 0, .wetStepDone (List.replicate 64 0), .wetStepDone [-32769],
      .resultRead .host 24, .snapRead .svc 24, .comparatorCrossing 24 true 50, .comparatorRelease 24 true, .deglitchQualify 24 false,
      .armHoldExpiry 24 true, .newtStrobe 24 true 0, .newtStrobe 0 true 40000, .railOnInstant 24, .rampInWindow 24, .rampTimeout 24 false,
      .clockFail .pll [.por], .benchExit [.por], .rstCmdWrite .host 0 [.host], .bgCheckPass true [.image], .fabSysReset [.fabric],
      .systemFabricReset [.clkfail], .ridgeReset [.ridge], .wdtDeadline [.wdt], .svcReset false 0 [] [.svc]].all
      (fun c => !c.wf) = true ∧
    [Instr.railOffInstant 24, .dischTimeout 24, .retryGapExpiry 24, .forgiveExpiry 24, .marginSlewStep 8, .marginTimeout 8,
      .headerReceive [], .burstReceive [], .replyReceive 0 [1] 0, .replyReceive 32 [1] 0, .replyReceive 1 [] 0, .replyMissing 0, .replyMissing 32,
      .ridgeAdmit 0 0, .ridgeAdmit 0 32, .croakReceive [], .headerCrcFail [], .dutyWrite .host 64 0, .claimReceive [], .heartbeatReceive [],
      .deltaReceive [], .commitReceive [], .digestReceive [], .snapreqReceive [], .chunkReceive [], .yieldReceive [], .mirrorFrameDiscard [],
      .balanceDutyEnd 16, .enumReceive [], .takenReceive true [], .enumEndReceive true [], .frameRepeat true [], .chainRead [], .chainWrite []].all
      (fun c => !c.wf) = true ∧
    [Instr.chainSnap [], .chainBaloff [], .chainSleep [], .chainReplyReceive true [], .hostReadTransaction .spi [] 0, .hostWriteTransaction .i2c [],
      .setLineCoding (zeros 65), .info false 0 (zeros 1025), .rread false 0 (zeros 1025), .rwrite false 0 (zeros 1025), .mread false 0 (zeros 1025),
      .mwrite false 0 (zeros 1025), .challenge false 0 (zeros 1025), .auth false 0 (zeros 1025), .logout false 0 (zeros 1025),
      .signedExport false 0 (zeros 1025), .cert false 0 (zeros 1025), .svcReset false 0 (zeros 1025) [], .fuseProgram false 0 (zeros 1025) none,
      .suindelmUnknownType false 0 0 (zeros 1025), .gpioInputChange 8 true, .usbStandardRequest (zeros 7), .suindelmFrameDiscard []].all
      (fun c => !c.wf) = true := by
  and_intros <;> decide +kernel

/-- And commands at the ends of the ranges, which it accepts. -/
theorem test_wf_accepts :
    [Instr.registerWrite .host 0xFFFC 0, .pinReset [.host, .wdt], .svcReset false 0 [] [.pin], .rampTimeout 23 true, .blockResetEnd 4, .fabTimerExpiry 63, .scanEdge (List.replicate 24 32767) 0,
      .wetStepDone (List.replicate 63 (-32768)), .resultRead .chain 23, .replyMissing 31, .ridgeAdmit 0 1, .dutyWrite .host 63 0,
      .balanceDutyEnd 15, .info false 0 (zeros 1024), .usbStandardRequest (zeros 8), .gpioInputChange 7 false].all Instr.wf = true := by
  decide +kernel

/-! ### Results the spec gives -/

/-- The ASCII string of the check values. -/
def digits : List Byte := [0x31, 0x32, 0x33, 0x34, 0x35, 0x36, 0x37, 0x38, 0x39]

/-- CRC-8 and CRC-16 of R487, and the CRC-32 of IEEE 802.3, which R164 names. -/
theorem test_checksums : crc8 digits = 0xF4 ∧ crc16 digits = 0x29B1 ∧ crc32 digits = 0xCBF43926 := by decide +kernel

/-- No row of the table has bits, so no word changes the queue. -/
theorem test_no_word_is_a_command : decodeTableWord 32 0 = none ∧ State.reset.withFetchWord 32 0 = State.reset := ⟨rfl, rfl⟩

/-- First in, first out. -/
theorem test_queue_is_fifo :
    step { run .sgl with pending := [.wakePinLevel false, .wakePinLevel true] } =
      .next { run .sgl with pending := [.wakePinLevel true], pins := { (run .sgl).pins with wakeN := false } } := rfl

/-- 3.4.2: at 0xFFFFF000 a launch at 0x00000800 is 6,144 µs ahead, and one at 0x8000F000 is past. -/
theorem test_launch_across_the_wrap :
    let s := at_ (run .mst) 0xFFFFF000
    s.until 0x00000800 = 6144 ∧ s.due 0x00000800 = false ∧ s.past 0x8000F000 = true := by
  and_intros <;> decide +kernel

/-- 2.11: `FUSE_ENRST0` = 0x24C0 is HIGHZ on EN3, HOLD on EN5 and HIGH on EN6; `SYS_ENMODE0` = 0x1715. -/
theorem test_en_drive_example :
    let s := put (port (run .slv) fun v => { v with shadow := v.shadow.set 4 0x24C0 }) [(Reg.sysEnmode0, 0x1715)]
    (List.range 8).map s.enMap = [0, 0, 0, 3, 0, 1, 2, 0] ∧ (List.range 8).map s.enMode = [1, 1, 1, 0, 3, 1, 1, 0] := by
  and_intros <;> decide +kernel

/-- 0.8: the result word 0x0012D6C1 is 4,822 with `FRESH` and `VALID`; the next read shows 0x0012D641. -/
theorem test_result_word_example :
    let s := put (run .sgl) [(Reg.resCh 3, 0x0012D6C1)]
    s.value 3 = 4822 ∧ s.valid 3 = true ∧ (after (.resultRead .host 3) s).hif.tx = [0x00, 0x12, 0xD6, 0xC1] ∧
      (after (.resultRead .host 3) s).reg (Reg.resCh 3) = 0x0012D641 := by
  and_intros <;> decide +kernel

/-- 6.7.3: 21,880 units at 10 µA are 11,000 Ω. -/
theorem test_wet_check_example : wetOhms 21880 10 1 = some 11000 := by decide +kernel

/-- 7.10: `CH22_CMP_TH` = 0x05A003C0 trips FL at 960 and FH at 1,440. -/
theorem test_threshold_example :
    let s := put (run .sgl) [(Reg.chCmpTh 22, 0x05A003C0)]
    s.cmpTh 22 false = 960 ∧ s.cmpTh 22 true = 1440 := by
  and_intros <;> decide +kernel

/-- 11.4: the bytes of a START with `CSEQ` 0x1A2B at 0x00400A8C; 12.11: those of a GRANT to node 2. -/
theorem test_command_bytes :
    (cmdBytes { op := 1, dst := 0x3F, cseq := 0x1A2B, arg0 := 0x00400A8C, arg1 := 0 }).take 12 =
      [0x01, 0x3F, 0x2B, 0x1A, 0x8C, 0x0A, 0x40, 0x00, 0, 0, 0, 0] ∧
    (cmdBytes { op := 5, dst := 2, cseq := 0x3C10, arg0 := 0x0050251C, arg1 := 0x64000007 }).take 12 =
      [0x05, 0x02, 0x10, 0x3C, 0x1C, 0x25, 0x50, 0x00, 0x07, 0x00, 0x00, 0x64] := by
  decide +kernel

/-- Table 11-14: the header of frame k. -/
theorem test_header_example :
    let c : QueueCmd :=
      { cmd := { op := 1, dst := 0x3F, cseq := 0x1A2B, arg0 := 0, arg1 := 0 }, chooseT := false, tries := 0, hcmd := false, proxy := false }
    let s := put (link master fun r =>
      { r with frame := 0x2F41, session := 0x5C,
               m := { r.m with nextCseq := 0x1A2C, burst := [c],
                               nodes := ((r.m.nodes.set 1 { Node.init with admitted := true }).set 2 { Node.init with admitted := true }).set 3
                                 { Node.init with admitted := true } } })
      [(Reg.ridgeCfg, 0x11F), (Reg.schedZxt, 0x003FFB50)]
    (schd s fun x => { x with zxOk := true, bepoch := 7 }).headerBody 0x00400000 =
      [0x48, 0x01, 0x41, 0x2F, 0x00, 0x00, 0x40, 0x00, 0x50, 0xFB, 0x3F, 0x00, 0x07, 0x00, 0x5C, 0x07, 0x0F, 0x00, 0x00, 0x00, 0x2B, 0x1A,
        0x01, 0x00] := by
  decide +kernel

/-- A load of the four-deck oven: 3 kW, class 1, on rail r of a node, with credit and wait. -/
def deck (node r credit wait : Nat) : Entry × Load :=
  ({ idx := 3 * node + r, node := node, rail := r, cls := 1, fb := 0, weight := 3000000, duty := 0 },
   { credit := credit, wait := wait, urgent := false, granted := false, active := true })

/-- Twelve loads by credit and wait of the four nodes. -/
def decks (l : List (Nat × Nat)) : List (Entry × Load) :=
  l.zipIdx.flatMap fun e => (List.range 3).map fun r => deck e.2 r e.1.1 e.1.2

/-- Table 12-8, decisions 2, 3 and 5 under 20 kW. -/
theorem test_decisions_example :
    (walkGrants 20000000 (ranked (decks [(1000, 0), (1000, 0), (1000, 0), (500, 0)]))).1 = [0, 1, 2, 3, 4, 5] ∧
    (walkGrants 20000000 (ranked (decks [(1000, 0), (500, 0), (1500, 1), (750, 0)]))).1 = [6, 7, 8, 0, 1, 2] ∧
    (walkGrants 20000000 (ranked (decks [(1000, 0), (500, 0), (1500, 1), (1250, 1)]))).1 = [6, 7, 8, 9, 10, 11] := by
  decide +kernel

/-- 12.11: a flue at 262.5 °C with limits 250.0 and 300.0 °C gives 750. -/
theorem test_heat_factor_example : heatFactor 2625 (w32 (2500 + 3000 * 65536)) = 750 := by decide +kernel

/-- 15.11: the write of `SNAP_NEXT` with its CRC-16 enters the queue; with a wrong CRC it does not. -/
theorem test_snap_next_transaction :
    let b : List Byte := [0x40, 0x10, 0x64, 0x00, 0x00, 0x00, 0x02]
    ((after (.hostWriteTransaction .spi (b ++ beBytes 2 (crc16 b))) (run .sgl)).hif.queue.map fun q => (q.addr, q.val)) = [(0x1064, 2)] ∧
    (after (.hostWriteTransaction .spi (b ++ [0, 0])) (run .sgl)).hif.queue = [] := by
  and_intros <;> decide +kernel

/-- 16.12: the INFO frame with `SEQ` 0x7D as it is on the line, and the MREAD frame of 128 words from 0x10200. -/
theorem test_service_frames :
    (svcLine (svcFrame 1 0x7D [])).take 6 = [0x7E, 0x00, 0x00, 0x01, 0x7D, 0x5D] ∧
    (svcLine (svcFrame 4 0x02 (leBytes 4 0x10200 ++ leBytes 2 128))).take 11 =
      [0x7E, 0x06, 0x00, 0x04, 0x02, 0x00, 0x02, 0x01, 0x00, 0x80, 0x00] := by
  decide +kernel

/-- 14.11: the READ of 16 words from 0x1084 of unit 3, with `SEQ` 0x5E. -/
theorem test_chain_frame :
    (chainFrame (chainHead 0x10 3 0x5E 16 0x1084)).take 9 = [0x55, 0x55, 0xD5, 0x10, 0x03, 0x5E, 0x10, 0x84, 0x10] := by
  decide +kernel

/-- Table 17-5: the first fault of the cascade is rail 4 of node 1, after 74,156 µs. -/
theorem test_cascade_first_fault :
    cascadeFirst 0x00400A8C [⟨0, 0, 0x00412C39⟩, ⟨3, 1, 0x00412C38⟩, ⟨1, 4, 0x00412C38⟩] = some ⟨1, 4, 0x00412C38⟩ ∧
    ((0x00412C38 : BitVec 32) - 0x00400A8C).toNat = 74156 := by
  decide +kernel

/-- R119 and Table 4-1: a pin reset shows source 1 in `RST_CAUSE`, with the level of an unprogrammed fuse map, L1. -/
theorem test_pin_reset_cause :
    fld (after (.pinReset []) (run .sgl)).rst.cause 0 4 = 1 ∧ fld (after (.pinReset []) (run .sgl)).rst.cause 4 2 = 1 := by
  and_intros <;> decide +kernel

/-- 14.11: ENUM(1) at a unit without an address: it takes address 1, answers TAKEN(1) and passes ENUM(2). -/
theorem test_enumeration_step :
    let t := after (.enumReceive (chainFrame (chainHead 1 1 0 0 0))) (run .stk)
    t.role.addr = 1 ∧ t.role.addrValid = true ∧ t.unit.txD.take 3 = [0x55, 0x55, 0xD5] ∧
      leAt t.unit.txD 3 1 = 3 ∧ leAt t.unit.txD 4 1 = 1 ∧
      t.unit.txU = chainFrame (chainHead 1 2 0 0 0) := by
  and_intros <;> decide +kernel

/-- R278: a HOLD outside IDLE and UP is refused with 2. -/
theorem test_hold_refused : (after (.seqHoldCmd .host 3) (held .sgl)).seq.cmdErr = 2 := by decide +kernel

/-- R107, R109: DOZE in IDLE is entered and stops the PLL; in UP it is refused with `DOZE_REF`. -/
theorem test_doze :
    (after (.dozeRequest .host 1) (run .sgl)).pwr.doze = true ∧ (after (.dozeRequest .host 1) (run .sgl)).clk.pllLock = false ∧
    (after (.dozeRequest .host 1) (up .sgl)).pwr.dozeRef = true ∧ (after (.dozeRequest .host 1) (up .sgl)).pwr.doze = false := by
  and_intros <;> decide +kernel

/-- R523: the third failed AUTH in a row locks out for 60 s. -/
theorem test_third_auth_failure :
    let s := port (run .sgl) fun v => { v with nonce := some nonce, authFail := 2 }
    (after (.auth false 1 badBytes) s).svc.lockEnd = some (s.ticks + 60000000) ∧ (after (.auth false 1 badBytes) s).svc.authFail = 3 ∧
      (after (.auth false 1 badBytes) s).svc.level = .factory := by
  and_intros <;> decide +kernel

end Sys2Proof.Tests
end

section
/-! SUPPORT. What one register access leaves behind: the word that a plain register then holds, what a closed path and an
absent register answer, and what a read by the host clears. -/

namespace Sys2Proof.Machine

variable {s : State} {p : Port} {a : Nat} {v : Word} {r : RegRow}

/-- A command answers what holds of the state it leaves. -/
theorem Answers.of_exec {c : Instr} {t t' : State} {P : State → Prop} (hc : exec c s = .next t) (ht : t = t') (hP : P t') :
    Answers c s P :=
  ⟨t', ht ▸ hc, hP⟩

/-- An access that puts one word into the register file leaves every other register and every other block as it was. -/
theorem State.setReg_spec (s : State) (a : Nat) (v : Word) (h : Store.wf regDflt s.regs = true) :
    (s.setReg a v).reg a = v ∧ (∀ b, b ≠ a → (s.setReg a v).reg b = s.reg b) ∧
      s.setReg a v = { s with regs := (s.setReg a v).regs } :=
  ⟨State.reg_setReg_same s h, fun _ hb => State.reg_setReg_ne s hb.symm, rfl⟩

/-- A write that arrives at a W1C register without a rule of its own clears the written bits. -/
theorem State.access_w1c_plain (h : Reaches s p a) (hr : regRow? a = some r) (hc : r.acc = .w1c) (hfl : a ≠ Reg.cmpFlLat)
    (hfh : a ≠ Reg.cmpFhLat) (hus : a ≠ Reg.schedUs) : s.access p a v = s.clearBits a (v &&& w32 r.mask) := by
  rw [State.access_w1c h hr hc, State.w1cWrite, if_neg hfl, if_neg hfh, if_neg hus]

/-- A write that arrives at a RW register without an effect of its own stores the masked value. -/
theorem State.access_rw_plain (h : Reaches s p a) (hr : regRow? a = some r) (hc : r.acc = .rw)
    (hw : s.rwWrite p a v = none) : s.access p a v = s.setReg (s.keyOf p a) (v &&& w32 r.mask) := by
  rw [State.access_of_reaches h hr, hc]
  simp [hw]

/-! ### Pending LIVE writes (R11) -/

/-- The entry put into a store is the one that a search for its address finds. -/
theorem Store.find?_insert_same (m : List (Nat × Word)) :
    (Store.insert m a v).find? (fun e => decide (e.1 = a)) = some (a, v) := by
  induction m with
  | nil => simp [Store.insert]
  | cons e t ih =>
    obtain ⟨k, w⟩ := e
    rw [Store.insert]
    split
    · simp
    · split
      · simp
      next hne => simp [Ne.symm hne, ih]

/-- While the scan engine runs a LIVE write stays pending. -/
theorem State.liveWrite_of_scanning (h : s.scanStopped = false) :
    s.liveWrite a v = { s with live := Store.insert s.live a (s.liveForm a v) } := by
  have hscan : State.scanStopped { s with live := Store.insert s.live a (s.liveForm a v) } = false := h
  simp [State.liveWrite, State.liveSettle, hscan]

/-- A pending LIVE value reads back. -/
theorem State.liveValue_insert (s : State) (w : Word) :
    State.liveValue { s with live := Store.insert s.live a w } a = w := by
  simp [State.liveValue, Store.find?_insert_same]

/-! ### Closed paths and absent registers (R3, R98) -/

theorem State.access_of_closed (h : s.pathOpen p = false) : s.access p a v = s := by
  simp [State.access, h]

theorem State.fetch_of_closed (h : s.pathOpen p = false) : s.fetch p a = s := by
  simp [State.fetch, h]

/-- Neither the host nor the chain reaches a register that the active role lacks. -/
theorem State.reach_of_absent (h : s.present a = none) (hr : p ≠ .ridge) (hs : p ≠ .svc) : s.reach p a = none := by
  cases p with
  | host => simp [State.reach, h]
  | chain => simp [State.reach, h]
  | ridge => exact absurd rfl hr
  | svc => exact absurd rfl hs

theorem State.access_of_unreached (h : s.reach p a = none) : s.access p a v = s := by
  simp [State.access, State.portWrite, h]

theorem State.fetch_of_unreached (ho : s.pathOpen p = true) (h : s.reach p a = none) : s.fetch p a = s.deliver p 0 := by
  simp [State.fetch, State.portRead, ho, h]

/-! ### Reads that meet a register (R12) -/

/-- A read that meets a register with no window behind it delivers the word shown; a read by the host or the chain then clears
the bits that a read clears. -/
theorem State.fetch_of_readable (h : Readable s p a) (hr : regRow? a = some r) (hlog : a ≠ Reg.logData)
    (hnvm : a ≠ Reg.nvmData) (htb : a ≠ Reg.tbUpLo) :
    s.fetch p a = (if p = .host ∨ p = .chain then s.readClear r a else s).deliver p (s.shown p r a) := by
  obtain ⟨hopen, hblk, hreach⟩ := h
  obtain ⟨q, hq⟩ := Option.isSome_iff_exists.mp hreach
  obtain rfl : q = r := Option.some.inj ((State.reach_row hq).symm.trans hr)
  simp [State.fetch, State.portRead, hopen, hblk, hq, hlog, hnvm, htb]

/-- A delivery leaves the register file alone. -/
@[simp] theorem State.deliver_regs (s : State) (p : Port) (w : Word) : (s.deliver p w).regs = s.regs := by
  cases p <;> rfl

/-- A delivery leaves every register as it reads. -/
@[simp] theorem State.deliver_reg (s : State) (p : Port) (w : Word) (b : Nat) : (s.deliver p w).reg b = s.reg b := by
  simp [State.reg]

/-- The word has left by the path it was asked on. -/
theorem State.delivered_deliver (s : State) (p : Port) (w : Word) : Delivered p (s.deliver p w) w := by
  cases p with
  | ridge => exact ⟨rfl, rfl⟩
  | host => rfl
  | svc => rfl
  | chain => rfl

end Sys2Proof.Machine
end

section
/-! SUPPORT. Obligations settled: the front command of a step; register accesses. -/

namespace Sys2Proof.Machine

/-- Settles O1: `step` matches on the queue, and its first arm is the statement. -/
theorem stepRunsFrontCommand : Obligations.StepRunsFrontCommand := by
  intro c rest s hq
  simp [step, hq]

/-- Settles O19: a write that reaches its register acts by the access code (R8), and a LIVE write under way of a scan only
joins the pending ones (R11). -/
theorem registerWrites : Obligations.RegisterWrites := by
  refine ⟨fun s p a v r hr hreach hwf => ⟨fun hacc hrw => ?rw, fun hacc hfl hfh hus => ?w1c, fun hacc => ?ro⟩,
    fun s p a v r hr hreach hacc hscan => ?live⟩
  case rw => exact .of_exec rfl (State.access_rw_plain hreach hr hacc hrw) (State.setReg_spec s _ _ hwf)
  case w1c => exact .of_exec rfl (State.access_w1c_plain hreach hr hacc hfl hfh hus) (State.setReg_spec s _ _ hwf)
  case ro =>
    have hcode : accOf a = some .ro ∨ accOf a = some .rc := by simpa [accOf, hr] using hacc
    exact .of_exec rfl (State.access_ro hreach hcode) rfl
  case live =>
    have hcode : accOf a = some .live := by simp [accOf, hr, hacc]
    exact .of_exec rfl ((State.access_live hreach hcode).trans (State.liveWrite_of_scanning hscan))
      ⟨State.liveValue_insert s _, rfl, rfl⟩

/-- Settles O20: every access asks first whether its path is open (log entry 28) and whether the register is there (R3). -/
theorem readsAndClosedPaths : Obligations.ReadsAndClosedPaths := by
  refine ⟨fun s p a v hclosed => ?closed, fun s p a v habsent hridge hsvc hopen => ?absent,
    fun s a r hr hread hacc hwf hlog hnvm htb => ?clears⟩
  case closed =>
    have hwrite : ok (s.access p a v) = ok s := congrArg ok (State.access_of_closed hclosed)
    exact ⟨hwrite, hwrite, hwrite, congrArg ok (State.fetch_of_closed hclosed)⟩
  case absent =>
    have hreach := State.reach_of_absent habsent hridge hsvc
    exact ⟨congrArg ok (State.access_of_unreached hreach), congrArg ok (State.fetch_of_unreached hopen hreach)⟩
  case clears =>
    have hclear : s.readClear r a = s.setReg a 0 := by simp [State.readClear, hacc]
    have hfetch := State.fetch_of_readable hread hr hlog hnvm htb
    rw [if_pos (.inl rfl), hclear] at hfetch
    obtain ⟨hsame, hother, -⟩ := State.setReg_spec s a 0 hwf
    exact .of_exec rfl hfetch ⟨State.delivered_deliver _ .host _, by simpa using hsame, by simpa using hother⟩

end Sys2Proof.Machine
end

section
/-! SUPPORT. Frames. `Within bs s t` says that t differs from s in the blocks bs alone. One lemma per update of a block; the
operations of the engines are composed of these, and have one lemma each in the sections below. -/

namespace Sys2Proof.Machine

/-- The blocks of the state. -/
inductive Block where
  | pending | ticks | free | role | boot | clk | tb | supply | pwr | pins | rst | regs | live | liveImg | img | fab | meas
  | cmp | seq | react | mrg | nvm | ridge | sched | pair | unit | chain | hif | wdt | svc
  deriving DecidableEq

/-- A block is the same in t as in s. -/
def Block.Same (s t : State) : Block → Prop
  | .pending => t.pending = s.pending
  | .ticks => t.ticks = s.ticks
  | .free => t.free = s.free
  | .role => t.role = s.role
  | .boot => t.boot = s.boot
  | .clk => t.clk = s.clk
  | .tb => t.tb = s.tb
  | .supply => t.supply = s.supply
  | .pwr => t.pwr = s.pwr
  | .pins => t.pins = s.pins
  | .rst => t.rst = s.rst
  | .regs => t.regs = s.regs
  | .live => t.live = s.live
  | .liveImg => t.liveImg = s.liveImg
  | .img => t.img = s.img
  | .fab => t.fab = s.fab
  | .meas => t.meas = s.meas
  | .cmp => t.cmp = s.cmp
  | .seq => t.seq = s.seq
  | .react => t.react = s.react
  | .mrg => t.mrg = s.mrg
  | .nvm => t.nvm = s.nvm
  | .ridge => t.ridge = s.ridge
  | .sched => t.sched = s.sched
  | .pair => t.pair = s.pair
  | .unit => t.unit = s.unit
  | .chain => t.chain = s.chain
  | .hif => t.hif = s.hif
  | .wdt => t.wdt = s.wdt
  | .svc => t.svc = s.svc

theorem Block.Same.refl (s : State) (b : Block) : b.Same s s := by
  cases b <;> exact Eq.refl _

theorem Block.Same.trans {s t u : State} {b : Block} (h : b.Same s t) (h' : b.Same t u) : b.Same s u := by
  cases b <;> exact Eq.trans h' h

/-- s with the blocks of bs taken from t. -/
def State.patch (bs : List Block) (s t : State) : State :=
  { pending := if .pending ∈ bs then t.pending else s.pending,
    ticks := if .ticks ∈ bs then t.ticks else s.ticks,
    free := if .free ∈ bs then t.free else s.free,
    role := if .role ∈ bs then t.role else s.role,
    boot := if .boot ∈ bs then t.boot else s.boot,
    clk := if .clk ∈ bs then t.clk else s.clk,
    tb := if .tb ∈ bs then t.tb else s.tb,
    supply := if .supply ∈ bs then t.supply else s.supply,
    pwr := if .pwr ∈ bs then t.pwr else s.pwr,
    pins := if .pins ∈ bs then t.pins else s.pins,
    rst := if .rst ∈ bs then t.rst else s.rst,
    regs := if .regs ∈ bs then t.regs else s.regs,
    live := if .live ∈ bs then t.live else s.live,
    liveImg := if .liveImg ∈ bs then t.liveImg else s.liveImg,
    img := if .img ∈ bs then t.img else s.img,
    fab := if .fab ∈ bs then t.fab else s.fab,
    meas := if .meas ∈ bs then t.meas else s.meas,
    cmp := if .cmp ∈ bs then t.cmp else s.cmp,
    seq := if .seq ∈ bs then t.seq else s.seq,
    react := if .react ∈ bs then t.react else s.react,
    mrg := if .mrg ∈ bs then t.mrg else s.mrg,
    nvm := if .nvm ∈ bs then t.nvm else s.nvm,
    ridge := if .ridge ∈ bs then t.ridge else s.ridge,
    sched := if .sched ∈ bs then t.sched else s.sched,
    pair := if .pair ∈ bs then t.pair else s.pair,
    unit := if .unit ∈ bs then t.unit else s.unit,
    chain := if .chain ∈ bs then t.chain else s.chain,
    hif := if .hif ∈ bs then t.hif else s.hif,
    wdt := if .wdt ∈ bs then t.wdt else s.wdt,
    svc := if .svc ∈ bs then t.svc else s.svc }

/-- t comes from s by changes within the blocks bs. -/
def Within (bs : List Block) (s t : State) : Prop := ∀ b, b ∉ bs → b.Same s t

namespace Within

variable {bs bs' : List Block} {s t u : State}

theorem refl : Within bs s s := fun b _ => Block.Same.refl s b

/-- A change within some of the blocks, after changes within bs. -/
theorem also (h : Within bs s t) (hl : bs' ⊆ bs) (h' : Within bs' t u) : Within bs s u :=
  fun b hb => (h b hb).trans (h' b fun hb' => hb (hl hb'))

theorem pick {α : Sort _} {b : Block} {x y : α} (h : b ∉ bs → x = y) : x = if b ∈ bs then x else y := by
  split
  · rfl
  · exact h ‹_›

/-- A change within bs takes the blocks of bs from t, and the others from s. -/
theorem eq_patch (h : Within bs s t) : t = s.patch bs t := by
  cases t
  simp only [State.patch, State.mk.injEq]
  exact ⟨pick (h .pending), pick (h .ticks), pick (h .free), pick (h .role), pick (h .boot), pick (h .clk), pick (h .tb),
    pick (h .supply), pick (h .pwr), pick (h .pins), pick (h .rst), pick (h .regs), pick (h .live), pick (h .liveImg),
    pick (h .img), pick (h .fab), pick (h .meas), pick (h .cmp), pick (h .seq), pick (h .react), pick (h .mrg),
    pick (h .nvm), pick (h .ridge), pick (h .sched), pick (h .pair), pick (h .unit), pick (h .chain), pick (h .hif),
    pick (h .wdt), pick (h .svc)⟩

theorem eq_regs (h : Within [.regs] s t) : t = { s with regs := t.regs } := h.eq_patch

theorem either {c : Prop} [Decidable c] (ht : Within bs s t) (hu : Within bs s u) : Within bs s (if c then t else u) := by
  split
  · exact ht
  · exact hu

theorem eitherFst {α : Type} {c : Prop} [Decidable c] {x y : State × α} (hx : Within bs s x.1) (hy : Within bs s y.1) :
    Within bs s (if c then x else y).1 := by
  split
  · exact hx
  · exact hy

theorem eitherSnd {α : Type} {c : Prop} [Decidable c] {x y : α × State} (hx : Within bs s x.2) (hy : Within bs s y.2) :
    Within bs s (if c then x else y).2 := by
  split
  · exact hx
  · exact hy

/-- A fold whose every step stays within bs. -/
theorem foldl {α : Type} {f : State → α → State} {xs : List α} (h : Within bs s t)
    (hf : ∀ t x, Within bs s t → Within bs s (f t x)) : Within bs s (xs.foldl f t) := by
  induction xs generalizing t with
  | nil => exact h
  | cons x xs ih => exact ih (hf t x h)

/-! ### Updates of a block -/

/-- What changes no block outside bs. -/
theorem of_eq_patch (h : t = s.patch bs t) : Within bs s t := by
  intro b hb
  rw [h]
  cases b <;> simp [Block.Same, State.patch, hb]

theorem modBoot {f} (h : Within bs s t) (hl : [.boot] ⊆ bs := by decide) : Within bs s (t.modBoot f) :=
  h.also hl (of_eq_patch rfl)

theorem modClk {f} (h : Within bs s t) (hl : [.clk] ⊆ bs := by decide) : Within bs s (t.modClk f) :=
  h.also hl (of_eq_patch rfl)

theorem modSupply {f} (h : Within bs s t) (hl : [.supply] ⊆ bs := by decide) : Within bs s (t.modSupply f) :=
  h.also hl (of_eq_patch rfl)

theorem modPins {f} (h : Within bs s t) (hl : [.pins] ⊆ bs := by decide) : Within bs s (t.modPins f) :=
  h.also hl (of_eq_patch rfl)

theorem modRst {f} (h : Within bs s t) (hl : [.rst] ⊆ bs := by decide) : Within bs s (t.modRst f) :=
  h.also hl (of_eq_patch rfl)

theorem modFab {f} (h : Within bs s t) (hl : [.fab] ⊆ bs := by decide) : Within bs s (t.modFab f) :=
  h.also hl (of_eq_patch rfl)

theorem modCmp {f} (h : Within bs s t) (hl : [.cmp] ⊆ bs := by decide) : Within bs s (t.modCmp f) :=
  h.also hl (of_eq_patch rfl)

theorem modReact {f} (h : Within bs s t) (hl : [.react] ⊆ bs := by decide) : Within bs s (t.modReact f) :=
  h.also hl (of_eq_patch rfl)

theorem modMrg {f} (h : Within bs s t) (hl : [.mrg] ⊆ bs := by decide) : Within bs s (t.modMrg f) :=
  h.also hl (of_eq_patch rfl)

theorem modNvm {f} (h : Within bs s t) (hl : [.nvm] ⊆ bs := by decide) : Within bs s (t.modNvm f) :=
  h.also hl (of_eq_patch rfl)

theorem modRidge {f} (h : Within bs s t) (hl : [.ridge] ⊆ bs := by decide) : Within bs s (t.modRidge f) :=
  h.also hl (of_eq_patch rfl)

theorem modSched {f} (h : Within bs s t) (hl : [.sched] ⊆ bs := by decide) : Within bs s (t.modSched f) :=
  h.also hl (of_eq_patch rfl)

theorem modPair {f} (h : Within bs s t) (hl : [.pair] ⊆ bs := by decide) : Within bs s (t.modPair f) :=
  h.also hl (of_eq_patch rfl)

theorem modUnit {f} (h : Within bs s t) (hl : [.unit] ⊆ bs := by decide) : Within bs s (t.modUnit f) :=
  h.also hl (of_eq_patch rfl)

theorem modChain {f} (h : Within bs s t) (hl : [.chain] ⊆ bs := by decide) : Within bs s (t.modChain f) :=
  h.also hl (of_eq_patch rfl)

theorem modHif {f} (h : Within bs s t) (hl : [.hif] ⊆ bs := by decide) : Within bs s (t.modHif f) :=
  h.also hl (of_eq_patch rfl)

theorem modSvc {f} (h : Within bs s t) (hl : [.svc] ⊆ bs := by decide) : Within bs s (t.modSvc f) :=
  h.also hl (of_eq_patch rfl)

theorem setReg {a : Nat} {v : Word} (h : Within bs s t) (hl : [.regs] ⊆ bs := by decide) : Within bs s (t.setReg a v) :=
  h.also hl (of_eq_patch rfl)

theorem mwrite {a : Nat} {w : Word} (h : Within bs s t) (hl : [.nvm] ⊆ bs := by decide) : Within bs s (t.mwrite a w) :=
  h.also hl (of_eq_patch rfl)

theorem withFree {x} (h : Within bs s t) (hl : [.free] ⊆ bs := by decide) : Within bs s { t with free := x } :=
  h.also hl (of_eq_patch rfl)

theorem withTb {x} (h : Within bs s t) (hl : [.tb] ⊆ bs := by decide) : Within bs s { t with tb := x } :=
  h.also hl (of_eq_patch rfl)

end Within

/-- Whatever state the command answers is within bs of s. -/
def Runs (bs : List Block) (s : State) (o : Out) : Prop := ∀ t, o = .next t → Within bs s t

namespace Runs

variable {bs : List Block} {s t : State} {o o' : Out}

theorem ok (h : Within bs s t) : Runs bs s (ok t) := fun _ e => by cases e; exact h

theorem either {c : Prop} [Decidable c] (h : Runs bs s o) (h' : Runs bs s o') : Runs bs s (if c then o else o') := by
  split
  · exact h
  · exact h'

end Runs

end Sys2Proof.Machine
end

section
/-! SUPPORT. The frames of the engines' operations: the blocks that each may change. -/

-- A lemma's default argument is ready only once its proof is: taken up all at once, the lemmas below would wait in a thread each.
set_option Elab.async false

namespace Sys2Proof.Machine.Within

variable {bs : List Block} {s₀ s t : State}

/-! ### Registers, timebase and free values -/

theorem setRegFld {a lo n v : Nat} (h : Within bs s₀ s) (hl : [.regs] ⊆ bs := by decide) : Within bs s₀ (s.setRegFld a lo n v) :=
  h.also hl refl.setReg

theorem setRegBit {a i : Nat} {b : Bool} (h : Within bs s₀ s) (hl : [.regs] ⊆ bs := by decide) :
    Within bs s₀ (s.setRegBit a i b) :=
  h.also hl refl.setReg

theorem raise {a i : Nat} (h : Within bs s₀ s) (hl : [.regs] ⊆ bs := by decide) : Within bs s₀ (s.raise a i) :=
  h.also hl refl.setReg

theorem count {a lo n k : Nat} (h : Within bs s₀ s) (hl : [.regs] ⊆ bs := by decide) : Within bs s₀ (s.count a lo n k) :=
  h.also hl refl.setReg

theorem slewBy {e : Int} (h : Within bs s₀ s) (hl : [.tb] ⊆ bs := by decide) : Within bs s₀ (s.slewBy e) := h.also hl <| by
  unfold State.slewBy
  exact refl.withTb

theorem takeRandom {n : Nat} (h : Within bs s₀ s) (hl : [.free] ⊆ bs := by decide) : Within bs s₀ (s.takeRandom n).2 :=
  h.also hl refl.withFree

/-! ### Records of one channel, rail or output -/

theorem modCmpCh {n : Nat} {f : CmpCh → CmpCh} (h : Within bs s₀ s) (hl : [.cmp] ⊆ bs := by decide) :
    Within bs s₀ (s.modCmpCh n f) := h.also hl refl.modCmp

theorem modComp {n : Nat} {high : Bool} {f : Comp → Comp} (h : Within bs s₀ s) (hl : [.cmp] ⊆ bs := by decide) :
    Within bs s₀ (s.modComp n high f) := h.also hl refl.modCmpCh

theorem modReactAt {n : Nat} {f : ReactRail → ReactRail} (h : Within bs s₀ s) (hl : [.react] ⊆ bs := by decide) :
    Within bs s₀ (s.modReactAt n f) := h.also hl refl.modReact

theorem modDac {m : Nat} {f : Dac → Dac} (h : Within bs s₀ s) (hl : [.mrg] ⊆ bs := by decide) : Within bs s₀ (s.modDac m f) :=
  h.also hl refl.modMrg

/-! ### Log and counters -/

theorem modIdx {k : LogJobKind} {f : LogIndex → LogIndex} (h : Within bs s₀ s) (hl : [.nvm] ⊆ bs := by decide) :
    Within bs s₀ (s.modIdx k f) := by
  cases k
  · exact h.modNvm hl
  · exact h.modNvm hl

theorem idxCommit {k : LogJobKind} {slot seq : Nat} (h : Within bs s₀ s) (hl : [.nvm] ⊆ bs := by decide) :
    Within bs s₀ (s.idxCommit k slot seq) := h.also hl refl.modIdx

theorem logCommit {k : LogJobKind} (h : Within bs s₀ s) (hl : [.nvm] ⊆ bs := by decide) :
    Within bs s₀ (s.logCommit k) := h.also hl <| by
  unfold State.logCommit
  split
  · exact either refl.mwrite.idxCommit.modNvm refl
  · exact refl

theorem flushCounters (h : Within bs s₀ s) (hl : [.nvm] ⊆ bs := by decide) : Within bs s₀ s.flushCounters :=
  h.also hl ((refl.foldl fun _ _ h => h.mwrite).modNvm)

theorem clearLog (h : Within bs s₀ s) (hl : [.regs, .nvm] ⊆ bs := by decide) : Within bs s₀ s.clearLog := h.also hl <| by
  unfold State.clearLog
  exact ((refl.foldl fun _ _ h => h.mwrite).foldl fun _ _ h => h.mwrite).modNvm.setReg

theorem clearCounters (h : Within bs s₀ s) (hl : [.nvm] ⊆ bs := by decide) : Within bs s₀ s.clearCounters := h.also hl <| by
  unfold State.clearCounters
  exact (refl.foldl fun _ _ h => h.mwrite.modNvm).modNvm

theorem modWin {p : Port} {f : Window → Window} (h : Within bs s₀ s) (hl : [.nvm] ⊆ bs := by decide) :
    Within bs s₀ (s.modWin p f) := by
  cases p <;> exact h.modNvm hl

/-! ### Fabric -/

theorem pulse {i : Nat} (h : Within bs s₀ s) (hl : [.fab] ⊆ bs := by decide) : Within bs s₀ (s.pulse i) :=
  h.also hl (either refl.modFab refl)

theorem takeEdges {p : Nat → Bool} {es : List Nat} (h : Within bs s₀ s) (he : s.takeEdges p = some (es, t))
    (hl : [.fab] ⊆ bs := by decide) : Within bs s₀ t := by
  unfold State.takeEdges at he
  split at he
  · cases he
    exact h.modFab hl
  · cases he

/-! ### Snapshots -/

theorem copySnap (h : Within bs s₀ s) (hl : [.regs] ⊆ bs := by decide) : Within bs s₀ s.copySnap := h.also hl <| by
  unfold State.copySnap
  exact (refl.foldl fun _ _ h => h.setReg.setReg).setReg.setReg

theorem snapWrite {v : Word} (h : Within bs s₀ s) (hl : [.regs] ⊆ bs := by decide) : Within bs s₀ (s.snapWrite v) :=
  h.also hl (either refl.copySnap (either refl.setRegBit.setRegBit refl))

/-! ### Self-checks -/

theorem chkBegin {periodic : Bool} {since : Nat} {ks : List Nat} (h : Within bs s₀ s) (hl : [.cmp] ⊆ bs := by decide) :
    Within bs s₀ (s.chkBegin periodic since ks) := by
  induction ks generalizing s with
  | nil => exact h.modCmp hl
  | cons k ks ih => exact either (ih (h.modComp hl)) (either (ih (h.modComp hl)) ((h.modComp hl).modCmp hl))

/-! ### Margins -/

theorem mrgBack {m : Nat} (h : Within bs s₀ s) (hl : [.mrg] ⊆ bs := by decide) :
    Within bs s₀ (s.mrgBack m) := h.also hl refl.modDac

theorem mrgBackAll (h : Within bs s₀ s) (hl : [.mrg] ⊆ bs := by decide) : Within bs s₀ s.mrgBackAll :=
  h.also hl (refl.foldl fun _ _ h => h.mrgBack)

/-! ### Pins and the registers of the stack -/

theorem pumpStart (h : Within bs s₀ s) (hl : [.supply] ⊆ bs := by decide) : Within bs s₀ s.pumpStart :=
  h.also hl (either refl.modSupply refl)

theorem mapPins {l : Level} (h : Within bs s₀ s) (hl : [.pins] ⊆ bs := by decide) : Within bs s₀ (s.mapPins l) :=
  h.also hl refl.modPins

theorem stackEvt {i : Nat} (h : Within bs s₀ s) (hl : [.regs] ⊆ bs := by decide) : Within bs s₀ (s.stackEvt i) :=
  h.also hl refl.raise

theorem putPxWords {svc : Bool} {l : List Word} (h : Within bs s₀ s) (hl : [.regs] ⊆ bs := by decide) :
    Within bs s₀ (s.putPxWords svc l) := h.also hl (refl.foldl fun _ _ h => h.setReg)

theorem pxFail {svc : Bool} {attempts err : Nat} (h : Within bs s₀ s) (hl : [.regs] ⊆ bs := by decide) :
    Within bs s₀ (s.pxFail svc attempts err) := h.also hl <| by
  unfold State.pxFail
  exact refl.setReg.putPxWords.stackEvt

theorem balPins (h : Within bs s₀ s) (hl : [.pins] ⊆ bs := by decide) : Within bs s₀ s.balPins :=
  h.also hl (either refl.modPins refl)

/-! ### Chain master -/

theorem modPort {p1 : Bool} {f : ChainPort → ChainPort} (h : Within bs s₀ s) (hl : [.chain] ⊆ bs := by decide) :
    Within bs s₀ (s.modPort p1 f) := h.also hl refl.modChain

theorem startWake {p1 : Bool} (h : Within bs s₀ s) (hl : [.chain] ⊆ bs := by decide) : Within bs s₀ (s.startWake p1) :=
  h.also hl refl.modPort

theorem sendEnum {p1 : Bool} (h : Within bs s₀ s) (hl : [.chain] ⊆ bs := by decide) :
    Within bs s₀ (s.sendEnum p1) := h.also hl <| by
  unfold State.sendEnum
  exact refl.modPort

theorem startTrans {p1 svc write : Bool} {unit cnt reg : Nat} (h : Within bs s₀ s) (hl : [.regs, .chain] ⊆ bs := by decide) :
    Within bs s₀ (s.startTrans p1 svc write unit cnt reg) := h.also hl <| by
  unfold State.startTrans
  exact refl.setRegFld.modPort

theorem broadcast {p1 : Bool} {ty : Nat} (h : Within bs s₀ s) (hl : [.chain] ⊆ bs := by decide) :
    Within bs s₀ (s.broadcast p1 ty) := h.also hl <| by
  unfold State.broadcast
  exact refl.modPort

theorem portAct {p1 : Bool} {c : PortCmd} (h : Within bs s₀ s) (hl : [.regs, .chain] ⊆ bs := by decide) :
    Within bs s₀ (s.portAct p1 c) := h.also hl <| by
  refine either refl.stackEvt ?_
  cases c with
  | wakeEnum => exact refl.startWake
  | enum => exact refl.sendEnum
  | sleep => exact refl.broadcast.modPort
  | balOff => exact refl.broadcast
  | snap => exact refl.broadcast

theorem portNext {p1 : Bool} (h : Within bs s₀ s) (hl : [.regs, .chain] ⊆ bs := by decide) :
    Within bs s₀ (s.portNext p1) := h.also hl <| by
  unfold State.portNext
  exact (refl.modPort.foldl fun _ _ h => h.portAct).modPort.foldl fun _ _ h =>
    either h.pxFail (either h.pxFail (either h.modPort h.startTrans))

theorem stackErr {p1 : Bool} {lo : Nat} (h : Within bs s₀ s) (hl : [.regs] ⊆ bs := by decide) : Within bs s₀ (s.stackErr p1 lo) :=
  h.also hl refl.count

theorem attemptFailed {p1 : Bool} {t : Trans} (h : Within bs s₀ s) (hl : [.regs, .chain] ⊆ bs := by decide) :
    Within bs s₀ (s.attemptFailed p1 t) := h.also hl <| by
  unfold State.attemptFailed
  exact either refl.stackEvt.setRegFld.modPort refl.modPort.pxFail.stackErr.portNext

theorem takeEnd {p1 : Bool} {n : Nat} (h : Within bs s₀ s) (hl : [.regs, .chain] ⊆ bs := by decide) :
    Within bs s₀ (s.takeEnd p1 n) := h.also hl <| by
  unfold State.takeEnd
  exact either refl (either refl.modPort.stackEvt.stackEvt refl.modPort.stackEvt)

/-! ### Scheduler -/

theorem schedEvt {i : Nat} (h : Within bs s₀ s) (hl : [.regs] ⊆ bs := by decide) : Within bs s₀ (s.schedEvt i) :=
  h.also hl refl.raise

theorem zxLose (h : Within bs s₀ s) (hl : [.regs, .sched] ⊆ bs := by decide) : Within bs s₀ s.zxLose :=
  h.also hl refl.modSched.schedEvt

/-! ### Ridge master -/

theorem modM {f : RMaster → RMaster} (h : Within bs s₀ s) (hl : [.ridge] ⊆ bs := by decide) : Within bs s₀ (s.modM f) :=
  h.also hl refl.modRidge

theorem modS {f : RSlave → RSlave} (h : Within bs s₀ s) (hl : [.ridge] ⊆ bs := by decide) : Within bs s₀ (s.modS f) :=
  h.also hl refl.modRidge

theorem ridgeEvt {i : Nat} (h : Within bs s₀ s) (hl : [.regs] ⊆ bs := by decide) : Within bs s₀ (s.ridgeEvt i) :=
  h.also hl refl.raise

theorem ridgeErr {lo : Nat} (h : Within bs s₀ s) (hl : [.regs] ⊆ bs := by decide) : Within bs s₀ (s.ridgeErr lo) :=
  h.also hl refl.count

theorem endProxy {done : Bool} {err : Nat} (h : Within bs s₀ s) (hl : [.regs, .ridge] ⊆ bs := by decide) :
    Within bs s₀ (s.endProxy done err) := h.also hl refl.setReg.modM

/-! ### Pair -/

theorem pairEvt {i : Nat} (h : Within bs s₀ s) (hl : [.regs] ⊆ bs := by decide) :
    Within bs s₀ (s.pairEvt i) := h.also hl refl.raise

theorem pairCount {lo : Nat} (h : Within bs s₀ s) (hl : [.regs] ⊆ bs := by decide) : Within bs s₀ (s.pairCount lo) :=
  h.also hl refl.count

theorem sendMirror {m : MFrame} (h : Within bs s₀ s) (hl : [.pair] ⊆ bs := by decide) : Within bs s₀ (s.sendMirror m) :=
  h.also hl refl.modPair

theorem mirrorOvf (h : Within bs s₀ s) (hl : [.regs, .pair] ⊆ bs := by decide) : Within bs s₀ s.mirrorOvf :=
  h.also hl refl.modPair.pairEvt

theorem placeMirror {ty : Nat} {payload : List Byte} (h : Within bs s₀ s) (hl : [.regs, .pair] ⊆ bs := by decide) :
    Within bs s₀ (s.placeMirror ty payload) := h.also hl <| by
  unfold State.placeMirror
  exact either refl.modPair.mirrorOvf refl.modPair

theorem placeDelta (h : Within bs s₀ s) (hl : [.regs, .pair] ⊆ bs := by decide) : Within bs s₀ s.placeDelta := h.also hl <| by
  unfold State.placeDelta
  exact refl.modPair.placeMirror

theorem placeDeltas {n : Nat} (h : Within bs s₀ s) (hl : [.regs, .pair] ⊆ bs := by decide) :
    Within bs s₀ (State.placeDeltas n s) := by
  induction n generalizing s with
  | zero => exact h
  | succ n ih => exact either h (ih (h.placeDelta hl))

theorem mirrorSync (h : Within bs s₀ s) (hl : [.regs, .pair] ⊆ bs := by decide) : Within bs s₀ s.mirrorSync := h.also hl <| by
  unfold State.mirrorSync
  exact either refl (either refl.modPair.mirrorOvf refl.modPair)

theorem heard (h : Within bs s₀ s) (hl : [.pair] ⊆ bs := by decide) : Within bs s₀ s.heard := h.also hl refl.modPair

theorem ordered {m : MFrame} {f : State → State} (h : Within bs s₀ s) (hf : ∀ t, Within bs s₀ t → Within bs s₀ (f t))
    (hl : [.pair] ⊆ bs := by decide) : Within bs s₀ (s.ordered m f) :=
  either (hf _ (h.modPair hl)) h

theorem pairErr {c : Nat} (h : Within bs s₀ s) (hl : [.pair] ⊆ bs := by decide) : Within bs s₀ (s.pairErr c) :=
  h.also hl refl.modPair

/-! ### Stack unit -/

theorem unitCrcErr (h : Within bs s₀ s) (hl : [.regs] ⊆ bs := by decide) : Within bs s₀ s.unitCrcErr := h.also hl refl.count.raise

theorem unitFrame (h : Within bs s₀ s) (hl : [.regs, .unit] ⊆ bs := by decide) : Within bs s₀ s.unitFrame :=
  h.also hl refl.count.modUnit

theorem passFrame {up : Bool} {bytes : List Byte} (h : Within bs s₀ s) (hl : [.unit] ⊆ bs := by decide) :
    Within bs s₀ (s.passFrame up bytes) := h.also hl refl.modUnit

/-! ### Start-up -/

theorem toStage {k : Nat} (h : Within bs s₀ s) (hl : [.boot] ⊆ bs := by decide) : Within bs s₀ (s.toStage k) :=
  h.also hl refl.modBoot

theorem dropShadow (h : Within bs s₀ s) (hl : [.boot, .pins] ⊆ bs := by decide) : Within bs s₀ s.dropShadow :=
  h.also hl refl.modBoot.mapPins

theorem toFallback (h : Within bs s₀ s) (hl : [.clk] ⊆ bs := by decide) : Within bs s₀ s.toFallback := h.also hl refl.modClk

theorem enterStage6 (h : Within bs s₀ s) (hl : [.boot, .supply] ⊆ bs := by decide) : Within bs s₀ s.enterStage6 :=
  h.also hl refl.toStage.pumpStart

/-! ### Ridge slave -/

theorem enterCroaking (h : Within bs s₀ s) (hl : [.ridge] ⊆ bs := by decide) : Within bs s₀ s.enterCroaking := h.also hl <| by
  unfold State.enterCroaking
  exact refl.modRidge.modS

theorem toListen (h : Within bs s₀ s) (hl : [.ridge] ⊆ bs := by decide) : Within bs s₀ s.toListen := h.also hl refl.modRidge.modS

theorem resolveTo {last : Nat} (h : Within bs s₀ s) (hl : [.regs, .ridge] ⊆ bs := by decide) :
    Within bs s₀ (s.resolveTo last) := h.also hl <| by
  unfold State.resolveTo
  exact refl.modS.count

theorem headerLost (h : Within bs s₀ s) (hl : [.regs, .ridge] ⊆ bs := by decide) : Within bs s₀ s.headerLost :=
  h.also hl <| by
    unfold State.headerLost
    dsimp only
    split
    · exact refl.modS.modS.resolveTo
    · exact refl.modS

theorem headerBad (h : Within bs s₀ s) (hl : [.regs, .ridge] ⊆ bs := by decide) : Within bs s₀ s.headerBad :=
  h.also hl refl.headerLost.ridgeErr

theorem takeAdmit {uid : BitVec 64} {n : Nat} (h : Within bs s₀ s) (hl : [.ridge] ⊆ bs := by decide) :
    Within bs s₀ (s.takeAdmit uid n) := h.also hl (either refl (either refl.modRidge.modS (either refl.modRidge refl)))

theorem takeReject {uid : BitVec 64} (h : Within bs s₀ s) (hl : [.regs, .ridge] ⊆ bs := by decide) :
    Within bs s₀ (s.takeReject uid) := h.also hl (either refl.enterCroaking.modS.ridgeEvt refl)

theorem takeDelay {d : Nat} (h : Within bs s₀ s) (hl : [.tb, .regs, .ridge] ⊆ bs := by decide) :
    Within bs s₀ (s.takeDelay d) := h.also hl <| by
  unfold State.takeDelay
  exact refl.slewBy.setReg.modS

theorem dropTimed {c : RidgeCmd} (h : Within bs s₀ s) (hl : [.ridge] ⊆ bs := by decide) : Within bs s₀ (s.dropTimed c) :=
  h.also hl refl.modS

/-! ### Host interface -/

theorem hifEnd {err : Nat} (h : Within bs s₀ s) (hl : [.hif] ⊆ bs := by decide) : Within bs s₀ (s.hifEnd err) :=
  h.also hl refl.modHif

theorem hifLate {err : Nat} (h : Within bs s₀ s) (hl : [.hif] ⊆ bs := by decide) : Within bs s₀ (s.hifLate err) :=
  h.also hl (either refl refl.hifEnd.modHif)

/-! ### Service port -/

theorem toView (h : Within bs s₀ s) (hl : [.svc] ⊆ bs := by decide) : Within bs s₀ s.toView := h.also hl refl.modSvc

theorem usbAnswer {r : Option (List Byte)} (h : Within bs s₀ s) (hl : [.svc] ⊆ bs := by decide) : Within bs s₀ (s.usbAnswer r) :=
  h.also hl refl.modSvc

/-- Of the standard requests only SET_ADDRESS and SET_CONFIGURATION, the second and the fourth of the list, write (R504). -/
theorem usbStandard {dir recip req val idx len : Nat} (h : Within bs s₀ s) (hl : [.svc] ⊆ bs := by decide) :
    Within bs s₀ (s.usbStandard dir recip req val idx len).2 := h.also hl <| by
  unfold State.usbStandard
  dsimp only
  split
  case h_2 => exact refl.modSvc
  case h_4 => exact eitherSnd refl.modSvc refl
  all_goals exact refl

theorem svcAccept (h : Within bs s₀ s) (hl : [.regs, .svc] ⊆ bs := by decide) : Within bs s₀ s.svcAccept :=
  h.also hl refl.count.modSvc

theorem svcRequest {busy : Bool} {type seq : Byte} {payload : List Byte} {handler : Handler} (h : Within bs s₀ s)
    (hh : ∀ t p, Within bs s₀ t → Within bs s₀ (handler t p).2) (hl : [.regs, .svc] ⊆ bs := by decide) :
    Within bs s₀ (s.svcRequest busy type seq payload handler) := by
  have ha : Within bs s₀ s.svcAccept := h.also hl refl.svcAccept
  unfold State.svcRequest
  refine either h (either (ha.also hl refl.count.modSvc) (either (ha.also hl refl.modSvc) ?_))
  exact (hh _ _ ha).also hl refl.modSvc

theorem infoReq {p : List Byte} (h : Within bs s₀ s) : Within bs s₀ (infoReq s p).2 := eitherSnd h h

theorem authFailed (h : Within bs s₀ s) (hl : [.regs, .svc] ⊆ bs := by decide) : Within bs s₀ s.authFailed := h.also hl <| by
  unfold State.authFailed
  exact refl.modSvc.raise

theorem authGranted {lvl : Nat} {exc : Bool} (h : Within bs s₀ s) (hl : [.regs, .svc] ⊆ bs := by decide) :
    Within bs s₀ (s.authGranted lvl exc) := h.also hl refl.modSvc.raise

theorem authReq {p : List Byte} (h : Within bs s₀ s) (hl : [.regs, .svc] ⊆ bs := by decide) :
    Within bs s₀ (authReq s p).2 := h.also hl <| by
  refine eitherSnd refl (eitherSnd refl ?_)
  split
  · exact refl
  · refine eitherSnd refl.modSvc ?_
    split
    · exact refl.authGranted
    · exact refl.authFailed

theorem logoutReq {p : List Byte} (h : Within bs s₀ s) (hl : [.svc] ⊆ bs := by decide) : Within bs s₀ (logoutReq s p).2 :=
  h.also hl (eitherSnd refl refl.toView)

end Sys2Proof.Machine.Within
end

section
/-! SUPPORT. The frames of the commands that stay within one or two blocks. -/

-- A lemma's default argument is ready only once its proof is: taken up all at once, the lemmas below would wait in a thread each.
set_option Elab.async false

namespace Sys2Proof.Machine

variable {s : State}

/-! ### Log and counters -/

theorem execRecordCommit_runs : Runs [.nvm] s (execRecordCommit s) := .ok Within.refl.logCommit

theorem execHistoryCommit_runs : Runs [.nvm] s (execHistoryCommit s) := .ok Within.refl.logCommit

theorem execCounterFlush_runs : Runs [.nvm] s (execCounterFlush s) := by
  unfold execCounterFlush
  exact .either (.ok .refl) (.ok (.either Within.refl.modNvm Within.refl.modNvm.flushCounters))

theorem execLogClearApply_runs : Runs [.regs, .nvm] s (execLogClearApply s) := by
  have hlog : Within [.regs, .nvm] s (if s.nvm.clrLog then s.clearLog else s) := .either Within.refl.clearLog .refl
  unfold execLogClearApply
  exact .either (.ok .refl) (.ok (.either hlog hlog.clearCounters))

/-! ### Fabric -/

theorem execFabTimerExpiry_runs {k : Nat} : Runs [.fab] s (execFabTimerExpiry k s) := by
  unfold execFabTimerExpiry
  exact .either (.ok .refl) (.ok Within.refl.modFab)

theorem execFabIrqEdge_runs {n : Nat} : Runs [.regs, .fab] s (execFabIrqEdge n s) := by
  unfold execFabIrqEdge
  split
  · exact .ok ((Within.refl.takeEdges ‹_›).raise)
  · exact .ok .refl

/-! ### Self-checks -/

theorem execSelfCheckPeriodic_runs : Runs [.cmp] s (execSelfCheckPeriodic s) := by
  unfold execSelfCheckPeriodic
  exact .either (.ok .refl) (.either (.ok Within.refl.modCmp.modCmp) (.ok Within.refl.modCmp.chkBegin))

/-! ### Reactions and margins -/

theorem execForgiveExpiry_runs {n : Nat} : Runs [.react] s (execForgiveExpiry n s) :=
  .either (.ok Within.refl.modReactAt) (.ok .refl)

theorem execSysForgiveExpiry_runs : Runs [.react] s (execSysForgiveExpiry s) := by
  unfold execSysForgiveExpiry
  exact .either (.ok Within.refl.modReact) (.ok .refl)

theorem execMarginSlewStep_runs {m : Nat} : Runs [.mrg] s (execMarginSlewStep m s) := by
  unfold execMarginSlewStep
  exact .either (.ok Within.refl.modDac) (.ok .refl)

theorem execMarginTimeout_runs {m : Nat} : Runs [.mrg] s (execMarginTimeout m s) := by
  unfold execMarginTimeout
  exact .either (.ok Within.refl.modDac.mrgBack) (.ok .refl)

theorem execMarginAbortEdge_runs : Runs [.fab, .mrg] s (execMarginAbortEdge s) := by
  unfold execMarginAbortEdge
  split
  · exact .either (.ok ((Within.refl.takeEdges ‹_›).mrgBackAll)) (.ok (Within.refl.takeEdges ‹_›))
  · exact .ok .refl

/-! ### Pins -/

theorem execResetPinRelease_runs : Runs [.pins] s (execResetPinRelease s) := .either (.ok .refl) (.ok Within.refl.modPins)

/-! ### Chain master -/

theorem execChainReplyTimeout_runs {p1 : Bool} : Runs [.regs, .chain] s (execChainReplyTimeout p1 s) := by
  unfold execChainReplyTimeout
  split
  · exact .either (.ok Within.refl.attemptFailed) (.ok .refl)
  · exact .ok .refl

theorem execWakeWaitExpiry_runs {p1 : Bool} : Runs [.chain] s (execWakeWaitExpiry p1 s) := by
  unfold execWakeWaitExpiry
  exact .either (.ok Within.refl.sendEnum) (.ok .refl)

theorem execEnumEndReceive_runs {p1 : Bool} {bytes : List Byte} : Runs [.regs, .chain] s (execEnumEndReceive p1 bytes s) := by
  refine .either (.ok .refl) ?_
  split
  · exact .either (.ok Within.refl.takeEnd) (.ok .refl)
  · exact .ok Within.refl.stackErr

theorem execEnumTimeout_runs {p1 : Bool} : Runs [.regs, .chain] s (execEnumTimeout p1 s) := by
  unfold execEnumTimeout
  exact .either (.ok Within.refl.modPort.stackEvt) (.ok .refl)

/-! ### Scheduler -/

theorem execZxLost_runs : Runs [.regs, .sched] s (execZxLost s) := .either (.ok Within.refl.zxLose) (.ok .refl)

/-! ### Ridge master -/

theorem execProxyReadTimeout_runs : Runs [.regs, .ridge] s (execProxyReadTimeout s) := by
  unfold execProxyReadTimeout
  split
  · exact .either (.ok Within.refl.endProxy) (.ok .refl)
  · exact .ok .refl

theorem execBurstBSend_runs : Runs [.ridge] s (execBurstBSend s) := by
  unfold execBurstBSend
  split
  · exact .either (.ok Within.refl.modRidge) (.ok .refl)
  · exact .ok .refl

theorem execCroakCollision_runs : Runs [.regs] s (execCroakCollision s) := .either (.ok Within.refl.ridgeEvt) (.ok .refl)

/-! ### Pair -/

theorem execMirrorResend_runs : Runs [.pair] s (execMirrorResend s) := .either (.ok Within.refl.modPair) (.ok .refl)

theorem mirrorIn_runs {ty : Nat} {bytes : List Byte} {f : State → MFrame → State} {bs : List Block}
    (hf : ∀ t m, Within bs s t → Within bs s (f t m)) (hl : [.regs, .pair] ⊆ bs := by decide) :
    Runs bs s (s.mirrorIn ty bytes f) := by
  unfold State.mirrorIn
  refine .either (.ok .refl) ?_
  split
  · exact .ok (Within.refl.also hl Within.refl.pairCount)
  · exact .ok (.either (hf _ _ (Within.refl.also hl Within.refl.heard)) (Within.refl.also hl Within.refl.heard))

theorem execMirrorFrameDiscard_runs {bytes : List Byte} : Runs [.regs] s (execMirrorFrameDiscard bytes s) :=
  .either (.ok Within.refl.pairCount) (.ok .refl)

theorem execClaimSend_runs : Runs [.pair] s (execClaimSend s) := .either (.ok Within.refl.sendMirror) (.ok .refl)

theorem execHeartbeatSend_runs : Runs [.pair] s (execHeartbeatSend s) := by
  unfold execHeartbeatSend
  exact .either (.ok Within.refl.sendMirror.modPair) (.ok .refl)

theorem execYieldReceive_runs {bytes : List Byte} : Runs [.regs, .pair] s (execYieldReceive bytes s) :=
  mirrorIn_runs fun _ _ h => (h.ordered fun _ h => .either h.modPair h)

theorem execEpochCommit_runs : Runs [.regs, .pair] s (execEpochCommit s) := by
  unfold execEpochCommit
  exact .either (.either (.ok Within.refl.mirrorSync) (.ok Within.refl.mirrorSync.placeDeltas.modPair.placeMirror))
    (.ok .refl)

theorem execDigestMissed_runs : Runs [.regs, .pair] s (execDigestMissed s) := by
  unfold execDigestMissed
  split
  · exact .either (.ok Within.refl.modPair.pairCount.pairEvt) (.ok .refl)
  · exact .ok .refl

theorem execSnapreqReceive_runs {bytes : List Byte} : Runs [.regs, .pair] s (execSnapreqReceive bytes s) :=
  mirrorIn_runs fun _ _ h => .either h.modPair h

theorem execGuardToggle_runs : Runs [.pair] s (execGuardToggle s) := .either (.ok Within.refl.modPair) (.ok .refl)

theorem execYieldAbandon_runs : Runs [.pair] s (execYieldAbandon s) := by
  unfold execYieldAbandon
  split
  · exact .either (.ok Within.refl.modPair.pairErr) (.ok .refl)
  · exact .ok .refl

/-! ### Stack unit -/

theorem execBalancePeriodStart_runs : Runs [.pins, .unit] s (execBalancePeriodStart s) := by
  unfold execBalancePeriodStart
  exact .either (.ok Within.refl.modUnit.balPins) (.ok .refl)

theorem execBalanceDutyEnd_runs {c : Nat} : Runs [.pins, .unit] s (execBalanceDutyEnd c s) :=
  .either (.ok Within.refl.modUnit.balPins) (.ok .refl)

theorem execBalancePauseStart_runs : Runs [.pins, .unit] s (execBalancePauseStart s) :=
  .either (.ok Within.refl.modUnit.balPins) (.ok .refl)

theorem execBalancePauseEnd_runs : Runs [.pins, .unit] s (execBalancePauseEnd s) :=
  .either (.ok Within.refl.modUnit.balPins) (.ok .refl)

theorem execFrameRepeat_runs {up : Bool} {bytes : List Byte} : Runs [.regs, .unit] s (execFrameRepeat up bytes s) := by
  unfold execFrameRepeat
  refine .either (.ok .refl) ?_
  extract_lets own t
  have ht : Within [.regs, .unit] s t := .either Within.refl.passFrame .refl
  split
  · exact .ok ht.unitCrcErr
  · exact .either (.ok (.either ht ht.unitFrame)) (.either (.ok ht.modUnit) (.ok ht))

theorem execEnumTopTimeout_runs : Runs [.unit] s (execEnumTopTimeout s) := by
  unfold execEnumTopTimeout
  split
  · exact .either (.ok Within.refl.modUnit.passFrame) (.ok .refl)
  · exact .ok .refl

theorem execTakenReceive_runs {p1 : Bool} {bytes : List Byte} : Runs [.regs, .unit] s (execTakenReceive p1 bytes s) := by
  unfold execTakenReceive
  split
  · exact .either (.ok Within.refl.modUnit) (.ok .refl)
  · exact .ok (.either Within.refl.unitCrcErr (.either Within.refl.stackErr .refl))

theorem takeBroadcast_runs {ty : Nat} {bytes : List Byte} {f : State → State} {bs : List Block}
    (hf : ∀ t, Within bs s t → Within bs s (f t)) (hl : [.regs, .unit] ⊆ bs := by decide) :
    Runs bs s (s.takeBroadcast ty bytes f) := by
  unfold State.takeBroadcast
  refine .either (.ok .refl) ?_
  split
  · exact .ok (Within.refl.also hl (.either Within.refl.passFrame.unitCrcErr Within.refl.unitCrcErr))
  · exact .either (.ok (Within.refl.also hl Within.refl.unitFrame))
      (.either (.ok (Within.refl.also hl Within.refl.unitFrame.passFrame))
        (.ok (hf _ (Within.refl.also hl Within.refl.unitFrame.passFrame.modUnit))))

theorem execChainSnap_runs {bytes : List Byte} : Runs [.regs, .unit] s (execChainSnap bytes s) :=
  takeBroadcast_runs fun _ h => h.snapWrite

/-! ### Start-up -/

theorem execRcReady_runs : Runs [.boot, .clk] s (execRcReady s) := .either (.ok Within.refl.toStage.modClk) (.ok .refl)

theorem execRegulatorsReady_runs : Runs [.boot, .pins, .unit] s (execRegulatorsReady s) := by
  unfold execRegulatorsReady
  exact .either (.ok .refl) (.either (.ok (.either Within.refl.toStage.modUnit Within.refl.toStage))
    (.ok Within.refl.toStage.modBoot.dropShadow))

theorem execXtalTimeout_runs : Runs [.clk] s (execXtalTimeout s) := .either (.ok Within.refl.toFallback) (.ok .refl)

theorem execResetAssertMinExpiry_runs : Runs [.boot, .supply, .rst] s (execResetAssertMinExpiry s) := by
  unfold execResetAssertMinExpiry
  split
  · refine .either (.ok .refl) ?_
    dsimp only
    split
    · exact .ok Within.refl.modRst.toStage.modRst
    · exact .ok Within.refl.modRst.enterStage6
    · exact .ok Within.refl.modRst
  · exact .ok .refl

theorem execRstoutRelease_runs : Runs [.pins] s (execRstoutRelease s) := by
  unfold execRstoutRelease
  split
  · exact .either (.ok .refl) (.ok Within.refl.modPins)
  · exact .ok .refl

theorem execRetryWaitExpiry_runs : Runs [.boot, .rst] s (execRetryWaitExpiry s) := by
  unfold execRetryWaitExpiry
  split
  · exact .either (.ok .refl) (.ok Within.refl.modBoot.toStage.modRst)
  · exact .ok .refl

theorem execVddioRise_runs : Runs [.supply] s (execVddioRise s) := .ok Within.refl.modSupply

theorem execVddioLost_runs : Runs [.supply] s (execVddioLost s) := .ok Within.refl.modSupply

theorem execGpioInputChange_runs {n : Nat} {level : Bool} : Runs [.pins, .pair] s (execGpioInputChange n level s) := by
  unfold execGpioInputChange
  exact .either (.ok .refl) (.ok (.either Within.refl.modPins.modPair Within.refl.modPins))

theorem execWakePinLevel_runs {level : Bool} : Runs [.pins] s (execWakePinLevel level s) := .ok Within.refl.modPins

theorem execStartOfFrame_runs : Runs [.clk] s (execStartOfFrame s) := .either (.ok Within.refl.modClk) (.ok .refl)

theorem execMasterListenEnd_runs : Runs [.boot, .ridge] s (execMasterListenEnd s) := by
  unfold execMasterListenEnd
  split
  · exact .either (.ok .refl) (.ok Within.refl.modBoot.modRidge)
  · exact .ok .refl

/-! ### Ridge slave -/

theorem execTickEdgeReceive_runs {e : Int} : Runs [.ridge] s (execTickEdgeReceive e s) :=
  .either (.ok Within.refl.modS) (.ok .refl)

theorem execHeaderCrcFail_runs {bytes : List Byte} : Runs [.regs, .ridge] s (execHeaderCrcFail bytes s) :=
  .either (.ok Within.refl.headerBad) (.ok .refl)

theorem execRidgeAdmit_runs {uid : BitVec 64} {n : Nat} : Runs [.ridge] s (execRidgeAdmit uid n s) :=
  .either (.ok Within.refl.takeAdmit) (.ok .refl)

theorem execRidgeReject_runs {uid : BitVec 64} : Runs [.regs, .ridge] s (execRidgeReject uid s) :=
  .either (.ok Within.refl.takeReject) (.ok .refl)

theorem execRidgeDelay_runs {d : Nat} : Runs [.tb, .regs, .ridge] s (execRidgeDelay d s) :=
  .either (.ok Within.refl.takeDelay) (.ok .refl)

theorem launchCmd_runs {op : Nat} {f : RidgeCmd → State → State} {bs : List Block}
    (hf : ∀ c t, Within bs s t → Within bs s (f c t)) (hl : [.ridge] ⊆ bs := by decide) : Runs bs s (s.launchCmd op f) := by
  unfold State.launchCmd
  split
  · exact .either (.ok (hf _ _ (Within.refl.dropTimed hl))) (.ok .refl)
  · exact .ok .refl

theorem execRidgeEvent_runs : Runs [.fab, .ridge] s (execRidgeEvent s) := launchCmd_runs fun _ _ h => h.pulse

theorem execReplySend_runs : Runs [.ridge] s (execReplySend s) := by
  unfold execReplySend
  exact .either (.ok Within.refl.modRidge.modS) (.ok .refl)

theorem execCroakSend_runs : Runs [.ridge] s (execCroakSend s) := by
  unfold execCroakSend
  exact .either (.ok Within.refl.modRidge.modS) (.ok .refl)

theorem execCroakAnswerTimeout_runs : Runs [.free, .ridge] s (execCroakAnswerTimeout s) := by
  unfold execCroakAnswerTimeout
  exact .either (.ok (Within.takeRandom (n := 2) .refl).modS) (.ok .refl)

theorem execLockTickTimeout_runs : Runs [.ridge] s (execLockTickTimeout s) := .either (.ok Within.refl.toListen) (.ok .refl)

theorem execJoiningTimeout_runs : Runs [.ridge] s (execJoiningTimeout s) := by
  unfold execJoiningTimeout
  exact .either (.ok Within.refl.enterCroaking) (.ok .refl)

/-! ### Host interface -/

theorem execWriteQueueWaitTimeout_runs : Runs [.nvm, .hif] s (execWriteQueueWaitTimeout s) := by
  unfold execWriteQueueWaitTimeout
  split
  · exact .either (.ok Within.refl.modHif.modWin.hifLate) (.ok .refl)
  · exact .ok .refl

theorem execI2cStallTimeout_runs : Runs [.hif] s (execI2cStallTimeout s) := .either (.ok Within.refl.hifEnd) (.ok .refl)

/-! ### Service port -/

theorem execUsbSuspend_runs : Runs [.clk, .svc] s (execUsbSuspend s) := by
  unfold execUsbSuspend
  exact .either (.ok .refl) (.ok (.either Within.refl.modSvc.toView.modClk Within.refl.modSvc.toView))

theorem execUsbResume_runs : Runs [.clk, .svc] s (execUsbResume s) := by
  unfold execUsbResume
  exact .either (.ok .refl) (.ok (.either Within.refl.modSvc.modClk Within.refl.modSvc))

theorem execUsbBusReset_runs : Runs [.clk, .svc] s (execUsbBusReset s) := by
  unfold execUsbBusReset
  exact .either (.ok .refl) (.ok (.either Within.refl.modSvc.toView Within.refl.modSvc.toView.modClk))

theorem execSetLineCoding_runs {bytes : List Byte} : Runs [.svc] s (execSetLineCoding bytes s) :=
  .either (.ok .refl) (.ok (Within.either Within.refl.modSvc .refl).usbAnswer)

theorem execGetLineCoding_runs : Runs [.svc] s (execGetLineCoding s) := .either (.ok Within.refl.usbAnswer) (.ok .refl)

theorem execSendBreak_runs : Runs [.svc] s (execSendBreak s) := .either (.ok Within.refl.usbAnswer) (.ok .refl)

theorem execSetControlLineState_runs {dtr : Bool} : Runs [.svc] s (execSetControlLineState dtr s) := by
  unfold execSetControlLineState
  exact .either (.ok .refl) (.ok (.either Within.refl.modSvc.usbAnswer.toView Within.refl.modSvc.usbAnswer))

theorem execUnsupportedClassRequest_runs {req : Byte} : Runs [.svc] s (execUnsupportedClassRequest req s) :=
  .either (.ok Within.refl.usbAnswer) (.ok .refl)

theorem execUsbStandardRequest_runs {setup : List Byte} : Runs [.svc] s (execUsbStandardRequest setup s) := by
  unfold execUsbStandardRequest
  exact .either (.ok .refl) (.ok Within.refl.usbStandard.usbAnswer)

theorem execInfo_runs {busy : Bool} {seq : Byte} {payload : List Byte} : Runs [.regs, .svc] s (execInfo busy seq payload s) :=
  .ok (Within.refl.svcRequest fun _ _ h => h.infoReq)

theorem execAuth_runs {busy : Bool} {seq : Byte} {payload : List Byte} : Runs [.regs, .svc] s (execAuth busy seq payload s) :=
  .ok (Within.refl.svcRequest fun _ _ h => h.authReq)

theorem execLogout_runs {busy : Bool} {seq : Byte} {payload : List Byte} : Runs [.regs, .svc] s (execLogout busy seq payload s) :=
  .ok (Within.refl.svcRequest fun _ _ h => h.logoutReq)

theorem execSuindelmUnknownType_runs {busy : Bool} {type seq : Byte} {payload : List Byte} :
    Runs [.regs, .svc] s (execSuindelmUnknownType busy type seq payload s) :=
  .either (.ok .refl) (.ok (Within.refl.svcRequest fun _ _ h => h))

theorem execSuindelmFrameDiscard_runs {bytes : List Byte} : Runs [.regs] s (execSuindelmFrameDiscard bytes s) :=
  .either (.ok Within.refl.count) (.ok .refl)

theorem execSessionIdleTimeout_runs : Runs [.svc] s (execSessionIdleTimeout s) := .either (.ok Within.refl.toView) (.ok .refl)

theorem execNonceExpiry_runs : Runs [.svc] s (execNonceExpiry s) := by
  unfold execNonceExpiry
  split
  · exact .either (.ok Within.refl.modSvc) (.ok .refl)
  · exact .ok .refl

theorem execAuthLockoutExpiry_runs : Runs [.svc] s (execAuthLockoutExpiry s) := by
  unfold execAuthLockoutExpiry
  split
  · exact .either (.ok Within.refl.modSvc) (.ok .refl)
  · exact .ok .refl

end Sys2Proof.Machine
end

section
/-! SUPPORT. Obligations settled: frames of the commands that stay within one or two blocks. -/

namespace Sys2Proof.Machine

/-- Settles O4: each command named runs within the blocks it may change, and a change within blocks is the patch of them. -/
theorem smallFrames : Obligations.SmallFrames := by
  intro c s t h
  cases c with
  | wakeWaitExpiry => exact (execWakeWaitExpiry_runs t h).eq_patch
  | startOfFrame => exact (execStartOfFrame_runs t h).eq_patch
  | xtalTimeout => exact (execXtalTimeout_runs t h).eq_patch
  | selfCheckPeriodic => exact (execSelfCheckPeriodic_runs t h).eq_patch
  | fabTimerExpiry => exact (execFabTimerExpiry_runs t h).eq_patch
  | i2cStallTimeout => exact (execI2cStallTimeout_runs t h).eq_patch
  | marginSlewStep => exact (execMarginSlewStep_runs t h).eq_patch
  | marginTimeout => exact (execMarginTimeout_runs t h).eq_patch
  | counterFlush => exact (execCounterFlush_runs t h).eq_patch
  | historyCommit => exact (execHistoryCommit_runs t h).eq_patch
  | recordCommit => exact (execRecordCommit_runs t h).eq_patch
  | claimSend => exact (execClaimSend_runs t h).eq_patch
  | guardToggle => exact (execGuardToggle_runs t h).eq_patch
  | heartbeatSend => exact (execHeartbeatSend_runs t h).eq_patch
  | mirrorResend => exact (execMirrorResend_runs t h).eq_patch
  | yieldAbandon => exact (execYieldAbandon_runs t h).eq_patch
  | resetPinRelease => exact (execResetPinRelease_runs t h).eq_patch
  | rstoutRelease => exact (execRstoutRelease_runs t h).eq_patch
  | wakePinLevel => exact (execWakePinLevel_runs t h).eq_patch
  | forgiveExpiry => exact (execForgiveExpiry_runs t h).eq_patch
  | sysForgiveExpiry => exact (execSysForgiveExpiry_runs t h).eq_patch
  | croakCollision => exact (execCroakCollision_runs t h).eq_patch
  | mirrorFrameDiscard => exact (execMirrorFrameDiscard_runs t h).eq_patch
  | suindelmFrameDiscard => exact (execSuindelmFrameDiscard_runs t h).eq_patch
  | burstBSend => exact (execBurstBSend_runs t h).eq_patch
  | croakSend => exact (execCroakSend_runs t h).eq_patch
  | joiningTimeout => exact (execJoiningTimeout_runs t h).eq_patch
  | lockTickTimeout => exact (execLockTickTimeout_runs t h).eq_patch
  | replySend => exact (execReplySend_runs t h).eq_patch
  | ridgeAdmit => exact (execRidgeAdmit_runs t h).eq_patch
  | tickEdgeReceive => exact (execTickEdgeReceive_runs t h).eq_patch
  | vddioLost => exact (execVddioLost_runs t h).eq_patch
  | vddioRise => exact (execVddioRise_runs t h).eq_patch
  | authLockoutExpiry => exact (execAuthLockoutExpiry_runs t h).eq_patch
  | getLineCoding => exact (execGetLineCoding_runs t h).eq_patch
  | nonceExpiry => exact (execNonceExpiry_runs t h).eq_patch
  | sendBreak => exact (execSendBreak_runs t h).eq_patch
  | sessionIdleTimeout => exact (execSessionIdleTimeout_runs t h).eq_patch
  | setControlLineState => exact (execSetControlLineState_runs t h).eq_patch
  | setLineCoding => exact (execSetLineCoding_runs t h).eq_patch
  | unsupportedClassRequest => exact (execUnsupportedClassRequest_runs t h).eq_patch
  | usbStandardRequest => exact (execUsbStandardRequest_runs t h).eq_patch
  | enumTopTimeout => exact (execEnumTopTimeout_runs t h).eq_patch
  | rcReady => exact (execRcReady_runs t h).eq_patch
  | masterListenEnd => exact (execMasterListenEnd_runs t h).eq_patch
  | retryWaitExpiry => exact (execRetryWaitExpiry_runs t h).eq_patch
  | resetAssertMinExpiry => exact (execResetAssertMinExpiry_runs t h).eq_patch
  | regulatorsReady => exact (execRegulatorsReady_runs t h).eq_patch
  | usbBusReset => exact (execUsbBusReset_runs t h).eq_patch
  | usbResume => exact (execUsbResume_runs t h).eq_patch
  | usbSuspend => exact (execUsbSuspend_runs t h).eq_patch
  | marginAbortEdge => exact (execMarginAbortEdge_runs t h).eq_patch
  | ridgeEvent => exact (execRidgeEvent_runs t h).eq_patch
  | croakAnswerTimeout => exact (execCroakAnswerTimeout_runs t h).eq_patch
  | writeQueueWaitTimeout => exact (execWriteQueueWaitTimeout_runs t h).eq_patch
  | gpioInputChange => exact (execGpioInputChange_runs t h).eq_patch
  | balanceDutyEnd => exact (execBalanceDutyEnd_runs t h).eq_patch
  | balancePauseEnd => exact (execBalancePauseEnd_runs t h).eq_patch
  | balancePauseStart => exact (execBalancePauseStart_runs t h).eq_patch
  | balancePeriodStart => exact (execBalancePeriodStart_runs t h).eq_patch
  | chainReplyTimeout => exact (execChainReplyTimeout_runs t h).eq_patch
  | enumEndReceive => exact (execEnumEndReceive_runs t h).eq_patch
  | enumTimeout => exact (execEnumTimeout_runs t h).eq_patch
  | fabIrqEdge => exact (execFabIrqEdge_runs t h).eq_patch
  | logClearApply => exact (execLogClearApply_runs t h).eq_patch
  | digestMissed => exact (execDigestMissed_runs t h).eq_patch
  | epochCommit => exact (execEpochCommit_runs t h).eq_patch
  | snapreqReceive => exact (execSnapreqReceive_runs t h).eq_patch
  | yieldReceive => exact (execYieldReceive_runs t h).eq_patch
  | headerCrcFail => exact (execHeaderCrcFail_runs t h).eq_patch
  | proxyReadTimeout => exact (execProxyReadTimeout_runs t h).eq_patch
  | ridgeReject => exact (execRidgeReject_runs t h).eq_patch
  | ridgeDelay => exact (execRidgeDelay_runs t h).eq_patch
  | zxLost => exact (execZxLost_runs t h).eq_patch
  | auth => exact (execAuth_runs t h).eq_patch
  | info => exact (execInfo_runs t h).eq_patch
  | logout => exact (execLogout_runs t h).eq_patch
  | suindelmUnknownType => exact (execSuindelmUnknownType_runs t h).eq_patch
  | chainSnap => exact (execChainSnap_runs t h).eq_patch
  | frameRepeat => exact (execFrameRepeat_runs t h).eq_patch
  | takenReceive => exact (execTakenReceive_runs t h).eq_patch
  | _ => trivial

end Sys2Proof.Machine
end

section
/-! SUPPORT. Result words and their snapshot (R217 to R219): what a read of one does, and what the copy of all of them leaves. -/

namespace Sys2Proof.Machine

variable {s : State} {p : Port} {a : Nat} {v : Word} {r : RegRow}

/-! ### Bits of a word -/

theorem bit_eq_decide (w : Word) (i : Nat) : bit w i = decide (w.toNat / 2 ^ i % 2 = 1) := by
  rw [bit, BitVec.getLsbD, Nat.testBit_eq_decide_div_mod_eq]

theorem toNat_setBit_zero (w : Word) (b : Bool) : (setBit w 0 b).toNat = w.toNat - w.toNat % 2 + b2n b := by
  have hw := w.isLt
  cases b <;> simp [setBit, setFld, fld, w32, b2n] <;> omega

theorem toNat_setBit_one (w : Word) (b : Bool) :
    (setBit w 1 b).toNat = w.toNat - w.toNat / 2 % 2 * 2 + b2n b * 2 := by
  have hw := w.isLt
  cases b <;> simp [setBit, setFld, fld, w32, b2n] <;> omega

theorem bit_zero_setBit_zero (w : Word) (b : Bool) : bit (setBit w 0 b) 0 = b := by
  rw [bit_eq_decide, toNat_setBit_zero]
  cases b <;> simp [b2n] <;> omega

theorem bit_zero_setBit_one (w : Word) (b : Bool) : bit (setBit w 1 b) 0 = bit w 0 := by
  rw [bit_eq_decide, bit_eq_decide, toNat_setBit_one]
  have hpar : (w.toNat - w.toNat / 2 % 2 * 2 + b2n b * 2) % 2 = w.toNat % 2 := by omega
  simp [hpar]

theorem bit_one_setBit_one (w : Word) (b : Bool) : bit (setBit w 1 b) 1 = b := by
  rw [bit_eq_decide, toNat_setBit_one]
  cases b <;> simp [b2n] <;> omega

/-- `RES_SNAP_STAT` of a copy is valid. -/
theorem bit_zero_snapStat (x : Nat) : bit (pack [(x, 16, 16), (1, 0, 1)]) 0 = true := by
  rw [bit_eq_decide]
  simp [pack, w32]
  omega

/-! ### Reading a result word -/

/-- The address of a live result word, or of one in the snapshot. -/
def ResultWord (a : Nat) : Prop := ∃ n < 24, a = Reg.resCh n ∨ a = Reg.resSnap n

/-- A fact about the 48 addresses holds when it holds of each. -/
theorem ResultWord.of_all {P : Nat → Prop} (ha : ResultWord a) (h : ∀ n < 24, P (Reg.resCh n) ∧ P (Reg.resSnap n)) :
    P a := by
  obtain ⟨n, hn, rfl | rfl⟩ := ha
  · exact (h n hn).1
  · exact (h n hn).2

theorem ResultWord.acc (ha : ResultWord a) : accOf a = some .mix :=
  ha.of_all (P := fun a => accOf a = some .mix) (by decide +kernel)

/-- No engine composes a result word: it is not among the status views. -/
theorem ResultWord.find?_statusViews (ha : ResultWord a) (p : Port) :
    (statusViews p).find? (fun e => decide (e.1 = a)) = none := by
  have hne : ((statusViews p).map Prod.fst).all (fun b => decide (b ≠ a)) = true :=
    ha.of_all (P := fun a => ((statusViews p).map Prod.fst).all (fun b => decide (b ≠ a)) = true)
      (by cases p <;> decide +kernel)
  simpa [List.find?_eq_none] using hne

/-- Nor is it among the indexed views. -/
theorem ResultWord.findSome?_indexedViews (ha : ResultWord a) (s : State) :
    (indexedViews.findSome? fun e => (idxOf a e.1 e.2.1 e.2.2.1).map fun i => e.2.2.2 s i) = none := by
  have hnone : (indexedViews.map fun e => (e.1, e.2.1, e.2.2.1)).all (fun e => (idxOf a e.1 e.2.1 e.2.2).isNone) = true :=
    ha.of_all (P := fun a => (indexedViews.map fun e => (e.1, e.2.1, e.2.2.1)).all
      (fun e => (idxOf a e.1 e.2.1 e.2.2).isNone) = true) (by decide +kernel)
  rw [List.all_map, List.all_eq_true] at hnone
  rw [List.findSome?_eq_none_iff]
  intro e he
  simpa using hnone e he

theorem ResultWord.proxyReg (ha : ResultWord a) : proxyReg a = false :=
  ha.of_all (P := fun a => Machine.proxyReg a = false) (by decide +kernel)

/-- A result word shows what the register file holds. -/
theorem ResultWord.shown (ha : ResultWord a) (hr : r.acc = .mix) : s.shown p r a = s.reg a := by
  simp [State.shown, hr, ha.find?_statusViews, ha.findSome?_indexedViews, State.keyOf, ctxKey, ha.proxyReg]

/-- A clearing read of a result word clears its `FRESH`. -/
theorem ResultWord.readClear (ha : ResultWord a) (hr : r.acc = .mix) : s.readClear r a = s.setRegBit a 7 false := by
  have hplain : a ≠ Reg.sysPwr ∧ a ≠ Reg.sysHifStat ∧ a ≠ Reg.rstBlkstat ∧ a ≠ Reg.logStat :=
    ha.of_all (P := fun a => a ≠ Reg.sysPwr ∧ a ≠ Reg.sysHifStat ∧ a ≠ Reg.rstBlkstat ∧ a ≠ Reg.logStat) (by decide)
  have hres : ((idxOf a (Reg.resCh 0) 4 24).isSome || (idxOf a (Reg.resSnap 0) 4 24).isSome) = true :=
    ha.of_all (P := fun a => ((idxOf a (Reg.resCh 0) 4 24).isSome || (idxOf a (Reg.resSnap 0) 4 24).isSome) = true)
      (by decide)
  obtain ⟨hpwr, hhif, hblk, hlog⟩ := hplain
  rw [State.readClear, if_neg (by simp [hr]), if_neg hpwr, if_neg hhif, if_neg hblk, if_neg hlog, if_pos hres]

/-- A read that meets a result word delivers it, and clears its `FRESH` when the host or the chain reads. -/
theorem State.fetch_resultWord (ha : ResultWord a) (h : Readable s p a) :
    s.fetch p a = (if p = .host ∨ p = .chain then s.setRegBit a 7 false else s).deliver p (s.reg a) := by
  obtain ⟨r, hr, hmix⟩ := Option.map_eq_some_iff.mp ha.acc
  have hplain : a ≠ Reg.logData ∧ a ≠ Reg.nvmData ∧ a ≠ Reg.tbUpLo :=
    ha.of_all (P := fun a => a ≠ Reg.logData ∧ a ≠ Reg.nvmData ∧ a ≠ Reg.tbUpLo) (by decide)
  obtain ⟨hlog, hnvm, htb⟩ := hplain
  rw [State.fetch_of_readable h hr hlog hnvm htb, ha.shown hmix, ha.readClear hmix]

/-- What such a read leaves, path by path. -/
theorem State.fetch_resultWord_spec (ha : ResultWord a) (h : Readable s p a) (hwf : Store.wf regDflt s.regs = true) :
    Delivered p (s.fetch p a) (s.reg a) ∧
      (p = .host ∨ p = .chain → (s.fetch p a).reg a = setBit (s.reg a) 7 false) ∧
      (p = .svc ∨ p = .ridge → (s.fetch p a).regs = s.regs) ∧
      ∀ b, b ≠ a → (s.fetch p a).reg b = s.reg b := by
  obtain ⟨hsame, hother, -⟩ := State.setReg_spec s a (setBit (s.reg a) 7 false) hwf
  rw [State.fetch_resultWord ha h]
  refine ⟨State.delivered_deliver _ _ _, fun hp => ?_, fun hp => ?_, fun b hb => ?_⟩
  · rw [if_pos hp, State.deliver_reg]
    exact hsame
  · rw [if_neg (by rintro (rfl | rfl) <;> simp at hp), State.deliver_regs]
  · rw [State.deliver_reg]
    split
    · exact hother b hb
    · rfl

/-! ### The snapshot -/

/-- The copy of one result word, which clears `FRESH` in the live one. -/
def State.snapWord (s : State) (n : Nat) : State :=
  (s.setReg (Reg.resSnap n) (s.reg (Reg.resCh n))).setReg (Reg.resCh n) (setBit (s.reg (Reg.resCh n)) 7 false)

/-- The copies of the result words below k. -/
def State.snapWords (s : State) (k : Nat) : State := (List.range k).foldl State.snapWord s

theorem State.snapWords_succ (s : State) (k : Nat) : s.snapWords (k + 1) = (s.snapWords k).snapWord k := by
  simp [State.snapWords, List.range_succ]

/-- The time and the status that close a copy. -/
def State.snapDone (s : State) : State :=
  (s.setReg Reg.resSnapTime (s.reg Reg.resScanTime)).setReg Reg.resSnapStat
    (pack [(s.regFld Reg.resScanStat 16 16, 16, 16), (1, 0, 1)])

/-- A snapshot is the copy of all 24 words, with its time and its status. -/
theorem State.copySnap_eq (s : State) : s.copySnap = (s.snapWords 24).snapDone := by
  rw [State.copySnap, State.snapWords, State.snapDone]
  rfl

theorem State.wf_snapWord (n : Nat) (h : Store.wf regDflt s.regs = true) : Store.wf regDflt (s.snapWord n).regs = true :=
  State.wf_setReg _ (State.wf_setReg _ h)

theorem State.wf_snapWords (k : Nat) (h : Store.wf regDflt s.regs = true) : Store.wf regDflt (s.snapWords k).regs = true := by
  induction k with
  | zero => exact h
  | succ k ih => rw [State.snapWords_succ]; exact State.wf_snapWord k ih

theorem State.reg_snapWord_ne {n : Nat} (hch : a ≠ Reg.resCh n) (hsnap : a ≠ Reg.resSnap n) :
    (s.snapWord n).reg a = s.reg a := by
  rw [State.snapWord, State.reg_setReg_ne _ hch.symm, State.reg_setReg_ne _ hsnap.symm]

/-- The copies leave every register alone that is not among the words copied and their copies. -/
theorem State.reg_snapWords_ne {k : Nat} (h : ∀ n < k, a ≠ Reg.resCh n ∧ a ≠ Reg.resSnap n) :
    (s.snapWords k).reg a = s.reg a := by
  induction k with
  | zero => rfl
  | succ k ih =>
    obtain ⟨hch, hsnap⟩ := h k (Nat.lt_succ_self k)
    rw [State.snapWords_succ, State.reg_snapWord_ne hch hsnap]
    exact ih fun n hn => h n (Nat.lt_succ_of_lt hn)

/-- Each word copied so far stands in its copy, with `FRESH` clear in the live one. -/
theorem State.reg_snapWords {n k : Nat} (hwf : Store.wf regDflt s.regs = true) (hk : k ≤ 24) (hn : n < k) :
    (s.snapWords k).reg (Reg.resSnap n) = s.reg (Reg.resCh n) ∧
      (s.snapWords k).reg (Reg.resCh n) = setBit (s.reg (Reg.resCh n)) 7 false := by
  induction k with
  | zero => omega
  | succ k ih =>
    rw [State.snapWords_succ]
    by_cases hnk : n = k
    · subst hnk
      have hlive : (s.snapWords n).reg (Reg.resCh n) = s.reg (Reg.resCh n) :=
        State.reg_snapWords_ne fun m hm => by simp only [Reg.resCh, Reg.resSnap]; omega
      have hw := State.wf_snapWords n hwf
      constructor
      · rw [State.snapWord, State.reg_setReg_ne _ (by simp only [Reg.resCh, Reg.resSnap]; omega),
          State.reg_setReg_same _ hw, hlive]
      · rw [State.snapWord, State.reg_setReg_same _ (State.wf_setReg _ hw), hlive]
    · have hold := ih (by omega) (by omega)
      rw [State.reg_snapWord_ne (by simp only [Reg.resCh, Reg.resSnap]; omega) (by simp only [Reg.resSnap]; omega),
        State.reg_snapWord_ne (by simp only [Reg.resCh]; omega) (by simp only [Reg.resCh, Reg.resSnap]; omega)]
      exact hold

/-- The time and the status of the snapshot are neither words nor copies. -/
theorem State.reg_snapDone_word {n : Nat} (hn : n < 24) (ha : a = Reg.resCh n ∨ a = Reg.resSnap n) :
    s.snapDone.reg a = s.reg a := by
  have hne : Reg.resSnapStat ≠ a ∧ Reg.resSnapTime ≠ a := by
    simp only [Reg.resCh, Reg.resSnap, Reg.resSnapStat, Reg.resSnapTime] at ha ⊢
    omega
  rw [State.snapDone, State.reg_setReg_ne _ hne.1, State.reg_setReg_ne _ hne.2]

theorem State.reg_copySnap {n : Nat} (hwf : Store.wf regDflt s.regs = true) (hn : n < 24) :
    s.copySnap.reg (Reg.resSnap n) = s.reg (Reg.resCh n) ∧
      s.copySnap.reg (Reg.resCh n) = setBit (s.reg (Reg.resCh n)) 7 false := by
  rw [State.copySnap_eq, State.reg_snapDone_word hn (.inr rfl), State.reg_snapDone_word hn (.inl rfl)]
  exact State.reg_snapWords hwf le_rfl hn

theorem State.reg_copySnap_time (hwf : Store.wf regDflt s.regs = true) :
    s.copySnap.reg Reg.resSnapTime = s.reg Reg.resScanTime := by
  rw [State.copySnap_eq, State.snapDone, State.reg_setReg_ne _ (by decide),
    State.reg_setReg_same _ (State.wf_snapWords 24 hwf)]
  exact State.reg_snapWords_ne fun n hn => by simp only [Reg.resCh, Reg.resSnap, Reg.resScanTime]; omega

theorem State.bit_copySnap_stat (hwf : Store.wf regDflt s.regs = true) :
    bit (s.copySnap.reg Reg.resSnapStat) 0 = true := by
  rw [State.copySnap_eq, State.snapDone, State.reg_setReg_same _ (State.wf_setReg _ (State.wf_snapWords 24 hwf))]
  exact bit_zero_snapStat _

/-- The state after a write of `SNAP_NEXT`: no snapshot is valid and one waits. -/
def State.snapWaits (s : State) : State := (s.setRegBit Reg.resSnapStat 0 false).setRegBit Reg.resSnapStat 1 true

theorem State.bit_snapWaits (hwf : Store.wf regDflt s.regs = true) :
    bit (s.snapWaits.reg Reg.resSnapStat) 0 = false ∧ bit (s.snapWaits.reg Reg.resSnapStat) 1 = true := by
  have hfirst : (s.setRegBit Reg.resSnapStat 0 false).reg Reg.resSnapStat = setBit (s.reg Reg.resSnapStat) 0 false :=
    State.reg_setReg_same s hwf
  have hreg : s.snapWaits.reg Reg.resSnapStat = setBit (setBit (s.reg Reg.resSnapStat) 0 false) 1 true := by
    rw [← hfirst]
    exact State.reg_setReg_same _ (State.wf_setReg s hwf)
  rw [hreg, bit_zero_setBit_one, bit_zero_setBit_zero, bit_one_setBit_one]
  exact ⟨rfl, rfl⟩

/-- A write that arrives at `RES_SNAP_CTRL`. -/
theorem State.access_snapCtrl (h : Reaches s p Reg.resSnapCtrl) : s.access p Reg.resSnapCtrl v = s.snapWrite v := by
  rw [State.access_wo h acc_resSnapCtrl, State.cmdWrite]
  simp

end Sys2Proof.Machine
end

section
/-! SUPPORT. Obligations settled: result words and snapshots. -/

namespace Sys2Proof.Machine

/-- Settles O24: one rule for a read of any of the 48 words, and the copy of the 24 live words one after the other. -/
theorem resultsAndSnapshots : Obligations.ResultsAndSnapshots := by
  refine ⟨fun s p n hn hwf hread => ?live, fun s p n hn hwf hread => ?copied, fun s p v hwf hreach hsnap => ?snap,
    fun s p v hwf hreach hsnap hnext => ?next⟩
  case live =>
    have hexec : exec (.resultRead p n) s = .next (s.fetch p (Reg.resCh n)) := if_pos hn
    obtain ⟨hout, hclear, hkeep, hother⟩ := State.fetch_resultWord_spec ⟨n, hn, .inl rfl⟩ hread hwf
    exact .of_exec hexec rfl ⟨by rintro rfl; exact hout, by rintro rfl; exact hout.1, hclear, hkeep, hother⟩
  case copied =>
    have hexec : exec (.snapRead p n) s = .next (s.fetch p (Reg.resSnap n)) := if_pos hn
    obtain ⟨hout, hclear, hkeep, hother⟩ := State.fetch_resultWord_spec ⟨n, hn, .inr rfl⟩ hread hwf
    exact .of_exec hexec rfl ⟨by rintro rfl; exact hout, hclear, hkeep, hother⟩
  case snap =>
    have hleaves : s.access p Reg.resSnapCtrl v = s.copySnap := by
      rw [State.access_snapCtrl hreach, State.snapWrite, if_pos hsnap]
    exact .of_exec rfl hleaves ⟨fun n hn => State.reg_copySnap hwf hn, State.reg_copySnap_time hwf, State.bit_copySnap_stat hwf,
      Within.refl.copySnap.eq_regs⟩
  case next =>
    have hleaves : s.access p Reg.resSnapCtrl v = s.snapWaits := by
      rw [State.access_snapCtrl hreach, State.snapWrite, if_neg (by simp [hsnap]), if_pos hnext, State.snapWaits]
    obtain ⟨hvalid, hwaits⟩ := State.bit_snapWaits hwf
    exact .of_exec rfl hleaves ⟨hvalid, hwaits, rfl⟩

end Sys2Proof.Machine
end

section
/-! SUPPORT. Obligations settled: the lists of a fixed length over a step. -/

namespace Sys2Proof.Machine

/-- A running master that listens for a foreign tick, which is about to arrive, with the reset state's blocks but for the drives
that HOLD-mapped pins keep: their list is empty, and `ListsWf` does not speak of it. -/
def foreignTickUnheld : State :=
  { State.reset with
      pending := [.secondMasterDetected], role := { RoleRec.init with role := .mst, state := .running },
      ridge := { Ridge.init with lstate := .mstListen }, pins := { Pins.init with held := [] } }

/-- The same state with the command taken from the queue. -/
def foreignTickTaken : State := { foreignTickUnheld with pending := [] }

theorem listsWf_foreignTickUnheld : ListsWf foreignTickUnheld := by
  unfold ListsWf
  decide +kernel

/-- The foreign tick has the role refused (R27). -/
theorem step_foreignTickUnheld : step foreignTickUnheld = .next (foreignTickTaken.refuseRole .secondMaster) := by
  have hfront : step foreignTickUnheld = execSecondMasterDetected foreignTickTaken := rfl
  have hlistens : foreignTickTaken.isRole .mst ∧ !foreignTickTaken.isShadow ∧
      (foreignTickTaken.ridge.lstate = .mstListen ∨ foreignTickTaken.ridge.lstate = .master) := by
    decide
  rw [hfront, execSecondMasterDetected, if_pos hlistens]
  rfl

/-- A refused role takes the EN pins from the drives kept, as many as there are (R57). -/
theorem length_en_foreignTick : (foreignTickTaken.refuseRole .secondMaster).pins.en.length = 0 := by
  decide +kernel

/-- Refutes O5: a refused role gives the EN pins the drives that HOLD-mapped pins kept (R57), and `ListsWf` fixes the number
of the EN pins alone. Where no drive is kept, 24 EN pins become none. -/
theorem not_stepKeepsInvariants : ¬ Obligations.StepKeepsInvariants := by
  rintro ⟨-, hlists⟩
  obtain ⟨hen, -⟩ := hlists _ _ listsWf_foreignTickUnheld step_foreignTickUnheld
  rw [length_en_foreignTick] at hen
  omega

end Sys2Proof.Machine
end

section
/-! SUPPORT. Obligations settled: release of the domains, and the role at the end of stage 6. -/

namespace Sys2Proof.Machine

/-- A broadcast STOP that waits in the master's queue. -/
def waitingStop : QueueCmd :=
  { cmd := { op := 2, dst := dstAll, cseq := 0, arg0 := 0, arg1 := 0 }, chooseT := false, tries := 0, hcmd := false, proxy := false }

/-- A running master in the release of an L3 reset, every domain out: a restart after SYSTEM is armed, and the 64 places of the
link's command queue, which L3 keeps (Table 11-13), are taken. The other blocks are those of the reset state. -/
def fullQueueMaster : State :=
  { State.reset with
      role := { RoleRec.init with role := .mst, state := .running }, boot := { Boot.init with stage := 7 },
      rst :=
        { RstRec.init with run := some { level := .l3, asserted := false, since := 0 }, domains := 6, coreAt := some 0,
                           sysArmed := true },
      ridge := { Ridge.init with m := { RMaster.init with queue := List.replicate 64 waitingStop } } }

/-- The same master with the host interface open and the reset at its end. -/
def fullQueueReleased : State :=
  { fullQueueMaster with
      rst := { fullQueueMaster.rst with hifUp := true, run := none }, hif := { fullQueueMaster.hif with irqBoot := true },
      role := { fullQueueMaster.role with addrValid := true } }

/-- The release of the host interface goes on to the restart after SYSTEM (R158). -/
theorem exec_hostIfRelease_fullQueueMaster :
    exec .hostIfRelease fullQueueMaster = .next fullQueueReleased.armRestart := rfl

/-- The cascade START of the restart finds the queue full, and its drop shows in `RIDGE_EVT` (R372, R374). -/
theorem ridgeEvt_armRestart_fullQueue :
    fullQueueMaster.regBit Reg.ridgeEvt 8 = false ∧ fullQueueReleased.armRestart.regBit Reg.ridgeEvt 8 = true := by
  decide +kernel

/-- Refutes O10: where a restart after SYSTEM is armed on a master, the release of the host interface at the end of an L3 reset
issues the cascade START (R158, R313). A full command queue drops it and sets the event of the drop in `RIDGE_EVT` (R372, R374), so
that the register file does not stay as it was. -/
theorem not_releaseAndRole : ¬ Obligations.ReleaseAndRole := by
  rintro ⟨⟨-, -, -, -, -, hrelease, -⟩, -⟩
  obtain ⟨t, hexec, -, -, -, -, hregs, -⟩ :=
    hrelease fullQueueMaster 0 rfl (by decide) rfl (by decide) rfl rfl (by decide) (by decide)
  obtain rfl : fullQueueReleased.armRestart = t := by simpa [exec_hostIfRelease_fullQueueMaster] using hexec
  have hsame : fullQueueReleased.armRestart.regBit Reg.ridgeEvt 8 = fullQueueMaster.regBit Reg.ridgeEvt 8 := by
    simp only [State.regBit, State.reg, hregs]
  obtain ⟨hbefore, hafter⟩ := ridgeEvt_armRestart_fullQueue
  rw [hbefore, hafter] at hsame
  cases hsame

end Sys2Proof.Machine
end

section
/-! SUPPORT. The frames of the engines' operations, continued: comparators, measurement, LIVE values, the sequencer's watch and
the parts of a reset. -/

-- A lemma's default argument is ready only once its proof is: taken up all at once, the lemmas below would wait in a thread each.
set_option Elab.async false

namespace Sys2Proof.Machine.Within

variable {bs : List Block} {s₀ s t : State}

/-- A block outside the frame is the same. -/
theorem same (h : Within bs s t) (b : Block) (hb : b ∉ bs := by decide) : b.Same s t := h b hb

/-! ### Updates of a block -/

theorem modRole {f} (h : Within bs s₀ s) (hl : [.role] ⊆ bs := by decide) : Within bs s₀ (s.modRole f) :=
  h.also hl (of_eq_patch rfl)

theorem modPwr {f} (h : Within bs s₀ s) (hl : [.pwr] ⊆ bs := by decide) : Within bs s₀ (s.modPwr f) :=
  h.also hl (of_eq_patch rfl)

theorem modImg {f} (h : Within bs s₀ s) (hl : [.img] ⊆ bs := by decide) : Within bs s₀ (s.modImg f) :=
  h.also hl (of_eq_patch rfl)

theorem modMeas {f} (h : Within bs s₀ s) (hl : [.meas] ⊆ bs := by decide) : Within bs s₀ (s.modMeas f) :=
  h.also hl (of_eq_patch rfl)

theorem modSeq {f} (h : Within bs s₀ s) (hl : [.seq] ⊆ bs := by decide) : Within bs s₀ (s.modSeq f) :=
  h.also hl (of_eq_patch rfl)

theorem modWdt {f} (h : Within bs s₀ s) (hl : [.wdt] ⊆ bs := by decide) : Within bs s₀ (s.modWdt f) :=
  h.also hl (of_eq_patch rfl)

theorem withRegs {m} (h : Within bs s₀ s) (hl : [.regs] ⊆ bs := by decide) : Within bs s₀ { s with regs := m } :=
  h.also hl (of_eq_patch rfl)

theorem withLive {l} (h : Within bs s₀ s) (hl : [.live] ⊆ bs := by decide) : Within bs s₀ { s with live := l } :=
  h.also hl (of_eq_patch rfl)

theorem withLives {l g} (h : Within bs s₀ s) (hl : [.live, .liveImg] ⊆ bs := by decide) :
    Within bs s₀ { s with live := l, liveImg := g } := h.also hl (of_eq_patch rfl)

theorem withLiveImg {g} (h : Within bs s₀ s) (hl : [.liveImg] ⊆ bs := by decide) : Within bs s₀ { s with liveImg := g } :=
  h.also hl (of_eq_patch rfl)

theorem modRail {n : Nat} {f : Rail → Rail} (h : Within bs s₀ s) (hl : [.seq] ⊆ bs := by decide) :
    Within bs s₀ (s.modRail n f) := h.also hl refl.modSeq

theorem modMeasCh {n : Nat} {f : MeasCh → MeasCh} (h : Within bs s₀ s) (hl : [.meas] ⊆ bs := by decide) :
    Within bs s₀ (s.modMeasCh n f) := h.also hl refl.modMeas

/-! ### Comparators -/

theorem setLat {n : Nat} {high b : Bool} (h : Within bs s₀ s) (hl : [.regs] ⊆ bs := by decide) :
    Within bs s₀ (s.setLat n high b) := h.also hl refl.setRegBit

theorem setQ {n : Nat} {high b : Bool} (h : Within bs s₀ s) (hl : [.regs, .cmp] ⊆ bs := by decide) :
    Within bs s₀ (s.setQ n high b) := h.also hl (either refl.modComp.setLat refl.modComp)

theorem setOut {n : Nat} {high b : Bool} (h : Within bs s₀ s) (hl : [.regs, .cmp] ⊆ bs := by decide) :
    Within bs s₀ (s.setOut n high b) := h.also hl (either refl.modComp refl.modComp.setQ)

theorem follow {n : Nat} {high : Bool} (h : Within bs s₀ s) (hl : [.regs, .cmp] ⊆ bs := by decide) :
    Within bs s₀ (s.follow n high) := h.also hl <| by
  have hown : ∀ lvl : Bool, Within [.regs, .cmp] s (if (s.comp n high).out = lvl then s else s.setOut n high lvl) :=
    fun _ => either refl refl.setOut
  exact either refl (either (hown _).setOut (hown _))

theorem takeLive {n : Nat} {high : Bool} (h : Within bs s₀ s) (hl : [.regs, .cmp] ⊆ bs := by decide) :
    Within bs s₀ (s.takeLive n high) := h.also hl (either refl.setOut.follow refl.follow)

theorem followCh {n : Nat} (h : Within bs s₀ s) (hl : [.regs, .cmp] ⊆ bs := by decide) : Within bs s₀ (s.followCh n) :=
  h.also hl refl.follow.follow

theorem requalify (h : Within bs s₀ s) (hl : [.regs, .cmp] ⊆ bs := by decide) : Within bs s₀ s.requalify :=
  h.also hl (refl.foldl fun _ _ h => either h.setQ h)

theorem chkAbortNow (h : Within bs s₀ s) (hl : [.regs, .cmp] ⊆ bs := by decide) : Within bs s₀ s.chkAbortNow := h.also hl <| by
  unfold State.chkAbortNow
  split
  · exact refl
  · dsimp only
    split
    · exact refl.modCmp.takeLive
    · exact refl.modCmp

/-! ### Measurement -/

theorem restartFilter {n : Nat} (h : Within bs s₀ s) (hl : [.meas, .cmp] ⊆ bs := by decide) :
    Within bs s₀ (s.restartFilter n) := h.also hl refl.modMeasCh.modCmpCh

theorem blank {n : Nat} (h : Within bs s₀ s) (hl : [.meas] ⊆ bs := by decide) : Within bs s₀ (s.blank n) :=
  h.also hl refl.modMeasCh

theorem wetAbort (h : Within bs s₀ s) (hl : [.regs, .meas, .cmp] ⊆ bs := by decide) : Within bs s₀ s.wetAbort :=
  h.also hl <| by
  unfold State.wetAbort
  split
  · dsimp only
    split
    · exact refl.setRegBit.modMeas.restartFilter.blank.followCh
    · exact refl.setRegBit.modMeas
  · exact refl

theorem scanResume (h : Within bs s₀ s) (hl : [.meas] ⊆ bs := by decide) : Within bs s₀ s.scanResume :=
  h.also hl (either refl.modMeas refl)

theorem stopScan (h : Within bs s₀ s) (hl : [.meas] ⊆ bs := by decide) : Within bs s₀ s.stopScan := h.also hl refl.modMeas

/-! ### LIVE values -/

theorem putLive {a : Nat} {v : Word} (h : Within bs s₀ s) (hl : [.regs, .meas, .cmp] ⊆ bs := by decide) :
    Within bs s₀ (s.putLive a v) := h.also hl <| by
  unfold State.putLive
  refine either refl ?_
  dsimp only
  split
  · exact refl.setReg.restartFilter
  · exact refl.setReg

theorem judgeLive (h : Within bs s₀ s) (hl : [.regs, .cmp] ⊆ bs := by decide) : Within bs s₀ s.judgeLive.2 :=
  h.also hl (either refl.modCmp refl.modCmp.raise)

theorem imgOpEnd (h : Within bs s₀ s) (hl : [.hif] ⊆ bs := by decide) : Within bs s₀ s.imgOpEnd := h.also hl refl.modHif

theorem liveApply (h : Within bs s₀ s) (hl : [.regs, .live, .liveImg, .img, .meas, .cmp, .hif] ⊆ bs := by decide) :
    Within bs s₀ s.liveApply := h.also hl <| by
  unfold State.liveApply
  split
  · exact (refl.withLives.foldl fun _ _ h => h.putLive).modImg.imgOpEnd
  · exact refl.judgeLive.withLive.foldl fun _ _ h => h.putLive

theorem liveSettle (h : Within bs s₀ s) (hl : [.regs, .live, .liveImg, .img, .meas, .cmp, .hif] ⊆ bs := by decide) :
    Within bs s₀ s.liveSettle := h.also hl (either refl.liveApply refl)

/-! ### Rails -/

theorem setEn {n : Nat} {b : Bool} (h : Within bs s₀ s) (hl : [.pins, .seq] ⊆ bs := by decide) : Within bs s₀ (s.setEn n b) :=
  h.also hl (either refl.modRail.modPins refl)

theorem goRail {n : Nat} {st : RailState} (h : Within bs s₀ s) (hl : [.seq, .mrg, .sched] ⊆ bs := by decide) :
    Within bs s₀ (s.goRail n st) := h.also hl <| by
  refine either ?_ refl.modRail
  split
  · exact refl.modRail.modSched.modDac
  · exact refl.modRail.modSched

theorem offRail {n : Nat} {st : RailState} (h : Within bs s₀ s) (hl : [.pins, .seq, .mrg, .sched] ⊆ bs := by decide) :
    Within bs s₀ (s.offRail n st) := h.also hl refl.setEn.goRail

theorem countEvent {n : Nat} {k : CounterKind} (h : Within bs s₀ s) (hl : [.nvm] ⊆ bs := by decide) :
    Within bs s₀ (s.countEvent n k) := h.also hl (either refl refl.modNvm)

theorem enterOn {n : Nat} (h : Within bs s₀ s) (hl : [.seq, .mrg, .nvm, .sched] ⊆ bs := by decide) :
    Within bs s₀ (s.enterOn n) := h.also hl refl.goRail.countEvent

theorem enterDischarge {n : Nat} (h : Within bs s₀ s) (hl : [.pins, .seq, .mrg, .sched] ⊆ bs := by decide) :
    Within bs s₀ (s.enterDischarge n) := h.also hl (either refl.offRail refl.offRail.modRail)

theorem setLast {n r : Nat} (h : Within bs s₀ s) (hl : [.react] ⊆ bs := by decide) : Within bs s₀ (s.setLast n r) :=
  h.also hl refl.modReactAt

/-! ### Fault events -/

theorem captureHistory {pre : State} {e : FaultEv} (h : Within bs s₀ s) (hl : [.nvm] ⊆ bs := by decide) :
    Within bs s₀ (s.captureHistory pre e) := h.also hl <| by
  refine either refl (either refl.modNvm ?_)
  split
  exact either refl.modNvm (either refl.modNvm refl.modNvm)

theorem captureRecord {pre : State} {e : FaultEv} {extra : Nat} (h : Within bs s₀ s) (hl : [.nvm] ⊆ bs := by decide) :
    Within bs s₀ (s.captureRecord pre e extra) :=
  h.also hl (either refl (either refl.modNvm (either refl.captureHistory refl.modNvm)))

theorem setFirst {e : FaultEv} (h : Within bs s₀ s) (hl : [.regs, .react] ⊆ bs := by decide) : Within bs s₀ (s.setFirst e) :=
  h.also hl refl.setReg.setReg.modReact

theorem countFaults {pre : State} {evs : List FaultEv} (h : Within bs s₀ s) (hl : [.regs, .react, .nvm] ⊆ bs := by decide) :
    Within bs s₀ (s.countFaults pre evs) := h.also hl <| by
  have hcount : Within [.regs, .react, .nvm] s (evs.foldl (fun t e => t.countEvent e.rail .fault) s) :=
    refl.foldl fun _ _ h => h.countEvent
  unfold State.countFaults
  dsimp only
  split
  · exact hcount
  · exact either ((either hcount.setFirst hcount).foldl fun _ _ h => h.captureHistory)
      (hcount.setFirst.captureRecord.foldl fun _ _ h => h.captureHistory)

theorem takeFault {e : FaultEv} (h : Within bs s₀ s)
    (hl : [.pins, .regs, .seq, .react, .mrg, .nvm, .sched] ⊆ bs := by decide) : Within bs s₀ (s.takeFault e).1 := h.also hl <| by
  unfold State.takeFault
  refine eitherFst refl ?_
  dsimp only
  split
  · exact eitherFst refl.modRail.raise.setEn.enterOn.raise.setLast refl.modRail.raise.offRail
  · exact eitherFst refl.raise.setLast (eitherFst refl.offRail.modRail refl.offRail)
  · exact refl.modRail.enterDischarge
  · exact refl

/-! ### The source pair and the watch -/

theorem srcLeave {toBatt : Bool} (h : Within bs s₀ s) (hl : [.pins, .seq, .mrg, .sched] ⊆ bs := by decide) :
    Within bs s₀ (s.srcLeave toBatt) := h.also hl <| by
  unfold State.srcLeave
  split
  · exact refl.offRail.modRail.modSeq
  · exact refl.modSeq

theorem dwellJudge (h : Within bs s₀ s) (hl : [.seq] ⊆ bs := by decide) : Within bs s₀ s.dwellJudge :=
  h.also hl (either refl.modSeq (either (either refl.modSeq refl) (either refl refl.modSeq)))

theorem srcJudge (h : Within bs s₀ s) (hl : [.pins, .seq, .mrg, .sched] ⊆ bs := by decide) : Within bs s₀ s.srcJudge :=
  h.also hl <| by
  unfold State.srcJudge
  refine either refl ?_
  split
  · exact either refl.srcLeave refl
  · exact refl.dwellJudge
  · exact refl

theorem trackRamp {n : Nat} (h : Within bs s₀ s) (hl : [.seq] ⊆ bs := by decide) : Within bs s₀ (s.trackRamp n) :=
  h.also hl (either refl (either (either refl refl.modRail) refl.modRail))

theorem guardTrip (h : Within bs s₀ s) (hl : [.pins, .seq, .mrg, .sched] ⊆ bs := by decide) : Within bs s₀ s.guardTrip :=
  h.also hl (either refl (refl.foldl fun _ _ h => either h.offRail.modRail h))

theorem holdSource {old : State} (h : Within bs s₀ s)
    (hl : [.pins, .regs, .seq, .react, .mrg, .nvm, .sched] ⊆ bs := by decide) : Within bs s₀ (s.holdSource old) := h.also hl <| by
  unfold State.holdSource
  refine either refl ?_
  split
  · exact either refl (either refl.takeFault.countFaults refl.takeFault)
  · exact refl

theorem watch {old : State} (h : Within bs s₀ s)
    (hl : [.supply, .pins, .regs, .seq, .react, .mrg, .nvm, .sched] ⊆ bs := by decide) : Within bs s₀ (s.watch old) :=
  h.also hl <| by
  have hsrc : Within [.supply, .pins, .regs, .seq, .react, .mrg, .nvm, .sched] s (s.watchSrc old) := either refl.modSupply refl
  exact either hsrc (hsrc.foldl fun _ _ h => h.trackRamp).guardTrip.holdSource.srcJudge

/-! ### Parts of a reset -/

theorem fabStart (h : Within bs s₀ s) (hl : [.fab] ⊆ bs := by decide) : Within bs s₀ s.fabStart := h.also hl refl.modFab

theorem fabStop (h : Within bs s₀ s) (hl : [.fab] ⊆ bs := by decide) : Within bs s₀ s.fabStop := h.also hl refl.modFab

theorem resetSeq (h : Within bs s₀ s) (hl : [.supply, .seq, .react, .mrg] ⊆ bs := by decide) : Within bs s₀ s.resetSeq :=
  h.also hl refl.modSeq.modReact.modMrg.modSupply

theorem resetMeas (h : Within bs s₀ s) (hl : [.regs, .meas, .cmp] ⊆ bs := by decide) : Within bs s₀ s.resetMeas :=
  h.also hl <| by
  unfold State.resetMeas
  dsimp only
  split
  · split
    · exact refl.modMeas.followCh
    · exact refl.modMeas
  · exact refl.modMeas

theorem resetCmp {l : Level} (h : Within bs s₀ s) (hl : [.regs, .cmp] ⊆ bs := by decide) : Within bs s₀ (s.resetCmp l) :=
  h.also hl <| by
  cases l with
  | l3 => exact refl
  | l2 => exact refl.chkAbortNow.modCmp
  | l1 => exact refl.modCmp
  | l0 => exact refl.modCmp

theorem resetRegs {l : Level} (h : Within bs s₀ s) (hl : [.regs, .live, .liveImg] ⊆ bs := by decide) :
    Within bs s₀ (s.resetRegs l) := h.also hl <| by
  cases l with
  | l3 => exact refl.withRegs
  | l2 => exact (of_eq_patch rfl : Within [.regs, .live, .liveImg] s _).setReg
  | l1 => exact of_eq_patch rfl
  | l0 => exact of_eq_patch rfl

theorem resetImg {l : Level} (h : Within bs s₀ s) (hl : [.img] ⊆ bs := by decide) : Within bs s₀ (s.resetImg l) :=
  h.also hl <| by
  cases l with
  | l3 => exact refl
  | l2 => exact refl.modImg
  | l1 => exact refl.modImg
  | l0 => exact refl.modImg

theorem resetSvc {l : Level} (h : Within bs s₀ s) (hl : [.svc] ⊆ bs := by decide) : Within bs s₀ (s.resetSvc l) :=
  h.also hl refl.modSvc

theorem resetLog {l : Level} (h : Within bs s₀ s) (hl : [.nvm] ⊆ bs := by decide) : Within bs s₀ (s.resetLog l) :=
  h.also hl <| by
  cases l with
  | l3 => exact refl.modNvm
  | l2 => exact refl.modNvm.modNvm.modNvm.modNvm
  | l1 => exact refl.modNvm.modNvm.modNvm.modNvm
  | l0 => exact refl.modNvm.modNvm

theorem resetMirror (h : Within bs s₀ s) (hl : [.pair] ⊆ bs := by decide) : Within bs s₀ s.resetMirror := h.also hl refl.modPair

theorem cancelOwn {c : RidgeCmd} (h : Within bs s₀ s) (hl : [.seq] ⊆ bs := by decide) : Within bs s₀ (s.cancelOwn c) :=
  h.also hl (either refl refl.modSeq)

theorem unplace {q : QueueCmd} (h : Within bs s₀ s) (hl : [.seq, .ridge, .sched] ⊆ bs := by decide) :
    Within bs s₀ (s.unplace q) := h.also hl <| by
  have hown : Within [.seq, .ridge, .sched] s (if q.chooseT then s.cancelOwn q.cmd else s) := either refl.cancelOwn refl
  exact either hown.modRidge.modSched hown.modRidge

/-- A fold from the right whose every step stays within bs. -/
theorem foldr {α : Type} {f : α → State → State} {xs : List α} (h : Within bs s t)
    (hf : ∀ x t, Within bs s t → Within bs s (f x t)) : Within bs s (xs.foldr f t) := by
  induction xs with
  | nil => exact h
  | cons x xs ih => exact hf x _ ih

theorem cutFrame (h : Within bs s₀ s) (hl : [.seq, .ridge, .sched] ⊆ bs := by decide) : Within bs s₀ s.cutFrame :=
  h.also hl <| by
  unfold State.cutFrame
  split
  · exact refl
  · exact (refl.foldr fun _ _ h => either h h.unplace).modRidge

theorem resetRidge {l : Level} (h : Within bs s₀ s) (hl : [.seq, .ridge, .sched] ⊆ bs := by decide) :
    Within bs s₀ (s.resetRidge l) := h.also hl <| by
  have hcut : Within [.seq, .ridge, .sched] s (if l = .l3 ∧ decide (s.role.role = .mst) then s.cutFrame else s) :=
    either refl.cutFrame refl
  exact hcut.modRidge

theorem endRidgeProxy (h : Within bs s₀ s) (hl : [.free, .regs, .ridge] ⊆ bs := by decide) : Within bs s₀ s.endRidgeProxy :=
  h.also hl <| by
  unfold State.endRidgeProxy
  exact either refl (either refl.withFree.setReg.setReg refl.withFree.setReg).modRidge

theorem endProxies {p : ChainPort} (h : Within bs s₀ s) (hl : [.regs] ⊆ bs := by decide) : Within bs s₀ (s.endProxies p) :=
  h.also hl <| by
  unfold State.endProxies
  split
  · exact refl.pxFail.foldl fun _ _ h => h.pxFail
  · exact refl.foldl fun _ _ h => h.pxFail

theorem resetChain {l : Level} (h : Within bs s₀ s) (hl : [.regs, .chain] ⊆ bs := by decide) :
    Within bs s₀ (s.resetChain l) := h.also hl <| by
  cases l with
  | l3 => exact refl.endProxies.endProxies.modChain
  | l2 => exact refl.modChain
  | l1 => exact refl.modChain
  | l0 => exact refl.modChain

theorem cancelOps (h : Within bs s₀ s) (hl : [.liveImg, .img, .fab, .hif] ⊆ bs := by decide) : Within bs s₀ s.cancelOps :=
  h.also hl <| by
  have hlive : Within [.liveImg, .img, .fab, .hif] s
      (if s.liveImg.isSome then (({ s with liveImg := none } : State).modImg fun i => { i with op := .none }).imgOpEnd else s) :=
    either refl.withLiveImg.modImg.imgOpEnd refl
  exact either hlive.modImg.fabStart.imgOpEnd hlive

end Sys2Proof.Machine.Within
end

section
/-! SUPPORT. What a reset, a refused role and the return of the clocks leave as it was (spec/01_roles_and_topologies.md R19;
spec/04_reset_controller.md R118, R122, R127, R131, R139). -/

-- A lemma's default argument is ready only once its proof is: taken up all at once, the lemmas below would wait in a thread each.
set_option Elab.async false

namespace Sys2Proof.Machine

variable {bs : List Block} {s₀ s t : State} {l : Level}

/-! ### The frames of the levels -/

theorem Within.resetHif (h : Within bs s₀ s) (hl : [.rst, .hif, .wdt] ⊆ bs := by decide) : Within bs s₀ (s.resetHif l) :=
  h.also hl refl.modHif.modRst.modWdt

theorem Within.resetGen (h : Within bs s₀ s) (hl : [.rst] ⊆ bs := by decide) : Within bs s₀ (s.resetGen l) :=
  h.also hl refl.modRst

/-- The blocks that the assertion of an L3 reset may change (Table 4-6): neither the clocks nor the start-up's stage. -/
def pathBlocks : List Block :=
  [.free, .role, .pwr, .pins, .rst, .regs, .live, .liveImg, .img, .fab, .seq, .nvm, .ridge, .sched, .pair, .unit, .chain, .hif, .wdt,
   .svc]

theorem Within.resetPaths (h : Within pathBlocks s₀ s) : Within pathBlocks s₀ (s.resetPaths l) := by
  have hregs : Within pathBlocks s₀ (if l = .l3 then (s.endRidgeProxy.resetRegs .l3).resetMirror else s) :=
    either h.endRidgeProxy.resetRegs.resetMirror h
  exact hregs.resetHif.resetRidge.resetChain.resetSvc.resetGen.resetLog.modUnit.balPins.modRole.modPwr.modImg.modRst

theorem Within.assertLevel_l3 (h : Within pathBlocks s₀ s) : Within pathBlocks s₀ (s.assertLevel .l3) :=
  h.cancelOps.resetPaths.modPins

/-! ### The reset in progress -/

/-- The reset in progress and `RST_CAUSE` stay. -/
def SameReset (s t : State) : Prop := t.rst.run = s.rst.run ∧ t.rst.cause = s.rst.cause

namespace SameReset

theorem refl : SameReset s s := ⟨rfl, rfl⟩

/-- What stays within other blocks than the reset controller's leaves its reset as it is. -/
theorem also (h : SameReset s₀ s) (hw : Within bs s t) (hb : .rst ∉ bs := by decide) : SameReset s₀ t := by
  have hrst : t.rst = s.rst := hw.same .rst hb
  unfold SameReset at *
  rwa [hrst]

theorem modRst {f : RstRec → RstRec} (h : SameReset s₀ s) (hrun : ∀ r, (f r).run = r.run) (hcause : ∀ r, (f r).cause = r.cause) :
    SameReset s₀ (s.modRst f) :=
  ⟨(hrun _).trans h.1, (hcause _).trans h.2⟩

theorem resetHif (h : SameReset s₀ s) : SameReset s₀ (s.resetHif l) :=
  ⟨h.1, h.2⟩

theorem resetGen (h : SameReset s₀ s) : SameReset s₀ (s.resetGen l) := by
  cases l <;> exact h.modRst (fun _ => rfl) fun _ => rfl

theorem resetPaths (h : SameReset s₀ s) : SameReset s₀ (s.resetPaths l) := by
  have hregs : SameReset s₀ (if l = .l3 then (s.endRidgeProxy.resetRegs .l3).resetMirror else s) :=
    h.also (bs := [.free, .regs, .live, .liveImg, .ridge, .pair])
      (.either Within.refl.endRidgeProxy.resetRegs.resetMirror .refl)
  have hlinks : SameReset s₀ (((((if l = .l3 then (s.endRidgeProxy.resetRegs .l3).resetMirror else s).resetHif l).resetRidge
      l).resetChain l).resetSvc l) :=
    hregs.resetHif.also (bs := [.regs, .seq, .ridge, .sched, .chain, .svc]) Within.refl.resetRidge.resetChain.resetSvc
  exact (hlinks.resetGen.also (bs := [.role, .pwr, .pins, .img, .nvm, .unit])
    Within.refl.resetLog.modUnit.balPins.modRole.modPwr.modImg).modRst (fun _ => rfl) fun _ => rfl

theorem resetCore_l0 (h : SameReset s₀ s) : SameReset s₀ (s.resetCore .l0) := by
  have hengines : SameReset s₀ ((((s.resetCmp .l0).resetMeas.resetSeq.fabReset).resetRegs .l0).resetImg .l0) :=
    h.also (bs := [.supply, .regs, .live, .liveImg, .img, .fab, .meas, .cmp, .seq, .react, .mrg])
      Within.refl.resetCmp.resetMeas.resetSeq.modFab.resetRegs.resetImg
  exact ⟨hengines.1, hengines.2⟩

theorem assertLevel_l3 (h : SameReset s₀ s) : SameReset s₀ (s.assertLevel .l3) :=
  ((h.also (bs := [.liveImg, .img, .fab, .hif]) Within.refl.cancelOps).resetPaths).also (bs := [.pins]) Within.refl.modPins

theorem assertLevel_l0 (h : SameReset s₀ s) : SameReset s₀ (s.assertLevel .l0) := by
  have hcore : SameReset s₀ ((s.resetPaths .l0).resetCore .l0) := h.resetPaths.resetCore_l0
  exact ⟨hcore.1, hcore.2⟩

end SameReset

theorem State.assertLevel_l3_domains (s : State) : (s.assertLevel .l3).rst.domains = 0 := rfl

end Sys2Proof.Machine
end

section
/-! SUPPORT. What a request for a reset begins (spec/04_reset_controller.md R122 to R127, R131, R139). -/

namespace Sys2Proof.Machine

variable {s : State} {c : RstSource}

/-! ### The level and the cause -/

/-- A running minimum is at most its start and each value it has met. -/
theorem foldl_min_le {α : Type} (f : α → Nat) (xs : List α) (b : Nat) :
    xs.foldl (fun a x => min a (f x)) b ≤ b ∧ ∀ x ∈ xs, xs.foldl (fun a x => min a (f x)) b ≤ f x := by
  induction xs generalizing b with
  | nil => simp
  | cons y ys ih =>
    obtain ⟨hb, hys⟩ := ih (min b (f y))
    refine ⟨hb.trans (min_le_left _ _), ?_⟩
    rintro x (_ | ⟨_, hx⟩)
    · exact hb.trans (min_le_right _ _)
    · exact hys x hx

/-- A request's level is never weaker than its minimum. -/
theorem State.levelFor_le (s : State) (q : RstReq) : (s.levelFor q).1 ≤ q.minL :=
  (foldl_min_le Prod.fst _ _).2 (q.minL, 3) (by simp)

theorem levelOf_eq_l0 {n : Nat} : levelOf n = .l0 ↔ n = 0 := by
  unfold levelOf
  split <;> simp_all

theorem minLevel_le_three (c : RstSource) : minLevel c ≤ 3 := by
  cases c <;> decide

/-- `RST_CAUSE` of a source c alone, at the level that R122 gives (R139). -/
def State.causeOf (s : State) (c : RstSource) : Word :=
  pack [(0, 13, 1), (0, 12, 1), ((s.levelFor (plainReq c)).2.2, 8, 4), ((s.levelFor (plainReq c)).2.1, 6, 2),
    ((s.levelFor (plainReq c)).1, 4, 2), (srcCode c, 0, 4)]

theorem srcCode_lt (c : RstSource) : srcCode c < 12 := by
  cases c <;> decide

/-- `SOURCE` stands in the lowest bits of the cause. -/
theorem State.source_causeOf (s : State) (c : RstSource) : fld (s.causeOf c) 0 4 = srcCode c := by
  have hc := srcCode_lt c
  simp [State.causeOf, pack, fld, w32]
  omega

/-- The level of a source alone, as a level. -/
def State.levelAlone (s : State) (c : RstSource) : Level := levelOf (s.levelFor (plainReq c)).1

/-- One source that raises a reset where none is in progress begins it at its own level, with its cause. -/
theorem State.raise1_of_idle (haon : s.supply.aon = true) (hrun : s.rst.run = none) (hretry : s.boot.retryEnd = none) :
    s.raise1 c =
      ((s.modRst fun r => { r with cause := s.causeOf c }).startReset (s.levelAlone c) (decide (c = .clkfail) && s.clk.gated)).modRst
        fun r => { r with sysArmed := false } := by
  have hbest : min 3 (s.levelFor (plainReq c)).1 = (s.levelFor (plainReq c)).1 :=
    min_eq_right ((s.levelFor_le _).trans (minLevel_le_three c))
  have hfirst : ((List.range 12).findSome? fun k => [(plainReq c, s.levelFor (plainReq c))].find? fun x =>
      decide (x.2.1 = (s.levelFor (plainReq c)).1) && decide (srcCode x.1.src = k)) =
        some (plainReq c, s.levelFor (plainReq c)) := by
    cases c <;> simp [List.range, List.range.loop, plainReq, srcCode]
  unfold State.raise1 State.raiseReset
  simp only [haon, hrun, hretry, hbest, hfirst, List.map_cons, List.map_nil, List.foldl_cons, List.foldl_nil]
  cases c <;> rfl

end Sys2Proof.Machine
end

section
/-! SUPPORT. The events of the clocks, of the roles and of the pins: a clock failure and the lock after it, a refused role, GPIO pins
and the wake from DOZE (spec/01_roles_and_topologies.md R19, R27; spec/03_supplies_clocks_and_start_up.md R82, R83, R96, R109;
spec/04_reset_controller.md R110, R131). -/

-- A lemma's default argument is ready only once its proof is: taken up all at once, the lemmas below would wait in a thread each.
set_option Elab.async false

namespace Sys2Proof.Machine

variable {bs : List Block} {s₀ s : State} {l : Level} {k : ClockFailKind}

/-! ### The start of a reset while the clocks stand (R110, R131) -/

theorem Within.endDoze (h : Within bs s₀ s) (hl : [.clk, .pwr, .meas, .wdt] ⊆ bs := by decide) : Within bs s₀ s.endDoze :=
  h.also hl (.either refl.modPwr.modClk.scanResume.modWdt refl)

theorem Clk.lock_of_gated (c : Clk) (hgated : c.gated = true) (hlock : c.pllLock = false) : { c with pllLock := !c.gated } = c := by
  cases c
  simp_all

/-- The end of DOZE counts the PLL as running only where the clocks are not gated. -/
theorem State.endDoze_clk (hgated : s.clk.gated = true) (hlock : s.clk.pllLock = false) : s.endDoze.clk = s.clk := by
  have hscan : ∀ u : State, u.scanResume.wdtRestart.clk = u.clk := fun u =>
    (Within.refl (bs := [.meas, .wdt])).scanResume.modWdt.same .clk
  unfold State.endDoze
  split
  · exact (hscan _).trans (s.clk.lock_of_gated hgated hlock)
  · rfl

/-- The record of a reset that begins. -/
def State.runOf (s : State) (l : Level) (applied : Bool) : ResetRun :=
  { level := l, asserted := true, since := s.ticks, applied := applied }

/-- The state with a reset begun whose level has not acted. -/
def State.resetBegun (s : State) (l : Level) (applied : Bool) : State :=
  s.endDoze.modRst fun r => { r with run := some (s.runOf l applied) }

theorem State.resetBegun_run (applied : Bool) : (s.resetBegun l applied).rst.run = some (s.runOf l applied) := rfl

theorem State.resetBegun_cause (applied : Bool) : (s.resetBegun l applied).rst.cause = s.rst.cause := by
  have hdoze : s.endDoze.rst = s.rst := (Within.refl (bs := [.clk, .pwr, .meas, .wdt])).endDoze.same .rst
  rw [State.resetBegun, State.modRst_rst, hdoze]

/-- A CLKFAIL reset below L0 runs stage 4 first. -/
theorem State.startReset_wait (hl : l ≠ .l0) : s.startReset l true = (s.resetBegun l false).relock := by
  simp [State.startReset, hl, State.resetBegun, State.runOf]

/-- An L0 reset acts at once. -/
theorem State.startReset_l0 (wait : Bool) : s.startReset .l0 wait = (s.resetBegun .l0 true).assertLevel .l0 := by
  simp [State.startReset, State.resetBegun, State.runOf]

/-! ### A clock failure (R82, R83, R131) -/

/-- The clocks stand, and the monitor with them. -/
def Clk.stopped (c : Clk) : Clk :=
  { c with monEvt := true, gated := true, pllLock := false, armed := false, sofTrim := false, sofCount := 0 }

/-- The clocks after a failure that the monitor sees. -/
def Clk.failed (c : Clk) : ClockFailKind → Clk
  | .crystal => { c.stopped with fallback := true, pllFromRc := true, xtalOk := false }
  | .pll => c.stopped
  | .aon => { c.stopped with aonRcOk := false }

@[simp] theorem Clk.failed_gated (c : Clk) : (c.failed k).gated = true := by cases k <;> rfl
@[simp] theorem Clk.failed_pllLock (c : Clk) : (c.failed k).pllLock = false := by cases k <;> rfl
@[simp] theorem Clk.failed_armed (c : Clk) : (c.failed k).armed = false := by cases k <;> rfl
@[simp] theorem Clk.failed_monEvt (c : Clk) : (c.failed k).monEvt = true := by cases k <;> rfl

/-- The state with the clocks stopped, in which CLKFAIL is raised. -/
def State.clocksFailed (s : State) (k : ClockFailKind) : State :=
  (s.modClk fun c => c.failed k).modFab fun f => { f with pulses := [] }

theorem State.exec_clockFail (hmon : s.monWatches k = true) (hrun : s.rst.run = none) :
    exec (.clockFail k []) s = .next ((s.clocksFailed k).raise1 .clkfail) := by
  have hexec : exec (.clockFail k []) s = execClockFail k s [] := rfl
  rw [hexec, execClockFail, if_neg (by simp [hmon])]
  simp only [hrun]
  cases k <;> rfl

/-- The state in which the CLKFAIL reset starts. -/
def State.clkfailCaused (s : State) (k : ClockFailKind) : State :=
  (s.clocksFailed k).modRst fun r => { r with cause := s.causeOf .clkfail }

theorem State.clkfailCaused_endDoze_clk : (s.clkfailCaused k).endDoze.clk = s.clk.failed k :=
  State.endDoze_clk (s.clk.failed_gated) (s.clk.failed_pllLock)

/-- CLKFAIL raised with the clocks stopped and no reset in progress. -/
theorem State.raise1_clkfail (h : Settled s) :
    (s.clocksFailed k).raise1 .clkfail =
      ((s.clkfailCaused k).startReset (s.levelAlone .clkfail) true).modRst fun r => { r with sysArmed := false } := by
  obtain ⟨haon, hrun, hretry, -⟩ := h
  have hgated : (decide (RstSource.clkfail = .clkfail) && (s.clocksFailed k).clk.gated) = true := s.clk.failed_gated
  rw [State.raise1_of_idle (s := s.clocksFailed k) haon hrun hretry, hgated]
  rfl

/-- Its source stands in `RST_CAUSE`, and it runs at its own level (R122, R139). -/
theorem State.clkfail_reset (h : Settled s) :
    ((s.clocksFailed k).raise1 .clkfail).rst.cause = s.causeOf .clkfail ∧
      ((s.clocksFailed k).raise1 .clkfail).rst.run.map (·.level) = some (s.levelAlone .clkfail) := by
  rw [State.raise1_clkfail h, State.modRst_rst]
  by_cases hl : s.levelAlone .clkfail = .l0
  · obtain ⟨hrun, hcause⟩ := (SameReset.refl (s := (s.clkfailCaused k).resetBegun .l0 true)).assertLevel_l0
    rw [hl, State.startReset_l0, hrun, hcause, State.resetBegun_run, State.resetBegun_cause]
    exact ⟨rfl, rfl⟩
  · rw [State.startReset_wait hl]
    exact ⟨State.resetBegun_cause (l := s.levelAlone .clkfail) false, rfl⟩

/-- Below L0 it gates the clocks and waits in stage 4 for the lock (R131). -/
theorem State.clkfail_waits (h : Settled s) (hl : s.levelAlone .clkfail ≠ .l0) :
    let t := (s.clocksFailed k).raise1 .clkfail
    t.clk = s.clk.failed k ∧ t.boot.stage = 4 ∧ t.boot.stageAt = s.ticks ∧ t.rst.run.map (·.applied) = some false ∧
      t.pins = s.pins ∧ t.nvm = s.nvm := by
  intro t
  have hdoze : Within [.clk, .pwr, .meas, .wdt] (s.clkfailCaused k) (s.clkfailCaused k).endDoze := Within.refl.endDoze
  have ht : t = ((s.clkfailCaused k).resetBegun (s.levelAlone .clkfail) false).relock.modRst fun r => { r with sysArmed := false } := by
    rw [← State.startReset_wait hl, ← State.raise1_clkfail h]
  rw [ht]
  exact ⟨State.clkfailCaused_endDoze_clk, rfl, hdoze.same .ticks, rfl, hdoze.same .pins, hdoze.same .nvm⟩

/-! ### The lock that runs the clocks again (R131) -/

/-- The PLL has locked, and the monitor watches. -/
def State.locked (s : State) : State :=
  s.modClk fun c => { c with pllLock := true, armed := true, aonRcOk := true, xtalOk := !c.pllFromRc }

/-- What the return of the clocks may change, beside the clocks. -/
theorem State.ungate_within :
    Within [.supply, .pins, .regs, .live, .liveImg, .img, .meas, .cmp, .seq, .react, .mrg, .nvm, .sched, .hif]
      (s.modClk fun c => { c with gated := false }) s.ungate :=
  ((Within.either Within.refl.liveApply .refl).scanResume.requalify).watch

/-- The clocks run again, and the reset in progress is the one whose level acts from now on. -/
def State.lockedReset (s : State) (r : ResetRun) : State :=
  s.locked.ungate.modRst fun x => { x with run := some { r with since := s.ticks, applied := true } }

/-- The clocks after the lock. -/
theorem State.locked_ungate_clk : s.locked.ungate.clk = { s.locked.clk with gated := false } := State.ungate_within.same .clk

/-- The level's action leaves the clocks as the lock has them. -/
theorem State.lockedReset_l3_clk (r : ResetRun) : ((s.lockedReset r).assertLevel .l3).clk = { s.locked.clk with gated := false } := by
  have hacts : ((s.lockedReset r).assertLevel .l3).clk = (s.lockedReset r).clk := Within.refl.assertLevel_l3.same .clk
  rw [hacts, State.lockedReset, State.modRst_clk, State.locked_ungate_clk]

/-- It leaves the reset in progress. -/
theorem State.lockedReset_l3_run (r : ResetRun) :
    ((s.lockedReset r).assertLevel .l3).rst.run = some { r with since := s.ticks, applied := true } :=
  (SameReset.refl (s := s.lockedReset r)).assertLevel_l3.1

/-- The lock of stage 4 in an L3 reset that gated the clocks: the level acts now where it has waited. -/
theorem State.exec_pllLock_l3 {r : ResetRun} (hrun : s.rst.run = some r) (hstage : s.inStage 4 = true) (hgated : s.clk.gated = true)
    (hwaking : s.pwr.waking = false) (hl3 : r.level = .l3) :
    exec .pllLock s = .next ((if r.applied then s.locked.ungate else (s.lockedReset r).assertLevel .l3).toStage 7) := by
  have hexec : exec .pllLock s = execPllLock s := rfl
  rw [hexec, execPllLock, if_neg (by simp [hwaking]), if_neg (by simp [hstage]), if_pos hgated]
  obtain ⟨level, asserted, since, applied⟩ := r
  obtain rfl : level = .l3 := hl3
  simp only [hrun]
  rfl

@[simp] theorem State.toStage_clk (n : Nat) : (s.toStage n).clk = s.clk := rfl
@[simp] theorem State.toStage_rst (n : Nat) : (s.toStage n).rst = s.rst := rfl

/-! ### A refused role (R19, R27) -/

/-- The role takes its refusal, and FAULT_N is asserted. -/
def State.refusalShown (s : State) (why : RoleReason) : State :=
  (s.modRole fun r => { r with state := .refused, reason := why, addr := 0, addrValid := false }).modBoot fun b =>
    { b with faultN := true, listenEnd := none }

/-- The engines stop. -/
def State.enginesStopped (s : State) : State := s.chkAbortNow.wetAbort.resetSeq.fabStop.stopScan.liveSettle

theorem State.enginesStopped_within :
    Within [.supply, .regs, .live, .liveImg, .img, .fab, .meas, .cmp, .seq, .react, .mrg, .hif] s s.enginesStopped :=
  Within.refl.chkAbortNow.wetAbort.resetSeq.fabStop.stopScan.liveSettle

theorem State.refuseRole_role (s : State) (why : RoleReason) :
    (s.refuseRole why).role = { s.role with state := .refused, reason := why, addr := 0, addrValid := false } := by
  have hengines : (s.refusalShown why).enginesStopped.role = (s.refusalShown why).role := State.enginesStopped_within.same .role
  simpa [State.refuseRole, State.enginesStopped, State.refusalShown] using hengines

theorem State.refuseRole_boot (s : State) (why : RoleReason) :
    (s.refuseRole why).boot = { s.boot with faultN := true, listenEnd := none } := by
  have hengines : (s.refusalShown why).enginesStopped.boot = (s.refusalShown why).boot := State.enginesStopped_within.same .boot
  simpa [State.refuseRole, State.enginesStopped, State.refusalShown] using hengines

theorem State.refuseRole_lstate (s : State) (why : RoleReason) : (s.refuseRole why).ridge.lstate = .refused := by
  simp [State.refuseRole]

/-! ### GPIO pins (R187, R440) -/

/-- The board's levels after pin n takes level b. -/
def gpioWith (g : BitVec 8) (n : Nat) (b : Bool) : BitVec 8 :=
  if b then g ||| BitVec.ofNat 8 (2 ^ n) else g &&& ~~~(BitVec.ofNat 8 (2 ^ n))

theorem getLsbD_gpioWith {g : BitVec 8} {n k : Nat} {b : Bool} (hk : k < 8) :
    (gpioWith g n b).getLsbD k = if n = k then b else g.getLsbD k := by
  have hpow : (BitVec.ofNat 8 (2 ^ n)).getLsbD k = decide (n = k) := by
    rw [BitVec.getLsbD_ofNat, Nat.testBit_two_pow, decide_eq_true hk, Bool.true_and]
  cases b
  · simp only [gpioWith, Bool.false_eq_true, if_false, BitVec.getLsbD_and, BitVec.getLsbD_not, hk, hpow]
    by_cases hnk : n = k <;> simp [hnk]
  · simp only [gpioWith, if_true, BitVec.getLsbD_or, hpow]
    by_cases hnk : n = k <;> simp [hnk]

/-- An edge on GPIO7 of a pair is a guard edge; the level alone moves otherwise. -/
theorem exec_gpioInputChange {n : Nat} {b : Bool} (hn : n < 8) :
    exec (.gpioInputChange n b) s = .next
      (let t := s.modPins fun p => { p with gpio := gpioWith p.gpio n b }
       if n = 7 ∧ s.paired ∧ s.pins.gpio.getLsbD n ≠ b then t.modPair fun p => { p with lastEdge := some s.ticks } else t) :=
  if_neg (by omega)

/-! ### The wake from DOZE (R109) -/

theorem getLsbD_wakeBit (w : BitVec 5) (c : WakeCause) : (w ||| BitVec.ofNat 5 (2 ^ wakeBit c)).getLsbD (wakeBit c) = true := by
  cases c <;> simp [wakeBit]

theorem exec_dozeWake {c : WakeCause} (hdoze : s.pwr.doze = true) (hwaking : s.pwr.waking = false) (hopen : s.wakeOpen c = true) :
    exec (.dozeWake c) s =
      .next ((s.modPins fun p => { p with wakeN := p.wakeN && decide (c ≠ .wakePin) }).dozeWake c) := by
  have hexec : exec (.dozeWake c) s = execDozeWake c s := rfl
  rw [hexec, execDozeWake, if_neg (by simp [hdoze, hwaking, hopen])]
  cases c <;> simp <;> rfl

end Sys2Proof.Machine
end

section
/-! SUPPORT. Obligations settled: pins, start of frame, listening, wake from DOZE and clock failure. -/

namespace Sys2Proof.Machine

/-- Settles O12. A clock failure raises CLKFAIL alone, with the clocks already stopped (R131); that `AONRC_OK` reads 1 again after the
lock is log entry 8's choice, and that the monitor watches the crystal alone in DOZE is log entry 30's. -/
theorem pinAndClockEventsComplete : Obligations.PinAndClockEventsComplete := by
  refine ⟨⟨fun s n b hn => ?gpio, fun s b => ?wakePin, fun s hatt hrc hlock htrim => ?sof, fun s k hend hk hmst hl => ?listen,
    fun s hmst hshadow hl => ?second, fun s c hdoze hwaking hopen => ?wake⟩,
    fun s k hmon hset => ?fail, fun s r hrun hstage hgated hwaking hl3 => ?lock⟩
  case gpio =>
    have hpin : (gpioWith s.pins.gpio n b).getLsbD n = b := by simp [getLsbD_gpioWith hn]
    have hothers : ∀ k, k < 8 → k ≠ n → (gpioWith s.pins.gpio n b).getLsbD k = s.pins.gpio.getLsbD k :=
      fun k hk hkn => by simp [getLsbD_gpioWith hk, hkn.symm]
    refine .of_exec (exec_gpioInputChange hn) rfl ?_
    dsimp only
    split
    next hedge =>
      obtain ⟨h7, hpaired, hmoved⟩ := hedge
      refine ⟨hpin, hothers, rfl, fun hno => ?_, fun _ _ _ => rfl⟩
      rcases hno with hno | hno | hno
      exacts [absurd h7 hno, by simp [hpaired] at hno, absurd hno hmoved]
    next hedge => exact ⟨hpin, hothers, rfl, fun _ => rfl, fun h7 hpaired hmoved => absurd ⟨h7, hpaired, hmoved⟩ hedge⟩
  case wakePin => exact .of_exec rfl rfl rfl
  case sof =>
    have hexec : exec .startOfFrame s =
        .next (s.modClk fun c => { c with sofCount := c.sofCount + 1, sofTrim := decide (3 ≤ c.sofCount + 1) }) :=
      if_pos (by simp [hatt, hrc, hlock, htrim])
    exact .of_exec hexec rfl ⟨rfl, by simp, rfl⟩
  case listen =>
    have hexec : exec .masterListenEnd s = execMasterListenEnd s := rfl
    rw [execMasterListenEnd, hend] at hexec
    exact .of_exec (hexec.trans (if_neg (by simp [hmst, hl, hk]))) rfl rfl
  case second =>
    have hexec : exec .secondMasterDetected s = .next (s.refuseRole .secondMaster) := if_pos ⟨hmst, by simp [hshadow], hl⟩
    exact .of_exec hexec rfl ⟨by rw [State.refuseRole_role], by rw [State.refuseRole_role], State.refuseRole_lstate s _,
      by rw [State.refuseRole_boot]⟩
  case wake => exact .of_exec (exec_dozeWake hdoze hwaking hopen) rfl ⟨rfl, getLsbD_wakeBit _ c, rfl, rfl, rfl, rfl⟩
  case fail =>
    have ⟨_, hrun, _⟩ := hset
    obtain ⟨hcause, hlevel⟩ := State.clkfail_reset (k := k) hset
    refine .of_exec (State.exec_clockFail hmon hrun) rfl ⟨?_, hlevel, fun hl => ?_⟩
    · rw [hcause, State.source_causeOf]
    · obtain ⟨hclk, hstage, hat, happlied, hpins, hnvm⟩ := State.clkfail_waits (k := k) hset (mt levelOf_eq_l0.mp hl)
      rw [hclk, hnvm]
      exact ⟨Clk.failed_gated _, Clk.failed_pllLock _, Clk.failed_armed _, Clk.failed_monEvt _, hstage, hat, happlied, hpins, rfl,
        by rintro rfl; exact ⟨rfl, rfl⟩, by rintro rfl; rfl⟩
  case lock =>
    refine .of_exec (State.exec_pllLock_l3 hrun hstage hgated hwaking hl3) rfl ?_
    rw [State.toStage_clk, State.toStage_rst]
    split
    next happlied =>
      rw [State.locked_ungate_clk]
      exact ⟨rfl, rfl, rfl, rfl, by simp [happlied]⟩
    next =>
      rw [State.lockedReset_l3_clk, State.assertLevel_l3_domains, State.lockedReset_l3_run]
      exact ⟨rfl, rfl, rfl, rfl, fun _ => ⟨rfl, rfl⟩⟩

end Sys2Proof.Machine
end

section
/-! SUPPORT. Every command answers a next state, but the fuse load that leads to production test (spec/02_pins_and_package.md R46;
spec/18_register_map.md R550). -/

namespace Sys2Proof.Machine

/-- What a command answers is a next state. -/
def Completes (o : Out) : Prop := ∃ t, o = .next t

namespace Completes

variable {o o' : Out} {s : State}

theorem ok : Completes (ok s) := ⟨s, rfl⟩

theorem either {c : Prop} [Decidable c] (h : Completes o) (h' : Completes o') : Completes (if c then o else o') := by
  split
  · exact h
  · exact h'

end Completes

variable {s : State} {bytes : List Byte}

/-! ### Operations that rows share -/

theorem State.launchOwn_completes {op : Nat} {t : BitVec 32} {arg1 : Word} {u : State} : Completes (s.launchOwn op t arg1 u) := by
  unfold State.launchOwn
  split
  exacts [.either .ok .ok, .ok]

theorem State.launchCmd_completes {op : Nat} {f : RidgeCmd → State → State} : Completes (s.launchCmd op f) := by
  unfold State.launchCmd
  split
  exacts [.either .ok .ok, .ok]

theorem State.mirrorIn_completes {ty : Nat} {f : State → MFrame → State} : Completes (s.mirrorIn ty bytes f) := by
  refine .either .ok ?_
  split
  exacts [.ok, .ok]

theorem State.takeBroadcast_completes {ty : Nat} {f : State → State} : Completes (s.takeBroadcast ty bytes f) := by
  refine .either .ok ?_
  split
  exacts [.ok, .either .ok (.either .ok .ok)]

theorem State.takeAddressed_completes {write : Bool} {f : State → List Byte → State} :
    Completes (s.takeAddressed write bytes f) := by
  refine .either .ok ?_
  split
  exacts [.ok, .either .ok (.either .ok (.either .ok .ok))]

theorem execSrcFaultEdge_completes {co : Bool} : Completes (execSrcFaultEdge co s) := by
  refine .either .ok (.either .ok (.either ?_ .ok))
  split
  exacts [.ok, .ok]

theorem State.dozeEnd_completes : Completes s.dozeEnd := .either execSrcFaultEdge_completes .ok

/-! ### Rows that match below a guard, or twice -/

theorem execPllLock_completes : Completes (execPllLock s) := by
  refine .either State.dozeEnd_completes (.either .ok (.either ?_ .ok))
  dsimp only
  split
  exacts [.ok, .ok]

theorem execMinOffExpiry_completes : Completes (execMinOffExpiry s) := by
  refine .either .ok (.either (.either .ok .ok) (.either ?_ (.either .ok .ok)))
  split
  exacts [.either .ok .ok, .ok]

theorem execRailOffInstant_completes {n : Nat} : Completes (execRailOffInstant n s) := by
  refine .either .ok (.either .ok (.either ?_ (.either .ok .ok)))
  split
  exacts [.either .ok .ok, .ok]

theorem execBbmGapExpiry_completes : Completes (execBbmGapExpiry s) := by
  refine .either .ok ?_
  dsimp only
  split
  · split
    exacts [.either .ok .ok, .ok]
  · split
    exacts [.either .ok .ok, .ok]
  all_goals exact .ok

theorem execRampTimeout_completes {n : Nat} {co : Bool} : Completes (execRampTimeout n s co) := by
  refine .either .ok (.either ?_ .ok)
  split
  exacts [.ok, .ok]

theorem execAdoptSample_completes : Completes (execAdoptSample s) := by
  unfold execAdoptSample
  split
  · exact .ok
  · split
    exacts [.either .ok .ok, .either .ok .ok, .either .ok .ok]

theorem execChainReplyReceive_completes {p1 : Bool} : Completes (execChainReplyReceive p1 bytes s) := by
  refine .either .ok ?_
  split
  · split
    · exact .ok
    · split
      exacts [.ok, .ok]
  · dsimp only
    split
    exacts [.ok, .ok]

theorem execGrantLaunch_completes : Completes (execGrantLaunch s) := by
  unfold execGrantLaunch
  split
  exacts [.either .ok (.either .ok (.either .ok .ok)), .ok]

theorem execReloadCopyDone_completes {copyOk : Bool} : Completes (execReloadCopyDone copyOk s) := by
  refine .either .ok (.either .ok ?_)
  split
  exacts [.ok, .ok]

theorem execReplyReceive_completes {n : Nat} {arrival : Int} : Completes (execReplyReceive n bytes arrival s) := by
  refine .either .ok ?_
  split
  exacts [.ok, .either .ok .ok]

theorem execCroakReceive_completes : Completes (execCroakReceive bytes s) := by
  refine .either .ok ?_
  split
  · exact .ok
  · refine .either .ok ?_
    dsimp only
    split
    exacts [.ok, .ok]

theorem execPartnerLost_completes : Completes (execPartnerLost s) := by
  unfold execPartnerLost
  split
  · exact .ok
  · refine .either .ok ?_
    dsimp only
    split
    exacts [.ok, .ok, .either .ok (.either .ok .ok), .ok, .ok, .ok, .ok, .ok]

theorem execYieldLaunch_completes : Completes (execYieldLaunch s) := by
  unfold execYieldLaunch
  split
  · exact .ok
  · refine .either .ok ?_
    split
    exacts [.ok, .ok, .ok]

theorem execResetAssertMinExpiry_completes : Completes (execResetAssertMinExpiry s) := by
  unfold execResetAssertMinExpiry
  split
  · refine .either .ok ?_
    dsimp only
    split
    exacts [.ok, .ok, .ok]
  · exact .ok

theorem execHeaderReceive_completes : Completes (execHeaderReceive bytes s) := by
  refine .either .ok ?_
  split
  · exact .ok
  · refine .either .ok ?_
    split
    exacts [.either .ok .ok, .ok]

theorem execRidgeGrant_completes : Completes (execRidgeGrant s) := by
  refine .either ?_ State.launchCmd_completes
  split
  exacts [.ok, .ok]

/-! ### The fuse load (R46, R529) -/

/-- The load has put the fuse array into the shadow. -/
def State.shadowLoaded (s : State) : State :=
  (s.modSvc fun v => { v with shadow := v.fuses }).modBoot fun b => { b with shadowOk := true }

theorem State.lifecycle_shadowLoaded (hopen : fld (s.svc.fuses.getD 0 0) 0 2 = 0) : s.shadowLoaded.lifecycle = 0 := by
  have hword : s.shadowLoaded.fuseW 0 = s.svc.fuses.getD 0 0 := rfl
  simp only [State.lifecycle, hword, hopen]
  rfl

theorem execFuseLoadDone_false_completes : Completes (exec (.fuseLoadDone false) s) := .either .ok ⟨s.fuseFail, if_pos rfl⟩

theorem execFuseLoadDone_true_outcomes :
    Completes (exec (.fuseLoadDone true) s) ∨ exec (.fuseLoadDone true) s = .refused .productionTest := by
  have hexec : exec (.fuseLoadDone true) s = execFuseLoadDone true s := rfl
  rw [hexec, execFuseLoadDone]
  split
  · exact .inl .ok
  · rw [if_neg (by simp)]
    dsimp only
    split
    exacts [.inr rfl, .inl .ok]

theorem execFuseLoadDone_productionTest (hstage : s.inStage 3 = true) (htest : s.pins.strapTest = true)
    (hopen : fld (s.svc.fuses.getD 0 0) 0 2 = 0) : exec (.fuseLoadDone true) s = .refused .productionTest := by
  have hexec : exec (.fuseLoadDone true) s = execFuseLoadDone true s := rfl
  rw [hexec, execFuseLoadDone, if_neg (by simp [hstage]), if_neg (by simp)]
  exact if_pos ⟨htest, State.lifecycle_shadowLoaded hopen⟩

/-! ### Every row -/

/-- The rows stand in groups by what they ask before they act. -/
theorem exec_completes (c : Instr) (hc : c ≠ .fuseLoadDone true) : Completes (exec c s) := by
  cases c with
  -- Nothing is asked.
  | registerWrite | liveWrite | rcFieldRead | vddioRise | vddioLost | tbUpLoRead | dozeRequest | pinReset | parityError | ecc2Error
  | rstCmdWrite | blockResetRequest | imgVerify | imgActivateLive | imgActivateFull | imgNoAction | scanStop | scanRestart | snap
  | snapNext | wetCheckStart | wetCheckAbort | wetStepDone | latchClear | selfCheckStart | selfCheckStep | seqStartCmd | seqStopCmd
  | seqHoldCmd | seqReleaseCmd | grpStartCmd | grpStopCmd | railOnInstant | holdBattWrite | marginNominal | marginHigh | marginLow
  | recordCommit | historyCommit | logClear | counterClear | logAddrWrite | logDataRead | nvmDataRead | nvmDataWrite | ridgeHcmdWrite
  | proxyRead | proxyWrite | nodeForget | unsensedClear | yieldRequest | resyncRequest | stackProxyRead | stackProxyWrite | portWakeEnum
  | portEnum | portSleep | portBaloff | portSnap | writeQueueApply | wdtKick | info | rread | rwrite | mread | mwrite | challenge | auth
  | logout | signedExport | cert | svcReset | fuseProgram | wakePinLevel => exact .ok
  -- One guard stands before the effect.
  | powerOnReset | porRearm | rcReady | xtalTimeout | resetReleaseStep | cpReady | benchEntry | benchExit | vbusLoss | dozeWake
  | secondMasterDetected | resetPinRelease | scanEdge | resultRead | snapRead | comparatorCrossing | comparatorRelease | deglitchQualify
  | armHoldExpiry | newtStrobe | dischTimeout | forgiveExpiry | sysForgiveExpiry | returnDwellExpiry | marginSlewStep | marginTimeout
  | counterFlush | logRebuildDone | logClearApply | nvmWriteDone | tickEdgeReceive | burstReceive | replySend | replyMissing | ridgeAdmit
  | ridgeReject | ridgeDelay | ridgeRegRead | ridgeRegWrite | croakSend | lockTickTimeout | zxEdge | zxLost | dutyWrite | pairListenEnd
  | pairClaimWaitExpiry | claimSend | heartbeatSend | mirrorResend | guardToggle | balancePeriodStart | balanceDutyEnd
  | balancePauseStart | balancePauseEnd | enumTimeout | commTimeout | stackWakePin | wakeWaitExpiry | i2cStallTimeout | wdtDeadline
  | usbAttach | usbSuspend | usbResume | usbBusReset | setLineCoding | getLineCoding | sendBreak | setControlLineState
  | unsupportedClassRequest | sessionIdleTimeout | gpioInputChange | startOfFrame | usbStandardRequest | suindelmFrameDiscard
  | suindelmUnknownType | mirrorFrameDiscard | croakCollision | headerCrcFail | stage6Done | verifyDone | fabTimerExpiry | frameTick
  | croakAnswerTimeout | joiningTimeout | masterLoss => exact .either .ok .ok
  -- Guards stand one behind the other.
  | regulatorsReady | stageTimeout | bgCheckPass | reloadCheckDone | selfCheckPeriodic | wakeToneDetect | imageSelectDone | clockFail =>
    exact .either .ok (.either .ok .ok)
  | epochCommit => exact .either (.either .ok .ok) .ok
  | retryGapExpiry => exact .either .ok (.either .ok (.either .ok (.either .ok .ok)))
  -- The row asks what pends, takes the edges of its sink or parses the bytes.
  | fabIrqEdge | srcRecover | fabSysReset =>
    dsimp only [exec, execFabIrqEdge, execSrcRecover, execFabSysReset]
    split
    exacts [.ok, .ok]
  | fabSeqStop | grpdnEdge | marginAbortEdge | rampInWindow | chainReplyTimeout | grantEnd | proxyReadTimeout | burstBSend | digestMissed
  | yieldAbandon | enumTopTimeout | takenReceive | blockResetEnd | rstoutRelease | retryWaitExpiry | masterListenEnd
  | writeQueueWaitTimeout | nonceExpiry | authLockoutExpiry =>
    dsimp only [exec, execFabSeqStop, execGrpdnEdge, execMarginAbortEdge, execRampInWindow, execChainReplyTimeout, execGrantEnd,
      execProxyReadTimeout, execBurstBSend, execDigestMissed, execYieldAbandon, execEnumTopTimeout, execTakenReceive, execBlockResetEnd,
      execRstoutRelease, execRetryWaitExpiry, execMasterListenEnd, execWriteQueueWaitTimeout, execNonceExpiry, execAuthLockoutExpiry]
    split
    exacts [.either .ok .ok, .ok]
  | publication | systemFabricReset =>
    dsimp only [exec, execPublication, execSystemFabricReset]
    split
    exacts [.ok, .either .ok .ok]
  | fabSeqStart | sysreactRestart | hostIfRelease =>
    dsimp only [exec, execFabSeqStart, execSysreactRestart, execHostIfRelease]
    split
    exacts [.either .ok (.either .ok .ok), .ok]
  | reactEdge | ridgeTxEdge =>
    dsimp only [exec, execReactEdge, execRidgeTxEdge]
    split
    exacts [.either .ok (.either .ok (.either .ok .ok)), .ok]
  | startLaunch | stopLaunch =>
    dsimp only [exec, execStartLaunch, execStopLaunch]
    split
    exacts [.either .ok State.launchOwn_completes, .ok]
  | grpStartLaunch | grpStopLaunch =>
    dsimp only [exec, execGrpStartLaunch, execGrpStopLaunch]
    split
    exacts [State.launchOwn_completes, .ok]
  | enumReceive | enumEndReceive =>
    refine .either .ok ?_
    split
    exacts [.either .ok .ok, .ok]
  | frameRepeat =>
    refine .either .ok ?_
    split
    exacts [.ok, .either .ok (.either .ok .ok)]
  | hostReadTransaction =>
    refine .either .ok (.either .ok (.either .ok (.either .ok ?_)))
    split
    exacts [.ok, .ok]
  | hostWriteTransaction =>
    refine .either .ok (.either .ok (.either .ok ?_))
    split
    exacts [.ok, .ok]
  -- One operation is shared by the rows.
  | ridgeStart | ridgeStop | ridgeGrpStart | ridgeGrpStop | ridgeEvent | ridgeMargin | ridgeReset =>
    dsimp only [exec, execRidgeStart, execRidgeStop, execRidgeGrpStart, execRidgeGrpStop, execRidgeEvent, execRidgeMargin, execRidgeReset]
    exact State.launchCmd_completes
  | claimReceive | heartbeatReceive | deltaReceive | commitReceive | digestReceive | snapreqReceive | chunkReceive | yieldReceive =>
    dsimp only [exec, execClaimReceive, execHeartbeatReceive, execDeltaReceive, execCommitReceive, execDigestReceive,
      execSnapreqReceive, execChunkReceive, execYieldReceive]
    exact State.mirrorIn_completes
  | chainSnap | chainBaloff | chainSleep =>
    dsimp only [exec, execChainSnap, execChainBaloff, execChainSleep]
    exact State.takeBroadcast_completes
  | chainRead | chainWrite =>
    dsimp only [exec, execChainRead, execChainWrite]
    exact State.takeAddressed_completes
  -- The row has a lemma of its own.
  | srcFaultEdge => exact execSrcFaultEdge_completes
  | pllLock => exact execPllLock_completes
  | minOffExpiry => exact execMinOffExpiry_completes
  | railOffInstant => exact execRailOffInstant_completes
  | bbmGapExpiry => exact execBbmGapExpiry_completes
  | rampTimeout => exact execRampTimeout_completes
  | adoptSample => exact execAdoptSample_completes
  | chainReplyReceive => exact execChainReplyReceive_completes
  | grantLaunch => exact execGrantLaunch_completes
  | reloadCopyDone => exact execReloadCopyDone_completes
  | replyReceive => exact execReplyReceive_completes
  | croakReceive => exact execCroakReceive_completes
  | partnerLost => exact execPartnerLost_completes
  | yieldLaunch => exact execYieldLaunch_completes
  | resetAssertMinExpiry => exact execResetAssertMinExpiry_completes
  | headerReceive => exact execHeaderReceive_completes
  | ridgeGrant => exact execRidgeGrant_completes
  | fuseLoadDone senseOk =>
    cases senseOk with
    | false => exact execFuseLoadDone_false_completes
    | true => exact absurd rfl hc

end Sys2Proof.Machine
end

section
/-! SUPPORT. Obligations settled: every command answers. -/

namespace Sys2Proof.Machine

/-- Settles O7: the case split over the rows is `exec_completes`; the one row left out stops in the one state of R46 that the model
leaves to the production test (log entry 29). -/
theorem everyCommandAnswers : Obligations.EveryCommandAnswers := by
  refine ⟨fun c s => ?_, fun s hstage htest hopen => execFuseLoadDone_productionTest hstage htest hopen⟩
  by_cases hc : c = .fuseLoadDone true
  · subst hc
    exact execFuseLoadDone_true_outcomes.imp_right fun h => ⟨rfl, h⟩
  · exact .inl (exec_completes c hc)

end Sys2Proof.Machine
end

section
/-! SUPPORT. What a master's frame leaves alone, and what the pairs show of it (spec/11_ridge_link.md R358 to R367). -/

namespace Sys2Proof.Machine

variable {s₀ s t : State}

/-! ### The drive of the link -/

/-- The blocks in which a master fills its frame. -/
def frameBlocks : List Block := [.regs, .seq, .ridge, .sched]

/-- What the drive of the link rests on is the same in t as in s, and the rest changes within the frame's blocks alone. -/
structure KeepsLine (s t : State) : Prop where
  within : Within frameBlocks s t
  lstate : t.ridge.lstate = s.ridge.lstate
  sentB : t.ridge.m.sentB = s.ridge.m.sentB
  cut : t.ridge.m.cut = s.ridge.m.cut

namespace KeepsLine

theorem refl : KeepsLine s s := ⟨.refl, rfl, rfl, rfl⟩

theorem apart (h : KeepsLine s₀ s) (hw : Within [.regs, .seq, .sched] s t) : KeepsLine s₀ t := by
  have hridge : t.ridge = s.ridge := hw.same .ridge
  exact ⟨h.within.also (by decide) hw, hridge ▸ h.lstate, hridge ▸ h.sentB, hridge ▸ h.cut⟩

theorem modRidge {f : Ridge → Ridge} (h : KeepsLine s₀ s) (hl : ∀ r, (f r).lstate = r.lstate := by exact fun _ => rfl)
    (hsent : ∀ r, (f r).m.sentB = r.m.sentB := by exact fun _ => rfl) (hcut : ∀ r, (f r).m.cut = r.m.cut := by exact fun _ => rfl) :
    KeepsLine s₀ (s.modRidge f) :=
  ⟨h.within.modRidge, (hl _).trans h.lstate, (hsent _).trans h.sentB, (hcut _).trans h.cut⟩

theorem modNode {n : Nat} {f : Node → Node} (h : KeepsLine s₀ s) : KeepsLine s₀ (s.modNode n f) := by
  unfold State.modNode State.modM
  exact h.modRidge

theorem either {c : Prop} [Decidable c] (ht : KeepsLine s₀ s) (hu : KeepsLine s₀ t) : KeepsLine s₀ (if c then s else t) := by
  split
  · exact ht
  · exact hu

theorem foldl {α : Type} {f : State → α → State} {xs : List α} (h : KeepsLine s₀ s)
    (hf : ∀ t x, KeepsLine s₀ t → KeepsLine s₀ (f t x)) : KeepsLine s₀ (xs.foldl f s) :=
  xs.foldlRecOn f h fun t ht x _ => hf t x ht

theorem dropCmd {q : QueueCmd} (h : KeepsLine s₀ s) : KeepsLine s₀ (s.dropCmd q) := by
  unfold State.dropCmd
  extract_lets told own granted reported polled
  have htold : Within [.regs, .seq, .sched] s told := Within.refl.raise
  have hown : Within [.regs, .seq, .sched] s own := .either htold.cancelOwn.modSeq htold
  have hgranted : Within [.regs, .seq, .sched] s granted := .either hown.count.raise hown
  have hreported : Within [.regs, .seq, .sched] s reported := .either hgranted.setRegFld.setRegBit hgranted
  have hpolled : Within [.regs, .seq, .sched] s polled := .either hreported.modSched hreported
  exact .either (h.apart hpolled.setRegFld.setRegBit).modRidge (h.apart hpolled)

theorem offerCmd {q : QueueCmd} (h : KeepsLine s₀ s) : KeepsLine s₀ (s.offerCmd q) := .either h.dropCmd h.modRidge

theorem dropPolls (h : KeepsLine s₀ s) : KeepsLine s₀ s.dropPolls := h.apart Within.refl.modSched

theorem queuePoll (h : KeepsLine s₀ s) : KeepsLine s₀ s.queuePoll := by
  unfold State.queuePoll
  dsimp only
  split
  · exact h
  · exact (h.apart Within.refl.modSched).offerCmd

theorem admitReady (h : KeepsLine s₀ s) : KeepsLine s₀ s.admitReady := by
  refine h.foldl fun t n ht => ?_
  dsimp only
  split
  · exact .either (ht.modNode.apart Within.refl.modSched.raise) ht
  · exact ht

theorem placeOwn {c : RidgeCmd} {chosen : Bool} (h : KeepsLine s₀ s) : KeepsLine s₀ (s.placeOwn c chosen) := by
  have hseq {f : Seq → Seq} : KeepsLine s₀ (s.modSeq f) := h.apart Within.refl.modSeq
  refine .either h ?_
  split
  · exact .either h (.either hseq hseq)
  · exact .either hseq h
  · exact .either hseq h
  · exact .either hseq h
  · exact h.modRidge
  · exact h.modRidge
  · exact h

theorem placeCmd {tk : BitVec 32} {q : QueueCmd} (h : KeepsLine s₀ s) : KeepsLine s₀ (s.placeCmd tk q) := by
  unfold State.placeCmd
  extract_lets cs _ c q' dsts placed own reported reissued delayed
  have hown : KeepsLine s₀ own := h.modRidge.placeOwn
  have hreported : KeepsLine s₀ reported := .either (hown.apart Within.refl.setReg) hown
  have hreissued : KeepsLine s₀ reissued := .either (hreported.apart Within.refl.setReg) hreported
  have hdelayed : KeepsLine s₀ delayed := .either hreissued.modNode hreissued
  exact .either hdelayed (.either hdelayed.modRidge (hdelayed.apart Within.refl.modSched))

theorem fillFrame {tk : BitVec 32} (h : KeepsLine s₀ s) : KeepsLine s₀ (s.fillFrame tk) :=
  (KeepsLine.foldl h.modRidge fun _ _ ht => ht.dropCmd).modRidge.foldl fun _ _ ht => ht.placeCmd

theorem mstDrives_eq (h : KeepsLine s t) : t.mstDrives = s.mstDrives := by
  have hrole : t.role = s.role := h.within.same .role
  have hpair : t.pair = s.pair := h.within.same .pair
  have hclk : t.clk = s.clk := h.within.same .clk
  have hrst : t.rst = s.rst := h.within.same .rst
  simp only [State.mstDrives, State.isRole, State.running, State.linkOut, State.blkBusy, hrole, hpair, hclk, hrst, h.lstate]

end KeepsLine

/-! ### The pairs (R361, R362, R367) -/

/-- The master drives the link and has just begun a frame. -/
def FrameBegun (s : State) : Prop :=
  s.mstDrives = true ∧ s.ridge.m.sentB = false ∧ s.ridge.m.cut = false ∧ s.ridge.txAt = s.ticks

theorem FrameBegun.tickPair_after (h : FrameBegun s) (k : Nat) :
    ({ s with ticks := s.ticks + k } : State).tickPair = some (decide (k < 2)) := by
  obtain ⟨hdrives, hsent, -, hat⟩ := h
  have hdrives' : ({ s with ticks := s.ticks + k } : State).mstDrives = true := hdrives
  simp [State.tickPair, hdrives', hsent, hat]

theorem FrameBegun.dataDriven_after (h : FrameBegun s) {k : Nat} (hk : k < 29) :
    ({ s with ticks := s.ticks + k } : State).dataDriven = decide (4 ≤ k) := by
  obtain ⟨hdrives, hsent, hcut, hat⟩ := h
  have hdrives' : ({ s with ticks := s.ticks + k } : State).mstDrives = true := hdrives
  have hburst : ¬30 ≤ k := by omega
  simp [State.dataDriven, hdrives', hsent, hcut, hat, hk, hburst]

/-- The tick pair is positive for 2 µs, and the header follows at 4 µs (R361, R362). -/
theorem FrameBegun.pairs (h : FrameBegun s) :
    s.tickPair = some true ∧ s.dataDriven = false ∧ ({ s with ticks := s.ticks + 1 } : State).tickPair = some true ∧
      ({ s with ticks := s.ticks + 2 } : State).tickPair = some false ∧
      ({ s with ticks := s.ticks + 3 } : State).dataDriven = false ∧ ({ s with ticks := s.ticks + 4 } : State).dataDriven = true :=
  ⟨h.tickPair_after 0, h.dataDriven_after (k := 0) (by decide), h.tickPair_after 1, h.tickPair_after 2,
    h.dataDriven_after (k := 3) (by decide), h.dataDriven_after (k := 4) (by decide)⟩

/-- A frame begins with the tick tk: nothing of it is cut, and its burst B is still to come. -/
def State.frameOpened (s : State) (tk : BitVec 32) : State :=
  s.modRidge fun r =>
    { r with frame := if r.m.lastTick.isSome then (r.frame + 1) % 65536 else r.frame,
             m := { r.m with lastTick := some tk, frames := r.m.frames + 1, croaked := false, cut := false, sentB := false } }

/-- The frame of the tick tk with its commands (R361 to R364, R372 to R374, R383). -/
def State.frameFilled (s : State) (tk : BitVec 32) : State :=
  ((s.frameOpened tk).dropPolls.queuePoll.admitReady).fillFrame tk

/-- The header and burst A go out with the tick. -/
def State.frameSent (s : State) (tk : BitVec 32) : State :=
  (s.frameFilled tk).modRidge fun r =>
    { r with tx := linkTx (withCrc ((s.frameFilled tk).headerBody tk)) ++ linkTx ((s.frameFilled tk).burstBytes 0x41),
             txAt := (s.frameFilled tk).ticks }

theorem exec_frameTick {tk : BitVec 32} (hlast : s.ridge.m.lastTick = some tk) (hdrives : s.mstDrives = true)
    (hjust : s.just (s.nextTick tk) = true) : exec .frameTick s = .next (s.frameSent (s.nextTick tk)) := by
  have hexec : exec .frameTick s = execFrameTick s := rfl
  rw [hexec]
  unfold execFrameTick
  simp only [hlast]
  exact if_neg (by simp [hdrives, hjust])

/-- A frame keeps the line from its beginning to its header. -/
theorem State.frameSent_keepsLine (s : State) (tk : BitVec 32) : KeepsLine (s.frameOpened tk) (s.frameSent tk) :=
  KeepsLine.refl.dropPolls.queuePoll.admitReady.fillFrame.modRidge

theorem State.frameSent_begun {tk : BitVec 32} (hdrives : s.mstDrives = true) : FrameBegun (s.frameSent tk) := by
  have hkeeps := s.frameSent_keepsLine tk
  have hopened : (s.frameOpened tk).mstDrives = true := hdrives
  exact ⟨hkeeps.mstDrives_eq.trans hopened, hkeeps.sentB, hkeeps.cut, rfl⟩

theorem State.tickPair_of_not_mstDrives (h : s.mstDrives = false) : s.tickPair = none := by
  simp [State.tickPair, h]

theorem State.dataDriven_of_idle (hm : s.mstDrives = false) (hs : s.slaveDrives = false) : s.dataDriven = false := by
  simp [State.dataDriven, hm, hs]

end Sys2Proof.Machine
end

section
/-! SUPPORT. The pins without power and after power-up (spec/02_pins_and_package.md R53, Table 2-10). -/

namespace Sys2Proof.Machine

variable {s : State}

theorem State.enPad_of_pullDown {n : Nat} (h : s.pins.en.getD n .low = .pullDown) : s.enPad n = .pullDown := by
  simp only [State.enPad, h]

theorem State.enPad_of_low {n : Nat} (h : s.pins.en.getD n .low = .low) : s.enPad n = .low := by
  simp only [State.enPad, h]

theorem State.gpioPad_of_off {n : Nat} (h : s.gpioOn = false) : s.gpioPad n = s.inputPad := by
  simp [State.gpioPad, h]

theorem State.powerOff_gpioOn : s.powerOff.gpioOn = false := by
  simp [State.gpioOn, State.powerOff, State.running, State.reset, RoleRec.init]

theorem State.powerOff_pads :
    s.powerOff.rstoutPad = .highZ ∧ s.powerOff.faultPad = .highZ ∧ s.powerOff.pgPad = .highZ ∧ s.powerOff.aonPad = .highZ ∧
      s.powerOff.testPad = .highZ ∧ ∀ n, n < 24 → s.powerOff.enPad n = .pullDown ∧ s.powerOff.gpioPad n = .highZ := by
  refine ⟨rfl, rfl, rfl, rfl, rfl, fun n hn => ⟨?_, ?_⟩⟩
  · exact State.enPad_of_pullDown (List.getD_replicate _ hn)
  · rw [State.gpioPad_of_off State.powerOff_gpioOn]
    rfl

/-- The device after POWER_ON_RESET (R73). -/
def State.poweredUp (s : State) : State := s.powerUp.modSupply fun p => { p with vin := true }

theorem State.poweredUp_gpioOn : s.poweredUp.gpioOn = false := by
  simp [State.gpioOn, State.poweredUp, State.powerUp, State.powerOff, State.running, State.reset, RoleRec.init, State.toStage]

theorem State.poweredUp_pads :
    s.poweredUp.rstoutPad = .low ∧ s.poweredUp.aonPad = .pullUp ∧ s.poweredUp.testPad = .pullDown ∧
      ∀ n, n < 24 → s.poweredUp.enPad n = .low ∧ s.poweredUp.gpioPad n = .pullUp := by
  refine ⟨rfl, rfl, rfl, fun n hn => ⟨?_, ?_⟩⟩
  · exact State.enPad_of_low (List.getD_replicate _ hn)
  · rw [State.gpioPad_of_off State.poweredUp_gpioOn]
    rfl

end Sys2Proof.Machine
end

section
/-! SUPPORT. The first fault of a cascade (spec/17_guarantees_and_worked_designs.md R545) is a least element: the order of R545 is the
lexicographic one of a key, and the fold of `cascadeFirst` is `List.argmin` of that key. -/

namespace Sys2Proof.Machine

/-- Place of a fault in a cascade (R545): time since `SEQ_T0`, then node, then channel. -/
def faultKey (t0 : BitVec 32) (f : NodeFault) : ℕ ×ₗ ℕ ×ₗ ℕ := toLex ((f.t - t0).toNat, toLex (f.node, f.ch))

/-- The faults that take part: not more than 2^31 µs after `SEQ_T0`. -/
def faultsInTime (t0 : BitVec 32) (l : List NodeFault) : List NodeFault := l.filter fun f => decide ((f.t - t0).toNat ≤ 2 ^ 31)

theorem faultBefore_iff {t0 : BitVec 32} {a b : NodeFault} : faultBefore t0 a b = true ↔ faultKey t0 a < faultKey t0 b := by
  simp [faultBefore, faultKey, Prod.Lex.toLex_lt_toLex]

theorem mem_faultsInTime {t0 : BitVec 32} {l : List NodeFault} {f : NodeFault} :
    f ∈ faultsInTime t0 l ↔ f ∈ l ∧ (f.t - t0).toNat ≤ 2 ^ 31 := by
  simp [faultsInTime]

theorem cascadeFirst_eq_argmin (t0 : BitVec 32) (l : List NodeFault) :
    cascadeFirst t0 l = (faultsInTime t0 l).argmin (faultKey t0) := by
  unfold cascadeFirst List.argmin
  congr 1
  funext m f
  cases m with
  | none => rfl
  | some g => simp [List.argAux, faultBefore_iff]

theorem lt_time_of_cascadeFirst_eq_none {t0 : BitVec 32} {l : List NodeFault} (h : cascadeFirst t0 l = none) {f : NodeFault} (hf : f ∈ l) :
    2 ^ 31 < (f.t - t0).toNat := by
  rw [cascadeFirst_eq_argmin, List.argmin_eq_none] at h
  by_contra hle
  exact List.not_mem_nil (h ▸ mem_faultsInTime.mpr ⟨hf, not_lt.mp hle⟩)

theorem cascadeFirst_mem {t0 : BitVec 32} {l : List NodeFault} {f : NodeFault} (h : cascadeFirst t0 l = some f) :
    f ∈ l ∧ (f.t - t0).toNat ≤ 2 ^ 31 :=
  mem_faultsInTime.mp (List.argmin_mem (cascadeFirst_eq_argmin t0 l ▸ h))

theorem faultKey_cascadeFirst_le {t0 : BitVec 32} {l : List NodeFault} {f g : NodeFault} (h : cascadeFirst t0 l = some f)
    (hg : g ∈ l) (htime : (g.t - t0).toNat ≤ 2 ^ 31) : faultKey t0 f ≤ faultKey t0 g :=
  List.le_of_mem_argmin (mem_faultsInTime.mpr ⟨hg, htime⟩) (cascadeFirst_eq_argmin t0 l ▸ h)

theorem faultKey_le_iff {t0 : BitVec 32} {f g : NodeFault} :
    faultKey t0 f ≤ faultKey t0 g ↔ (f.t - t0).toNat < (g.t - t0).toNat ∨
        ((f.t - t0).toNat = (g.t - t0).toNat ∧ (f.node < g.node ∨ (f.node = g.node ∧ f.ch ≤ g.ch))) := by
  simp [faultKey, Prod.Lex.toLex_le_toLex]

end Sys2Proof.Machine
end

section
/-! SUPPORT. Obligations settled: pins, pairs and the first fault. -/

namespace Sys2Proof.Machine

/-- Settles O60: the pads of a state without power and of one just powered; a frame keeps the line that drives it; the cascade first
fault is an `argmin`. -/
theorem pinsPairsAndFirstFault : Obligations.PinsPairsAndFirstFault := by
  refine ⟨⟨fun s haon hbench => ?off, fun s haon => ?up⟩, ⟨fun s tk hlast hdrives hjust => ?tick, fun s hdrives => ?idle⟩,
    fun s hvalid => ?noFirst, fun s hvalid => ?first, fun t0 l hnone f hf => lt_time_of_cascadeFirst_eq_none hnone hf,
    fun t0 l f hfirst => ?least⟩
  case off =>
    have hexec : exec .porRearm s = .next s.powerOff := if_pos (by simp [haon, hbench])
    exact .of_exec hexec rfl State.powerOff_pads
  case up =>
    have hexec : exec .powerOnReset s = .next s.poweredUp := if_neg (by simp [haon])
    exact .of_exec hexec rfl State.poweredUp_pads
  case tick => exact .of_exec (exec_frameTick hlast hdrives hjust) rfl (State.frameSent_begun hdrives).pairs
  case idle => exact ⟨State.tickPair_of_not_mstDrives hdrives, State.dataDriven_of_idle hdrives⟩
  case noFirst => simp [State.firstFault, hvalid]
  case first => simp [State.firstFault, hvalid]
  case least =>
    obtain ⟨hmem, htime⟩ := cascadeFirst_mem hfirst
    exact ⟨hmem, htime, fun g hg hgtime => faultKey_le_iff.mp (faultKey_cascadeFirst_le hfirst hg hgtime)⟩

end Sys2Proof.Machine
end

section
/-! SUPPORT. The state at the reset (spec/03_supplies_clocks_and_start_up.md R73, R96; spec/18_register_map.md R547) and the uptime
with its holding register (spec/03_supplies_clocks_and_start_up.md R92). -/

namespace Sys2Proof.Machine

variable {s : State} {p : Port} {c : RstSource}

/-! ### The state at the reset -/

theorem State.reset_pinsLow {n : Nat} (hn : n < 24) : State.reset.pins.en.getD n .highZ = .low := by
  have hall : ∀ k < 24, State.reset.pins.en.getD k .highZ = .low := by decide
  exact hall n hn

theorem storesWf_reset : StoresWf State.reset := ⟨rfl, rfl⟩

theorem listsWf_reset : ListsWf State.reset := by
  unfold ListsWf
  decide

/-! ### The holding register of the uptime -/

theorem State.deliver_tb (s : State) (p : Port) (w : Word) : (s.deliver p w).tb = s.tb := by
  cases p <;> rfl

theorem State.deliver_seq (s : State) (p : Port) (w : Word) : (s.deliver p w).seq = s.seq := by
  cases p <;> rfl

/-- A read of `TB_UP_LO` that meets the register latches the high half. -/
theorem State.fetch_tbUpLo (h : Readable s p Reg.tbUpLo) :
    s.fetch p Reg.tbUpLo = (s.modTb fun t => { t with upHi := t.up.extractLsb' 32 32 }).deliver p (s.tb.up.setWidth 32) := by
  obtain ⟨hopen, hblk, hreach⟩ := h
  obtain ⟨r, hr⟩ := Option.isSome_iff_exists.mp hreach
  have hlog : Reg.tbUpLo ≠ Reg.logData := by decide
  have hnvm : Reg.tbUpLo ≠ Reg.nvmData := by decide
  simp [State.fetch, State.portRead, State.readEffect, hopen, hblk, hr, hlog, hnvm]

/-- A read of `TB_UP_HI` returns the holding register and clears nothing. -/
theorem State.fetch_tbUpHi (h : Readable s p Reg.tbUpHi) : s.fetch p Reg.tbUpHi = s.deliver p s.tb.upHi := by
  obtain ⟨-, -, hsome⟩ := id h
  obtain ⟨r, hreach⟩ := Option.isSome_iff_exists.mp hsome
  have hr : regRow? Reg.tbUpHi = some r := State.reach_row hreach
  have hacc : r.acc = .ro := by
    have hcode : accOf Reg.tbUpHi = some .ro := by rfl
    simpa [accOf, hr] using hcode
  have hword : ((idxOf Reg.tbUpHi (Reg.resCh 0) 4 24).isSome || (idxOf Reg.tbUpHi (Reg.resSnap 0) 4 24).isSome) = false := by decide
  have hclear : s.readClear r Reg.tbUpHi = s := by
    simp [State.readClear, hacc, Bool.or_eq_false_iff.mp hword]
  have hshown : s.shown p r Reg.tbUpHi = s.tb.upHi := by
    rw [State.shown, hacc]
    rfl
  rw [State.fetch_of_readable h hr (by decide) (by decide) (by decide), hclear, hshown, ite_self]

/-- An L0 reset by one source alone, with no reset in progress: the level acts at once (R127). -/
theorem State.raise1_l0 (h : Settled s) (hl : (s.levelFor (plainReq c)).1 = 0) :
    s.raise1 c =
      (((s.modRst fun r => { r with cause := s.causeOf c }).resetBegun .l0 true).assertLevel .l0).modRst
        fun r => { r with sysArmed := false } := by
  obtain ⟨haon, hrun, hretry, -⟩ := h
  have hlevel : s.levelAlone c = .l0 := levelOf_eq_l0.mpr hl
  rw [State.raise1_of_idle haon hrun hretry, hlevel, State.startReset_l0]

end Sys2Proof.Machine
end

section
/-! SUPPORT. Obligations settled: the state at the reset; the uptime's holding register. -/

namespace Sys2Proof.Machine

/-- Settles O6: every block of `State.reset` is written out, so its parts compute; an empty register file reads the field table. -/
theorem resetState : Obligations.ResetState :=
  ⟨⟨fun _ => rfl, rfl, rfl, rfl, rfl, rfl, rfl, rfl, rfl, rfl, rfl, rfl, rfl, fun _ => State.reset_pinsLow, rfl⟩,
    storesWf_reset, listsWf_reset⟩

/-- Settles O37: a read of the low half is the one read that writes the holding register; an L0 reset and power-up both put the
timebase back to its reset value (R92). -/
theorem uptimeReadLatchesHigh : Obligations.UptimeReadLatchesHigh := by
  refine ⟨fun s p h => ?low, fun s p h => ?high, fun s h hl => ?pin, fun s hoff => ?power, rfl⟩
  case low =>
    exact .of_exec rfl (State.fetch_tbUpLo h)
      ⟨State.delivered_deliver _ p _, State.deliver_tb _ p _, State.deliver_regs _ p _, State.deliver_seq _ p _⟩
  case high =>
    exact .of_exec rfl (State.fetch_tbUpHi h)
      ⟨State.delivered_deliver _ p _, State.deliver_tb _ p _, State.deliver_regs _ p _, State.deliver_seq _ p _⟩
  case pin => exact .of_exec rfl (State.raise1_l0 (s := s.modPins fun p => { p with resetN := false }) h hl) rfl
  case power => exact .of_exec (if_neg (by simp [hoff])) rfl rfl

end Sys2Proof.Machine
end

section
/-! SUPPORT. Obligations settled: the queue and the model's time. -/

namespace Sys2Proof.Machine

/-- A running device with a running timebase and watchdog, on whose host queue a kick waits that spells no key. Its fuse shadow is not
valid, so every reset is of level L0 (R122). The other blocks are those of the reset state. -/
def wrongKickQueued : State :=
  { State.reset with
      role := { RoleRec.init with role := .sgl, state := .running }, boot := { Boot.init with stage := 7 },
      tb := { Tb.init with running := true }, rst := { RstRec.init with run := none, domains := 6, hifUp := true },
      wdt := { Wdt.init with run := true }, hif := { Hif.init with queue := [{ addr := Reg.sysWdtKick, val := 0xFFFF#32, txn := 0 }] } }

/-- The kick raises the WDT source (R498), and its L0 reset puts the timebase back. -/
theorem tick_wrongKickQueued : wrongKickQueued.tick.rst.run.map (·.level) = some .l0 ∧ wrongKickQueued.tick.tb.up = 0 := by
  decide +kernel

/-- Refutes O2: the microsecond of an empty command queue applies the words of the host's write queue (R484), a kick of the watchdog
among them. A wrong kick raises a reset, and where no valid fuse shadow gives another level that is an L0 reset (R122, R498), so
`TB_UP` does not advance by one: it is 0 again. -/
theorem not_queueAndTimeMoveInStep : ¬ Obligations.QueueAndTimeMoveInStep := by
  rintro ⟨-, htick⟩
  obtain ⟨t, hstep, -, -, -, hruns, -⟩ := htick wrongKickQueued rfl
  obtain rfl : wrongKickQueued.tick = t := Host.Outcome.next.inj hstep
  obtain ⟨hup, -⟩ := hruns rfl rfl
  obtain ⟨-, hzero⟩ := tick_wrongKickQueued
  have hone : wrongKickQueued.tb.up + 1 = 1 := rfl
  rw [hzero, hone] at hup
  exact absurd hup (by decide)

end Sys2Proof.Machine
end

section
/-! SUPPORT. The stages of the start, their retries and the `EPOCH` update (spec/03_supplies_clocks_and_start_up.md R83, R93 to R102;
spec/04_reset_controller.md R136, R149). -/

-- A lemma's default argument is ready only once its proof is: taken up all at once, the lemmas below would wait in a thread each.
set_option Elab.async false

namespace Sys2Proof.Machine

variable {bs : List Block} {s₀ s t : State} {n : Nat}

/-! ### What the clearing of L0 leaves -/

/-- What everything that clears as L0 does leaves alone: the model's time, the start-up's record but for the listening window, MRAM,
the fuse array, VIN and the level of TEST. -/
structure KeptAtL0 (s t : State) : Prop where
  ticks : t.ticks = s.ticks
  boot : { t.boot with listenEnd := none } = { s.boot with listenEnd := none }
  mram : t.nvm.mram = s.nvm.mram
  fuses : t.svc.fuses = s.svc.fuses
  vin : t.supply.vin = s.supply.vin
  test : t.pins.test = s.pins.test

namespace KeptAtL0

theorem refl : KeptAtL0 s s := ⟨rfl, rfl, rfl, rfl, rfl, rfl⟩

/-- A change of other blocks. -/
theorem also (h : KeptAtL0 s₀ s) (hw : Within bs s t)
    (hb : ∀ b ∈ [Block.ticks, .boot, .nvm, .svc, .supply, .pins], b ∉ bs := by decide) : KeptAtL0 s₀ t where
  ticks := Eq.trans (hw .ticks (hb _ (by simp))) h.ticks
  boot := by
    have hsame : t.boot = s.boot := hw .boot (hb _ (by simp))
    rw [hsame, h.boot]
  mram := (congrArg Nvm.mram (hw .nvm (hb _ (by simp)))).trans h.mram
  fuses := (congrArg Svc.fuses (hw .svc (hb _ (by simp)))).trans h.fuses
  vin := (congrArg Supply.vin (hw .supply (hb _ (by simp)))).trans h.vin
  test := (congrArg Pins.test (hw .pins (hb _ (by simp)))).trans h.test

theorem modSupply {f} (h : KeptAtL0 s₀ s) (hf : ∀ p, (f p).vin = p.vin := by exact fun _ => rfl) : KeptAtL0 s₀ (s.modSupply f) :=
  { h with vin := (hf _).trans h.vin }

theorem modPins {f} (h : KeptAtL0 s₀ s) (hf : ∀ p, (f p).test = p.test := by exact fun _ => rfl) : KeptAtL0 s₀ (s.modPins f) :=
  { h with test := (hf _).trans h.test }

theorem modBoot {f} (h : KeptAtL0 s₀ s)
    (hf : ∀ b, { f b with listenEnd := none } = { b with listenEnd := none } := by exact fun _ => rfl) : KeptAtL0 s₀ (s.modBoot f) :=
  { h with boot := (hf s.boot).trans h.boot }

theorem balPins (h : KeptAtL0 s₀ s) : KeptAtL0 s₀ s.balPins := by
  unfold State.balPins
  split
  · exact h.modPins
  · exact h

theorem resetSvc (h : KeptAtL0 s₀ s) : KeptAtL0 s₀ (s.resetSvc .l0) := { h with fuses := h.fuses }

theorem resetLog (h : KeptAtL0 s₀ s) : KeptAtL0 s₀ (s.resetLog .l0) := { h with mram := h.mram }

theorem resetSeq (h : KeptAtL0 s₀ s) : KeptAtL0 s₀ s.resetSeq :=
  (h.also (bs := [.seq, .react, .mrg]) Within.refl.modSeq.modReact.modMrg).modSupply

/-- The access paths, the ports and the links close (Table 4-6). -/
theorem resetPaths (h : KeptAtL0 s₀ s) : KeptAtL0 s₀ (s.resetPaths .l0) :=
  (((h.also (bs := [.rst, .hif, .wdt, .regs, .seq, .ridge, .sched, .chain]) Within.refl.resetHif.resetRidge.resetChain).resetSvc.also
    (bs := [.rst]) Within.refl.resetGen).resetLog.also (bs := [.unit]) Within.refl.modUnit).balPins.also (bs := [.role, .pwr, .img, .rst])
    Within.refl.modRole.modPwr.modImg.modRst

/-- The engines, the registers and the image clear. -/
theorem resetCore (h : KeptAtL0 s₀ s) : KeptAtL0 s₀ (s.resetCore .l0) := by
  have hengines : KeptAtL0 s₀ ((((s.resetCmp .l0).resetMeas.resetSeq.fabReset).resetRegs .l0).resetImg .l0) :=
    (h.also (bs := [.regs, .meas, .cmp]) Within.refl.resetCmp.resetMeas).resetSeq.also (bs := [.regs, .live, .liveImg, .fab, .img])
      Within.refl.modFab.resetRegs.resetImg
  simp only [State.resetCore, reduceCtorEq, if_false]
  exact (((hengines.also (bs := [.sched, .pair]) Within.refl.modSched.modPair).modSupply.also (bs := [.pwr, .rst])
    Within.refl.modPwr.modRst).modPins.modBoot).modPins

end KeptAtL0

/-- Everything that L0 clears is cleared, by a reset, a retry or stack sleep. -/
theorem State.cleared_kept (s : State) : KeptAtL0 s ((s.resetPaths .l0).resetCore .l0) := KeptAtL0.refl.resetPaths.resetCore

/-- The clearing holds every domain. -/
theorem State.cleared_domains (s : State) : ((s.resetPaths .l0).resetCore .l0).rst.domains = 0 := by
  have hengines : (((((s.resetPaths .l0).resetCmp .l0).resetMeas.resetSeq.fabReset).resetRegs .l0).resetImg .l0).rst = (s.resetPaths .l0).rst :=
    (Within.refl (bs := [.supply, .regs, .live, .liveImg, .img, .fab, .meas, .cmp, .seq, .react, .mrg])).resetCmp.resetMeas.resetSeq.modFab
      |>.resetRegs.resetImg.same .rst
  simp only [State.resetCore, reduceCtorEq, if_false]
  exact congrArg RstRec.domains hengines

/-! ### Stages 1 to 3 -/

/-- Without a valid shadow every EN pin takes the hardwired LOW (R54). -/
theorem State.dropShadow_en (s : State) : s.dropShadow.pins.en = s.pins.en.map fun _ => EnDrive.low := by
  simp [State.dropShadow, State.mapPins, State.enHolds, State.mapDrive]

theorem State.exec_regulatorsReady_wake (hstage : s.inStage 2 = true) (hwake : s.boot.wakeRun = true) (hok : s.boot.shadowOk = true) :
    exec .regulatorsReady s = .next (if s.unit.toneDue then
      (s.toStage 4).modUnit fun u => { u with toneU := true, txU := [], toneDue := false } else s.toStage 4) :=
  (if_neg (by simp [hstage])).trans (if_pos ⟨hwake, hok⟩)

theorem State.exec_regulatorsReady_start (hstage : s.inStage 2 = true) (hnew : ¬(s.boot.wakeRun = true ∧ s.boot.shadowOk = true)) :
    exec .regulatorsReady s = .next ((s.toStage 3).modBoot fun b => { b with fuseTry := 1 }).dropShadow :=
  (if_neg (by simp [hstage])).trans (if_neg hnew)

/-- The shadow takes the array, and the pins their fuse states (R54, R136). -/
def State.fusesLoaded (s : State) : State :=
  let t := s.shadowLoaded.modBoot fun b => { b with stk := b.stk || (s.shadowLoaded.fuseBit 1 4 && !s.shadowLoaded.fuseBit 1 3) }
  (t.mapPins .l0).toStage 4

/-- The load sets the shadow and its stage, and no register, role or log. -/
theorem State.fusesLoaded_spec (s : State) :
    s.fusesLoaded.boot.stage = 4 ∧ s.fusesLoaded.boot.stageAt = s.ticks ∧ s.fusesLoaded.boot.shadowOk = true ∧
      s.fusesLoaded.svc = { s.svc with shadow := s.svc.fuses } ∧ s.fusesLoaded.role = s.role ∧ s.fusesLoaded.rst = s.rst ∧
      s.fusesLoaded.regs = s.regs ∧ s.fusesLoaded.nvm = s.nvm :=
  ⟨rfl, rfl, rfl, rfl, rfl, rfl, rfl, rfl⟩

theorem State.exec_fuseLoadDone_true (hstage : s.inStage 3 = true) (htest : s.pins.strapTest = false) :
    exec (.fuseLoadDone true) s =
      .next (if s.boot.bench then s.fusesLoaded.modClk fun c => { c with pllFromRc := true } else s.fusesLoaded) :=
  (if_neg (by simp [hstage])).trans <| (if_neg (by simp)).trans (if_neg fun h => by simp [htest] at h)

theorem State.exec_fuseLoadDone_false (hstage : s.inStage 3 = true) : exec (.fuseLoadDone false) s = .next s.fuseFail :=
  (if_neg (by simp [hstage])).trans (if_pos rfl)

theorem State.fuseFail_again (h : s.boot.fuseTry < 3) :
    s.fuseFail = (s.modBoot fun b => { b with fuseTry := b.fuseTry + 1, stageAt := s.ticks }).dropShadow := if_neg (by omega)

theorem State.fuseFail_third (h : 3 ≤ s.boot.fuseTry) : s.fuseFail = s.safeIdle := if_pos h

theorem Within.svcAttach (h : Within bs s₀ s) (hl : [.regs, .svc] ⊆ bs := by decide) : Within bs s₀ s.svcAttach :=
  h.also hl (either refl.modSvc.raise refl)

/-- SAFE_IDLE but for the service port, which attaches (R102). -/
def State.idled (s : State) : State :=
  (((s.modRole fun _ => { RoleRec.init with state := .safeIdle }).modBoot fun b => { b with faultN := true }).dropShadow).modRst fun r =>
    { r with run := none, domains := 6 }

theorem State.safeIdle_within (s : State) : Within [.regs, .svc] s.idled s.safeIdle := Within.refl.svcAttach

/-- What SAFE_IDLE shows. -/
theorem State.safeIdle_spec (s : State) :
    s.safeIdle.role.state = .safeIdle ∧ s.safeIdle.boot.faultN = true ∧ s.safeIdle.boot.shadowOk = false ∧ s.safeIdle.rst.run = none ∧
      s.safeIdle.pins.en = s.pins.en.map fun _ => EnDrive.low := by
  have hrole : s.safeIdle.role = s.idled.role := s.safeIdle_within.same .role
  have hboot : s.safeIdle.boot = s.idled.boot := s.safeIdle_within.same .boot
  have hrst : s.safeIdle.rst = s.idled.rst := s.safeIdle_within.same .rst
  have hpins : s.safeIdle.pins = s.idled.pins := s.safeIdle_within.same .pins
  rw [hrole, hboot, hrst, hpins]
  exact ⟨rfl, rfl, rfl, rfl, State.dropShadow_en _⟩

/-! ### Stages 4 and 5 -/

theorem State.exec_pllLock_stage4 (hstage : s.inStage 4 = true) (hgated : s.clk.gated = false) (hwaking : s.pwr.waking = false) :
    exec .pllLock s = .next ((s.locked.epochUpdate.toStage 5).modRst fun x => { x with sramOk := false }) :=
  (if_neg (by simp [hwaking])).trans <| (if_neg (by simp [hstage])).trans (if_neg (by simp [hgated]))

theorem Within.epochUpdate (h : Within bs s₀ s) (hl : [.tb, .nvm, .boot] ⊆ bs := by decide) : Within bs s₀ s.epochUpdate :=
  h.also hl <| by
  unfold State.epochUpdate
  exact either refl (either (refl.withTb) (refl.withTb).mwrite.mwrite).modBoot

/-- The epoch register with the word of this start (R93, R94). -/
def State.epochCounted (s : State) : State :=
  s.modTb fun t =>
    { t with epoch := s.epochNext, epochLost := t.epochLost || s.mbad epochAddr, epochSat := decide (s.epochNext = 0xFFFFFFFF#32) }

theorem State.epochUpdate_of_done (h : s.boot.wakeRun = true ∨ s.boot.epochDone = true) : s.epochUpdate = s := if_pos h

theorem State.epochUpdate_bench (hwake : s.boot.wakeRun = false) (hdone : s.boot.epochDone = false) (hbench : s.boot.bench = true) :
    s.epochUpdate = s.epochCounted.modBoot fun b => { b with epochDone := true } :=
  (if_neg (by simp [hwake, hdone])).trans (congrArg (fun t : State => t.modBoot fun b => { b with epochDone := true }) (if_pos hbench))

theorem State.epochUpdate_write (hwake : s.boot.wakeRun = false) (hdone : s.boot.epochDone = false) (hbench : s.boot.bench = false) :
    s.epochUpdate =
      ((s.epochCounted.mwrite epochAddr s.epochNext).mwrite (markAddr s.epochNext) 0).modBoot fun b => { b with epochDone := true } :=
  (if_neg (by simp [hwake, hdone])).trans <|
    congrArg (fun t : State => t.modBoot fun b => { b with epochDone := true }) (if_neg (by simp [hbench]))

/-- The epoch is done after the update; a wake keeps what it finds (R93). -/
theorem State.epochUpdate_epochDone (s : State) : s.epochUpdate.boot.epochDone = (s.boot.epochDone || !s.boot.wakeRun) := by
  cases hwake : s.boot.wakeRun with
  | true => simp [State.epochUpdate_of_done (.inl hwake)]
  | false =>
    cases hdone : s.boot.epochDone with
    | true => simp [State.epochUpdate_of_done (.inr hdone), hdone]
    | false =>
      cases hbench : s.boot.bench with
      | true => rw [State.epochUpdate_bench hwake hdone hbench]; rfl
      | false => rw [State.epochUpdate_write hwake hdone hbench]; rfl

/-- The first candidate that holds, or the other slot. -/
theorem State.selectImage_within (s : State) : Within [.img] s s.selectImage.1 := by
  unfold State.selectImage
  dsimp only
  split
  · exact Within.refl.modImg.modImg.modImg
  · split
    · exact Within.refl.modImg.modImg.modImg.modImg
    · exact Within.refl.modImg.modImg.modImg

theorem State.pumpStart_cpRun (h : s.pumpStart.usesGate = true) : s.pumpStart.supply.cpRun = true := by
  unfold State.pumpStart at h ⊢
  split
  · rfl
  next hgate => rw [if_neg hgate] at h; exact absurd h hgate

theorem State.enterStage6_boot (s : State) : s.enterStage6.boot = { s.boot with stage := 6, stageAt := s.ticks } :=
  (Within.refl (bs := [.supply])).pumpStart.same .boot

theorem State.exec_imageSelectDone_bench (hstage : s.inStage 5 = true) (hbench : s.boot.bench = true) :
    exec .imageSelectDone s = .next ((s.modRst fun r => { r with sramOk := true }).toStage 6) :=
  (if_neg (by simp [hstage])).trans (if_pos hbench)

/-- Outside bench mode the image chosen decides the role's record, and the registers load from it. -/
theorem State.exec_imageSelectDone_load (hstage : s.inStage 5 = true) (hbench : s.boot.bench = false) :
    ∃ u, Within [.role, .boot, .img] (s.modRst fun r => { r with sramOk := true }) u ∧
      exec .imageSelectDone s = .next u.loadConfig.loadIrq.enterStage6 := by
  refine ⟨_, ?_, (if_neg (by simp [hstage])).trans (if_neg (by simp [hbench]))⟩
  exact (Within.also .refl (by decide) (State.selectImage_within _)).modImg.modImg.modRole.modBoot

/-! ### Retries -/

theorem State.exec_stageTimeout (h : s.boot.stage ≠ 3) (hlow : 1 ≤ s.boot.stage) (hhigh : s.boot.stage < 7)
    (hstage : s.inStage s.boot.stage = true)
    (htime : s.stageStart + stageLimit s.boot.stage ≤ s.ticks) (hreset : s.resetHigh = true) :
    exec .stageTimeout s = .next s.retryBegin :=
  (if_neg (by simp [State.passed, *]; omega)).trans (if_neg h)

theorem State.exec_stageTimeout_fuses (h : s.boot.stage = 3) (hstage : s.inStage 3 = true) (htime : s.boot.stageAt + 1000 ≤ s.ticks) :
    exec .stageTimeout s = .next s.fuseFail := by
  have hstart : s.stageStart = s.boot.stageAt := by
    unfold State.stageStart
    split <;> simp [h]
  exact (if_neg (by simp [State.passed, stageLimit, *])).trans (if_pos h)

/-- The retry that follows `old`, in the state cleared for it (R99, R100). -/
def State.retryFrom (old s : State) : State :=
  let s := s.modSvc fun v => { v with authFail := old.svc.authFail, lockEnd := old.svc.lockEnd, fusePend := old.svc.fusePend }
  let s := ((s.modRole fun _ => RoleRec.init).modImg Img.toReset).modClk fun c =>
    { Clk.init with monEvt := c.monEvt, aonRcOk := c.aonRcOk, fallback := c.fallback, pllFromRc := c.fallback }
  let s := s.modTb fun t => { Tb.init with epoch := t.epoch, epochLost := t.epochLost, epochSat := t.epochSat }
  let s := s.modSupply fun p => { p with cpRun := false, cpOk := false }
  let s := s.modRst fun r => { r with run := none, sramOk := false, sysArmed := old.rst.sysArmed }
  s.modBoot fun b =>
    { b with stage := 0, wakeStart := false, wakeRun := false, retryCnt := min 0xFF (b.retryCnt + 1), failStage := old.boot.stage, faultN := !b.stk,
             retryEnd := some (s.ticks + old.retryWait), backoffK := if b.stk then b.backoffK + 1 else b.backoffK }

theorem State.retryBegin_eq (s : State) : s.retryBegin = s.retryFrom ((s.resetPaths .l0).resetCore .l0) := rfl

/-- The retry's own record says which stage failed and when the next attempt begins; FAULT_N says so but on a stack unit (R99, R100). -/
theorem State.retryFrom_boot (old s : State) :
    (old.retryFrom s).boot = { s.boot with
      stage := 0, wakeStart := false, wakeRun := false, retryCnt := min 0xFF (s.boot.retryCnt + 1), failStage := old.boot.stage,
      faultN := !s.boot.stk, retryEnd := some (s.ticks + old.retryWait),
      backoffK := if s.boot.stk then s.boot.backoffK + 1 else s.boot.backoffK } := rfl

/-- A retry begins: the failed stage and the advanced count stay, everything else of L0 is cleared (R99, R100). -/
theorem State.retryBegin_spec (s : State) :
    (s.retryBegin.boot.stage = 0 ∧ s.retryBegin.boot.failStage = s.boot.stage ∧ s.retryBegin.boot.retryCnt = min 0xFF (s.boot.retryCnt + 1) ∧
      s.retryBegin.boot.retryEnd = some (s.ticks + s.retryWait) ∧ s.retryBegin.boot.faultN = !s.boot.stk) ∧
    s.retryBegin.rst.run = none ∧ s.retryBegin.rst.domains = 0 ∧ s.retryBegin.role = RoleRec.init ∧ s.retryBegin.svc.fuses = s.svc.fuses ∧
      s.retryBegin.nvm.mram = s.nvm.mram ∧ s.retryBegin.tb.running = false := by
  have hdom := s.cleared_domains
  have hcnt := congrArg Boot.retryCnt s.cleared_kept.boot
  have hstk := congrArg Boot.stk s.cleared_kept.boot
  have hticks := s.cleared_kept.ticks
  have hfuses := s.cleared_kept.fuses
  have hmram := s.cleared_kept.mram
  rw [State.retryBegin_eq, State.retryFrom_boot]
  generalize (s.resetPaths .l0).resetCore .l0 = u at hdom hcnt hstk hticks hfuses hmram ⊢
  dsimp only at hcnt hstk
  rw [hcnt, hstk, hticks]
  exact ⟨⟨rfl, rfl, rfl, rfl, rfl⟩, rfl, hdom, rfl, hfuses, hmram, rfl⟩

end Sys2Proof.Machine
end

section
/-! SUPPORT. Obligation settled: the stages of the start end as their events come, or in a retry. -/

namespace Sys2Proof.Machine

variable {s : State}

/-! ### Each stage ends as its event comes -/

/-- The shadow kept over stack sleep lets a wake pass stage 3, and a tone that is due goes out upwards (R111). -/
theorem regulatorsReady_wake_answers (hstage : s.inStage 2 = true) (hwake : s.boot.wakeRun = true) (hok : s.boot.shadowOk = true) :
    Answers .regulatorsReady s fun t =>
      t = { s with boot := { s.boot with stage := 4, stageAt := s.ticks }, unit := t.unit } ∧
      (s.unit.toneDue = false → t.unit = s.unit) ∧
      (s.unit.toneDue = true → t.unit = { s.unit with toneU := true, txU := [], toneDue := false }) := by
  refine Answers.of_exec (State.exec_regulatorsReady_wake hstage hwake hok) rfl ?_
  cases htone : s.unit.toneDue with
  | true => exact ⟨rfl, fun h => absurd h (by simp), fun _ => rfl⟩
  | false => exact ⟨rfl, fun _ => rfl, fun h => absurd h (by simp)⟩

theorem fuseLoadDone_true_answers (hstage : s.inStage 3 = true) (htest : s.pins.strapTest = false) :
    Answers (.fuseLoadDone true) s fun t =>
      t.boot.stage = 4 ∧ t.boot.stageAt = s.ticks ∧ t.boot.shadowOk = true ∧ t.svc = { s.svc with shadow := s.svc.fuses } ∧
      t.role = s.role ∧ t.rst = s.rst ∧ t.regs = s.regs ∧ t.nvm = s.nvm := by
  refine Answers.of_exec (State.exec_fuseLoadDone_true hstage htest) rfl ?_
  have hloaded := s.fusesLoaded_spec
  split
  · exact hloaded
  · exact hloaded

/-- A load with an error is tried again, at most three times; the pins rest LOW meanwhile (R102, R54). -/
theorem fuseLoadDone_again_answers (hstage : s.inStage 3 = true) (htry : s.boot.fuseTry < 3) :
    Answers (.fuseLoadDone false) s fun t =>
      t.boot = { s.boot with fuseTry := s.boot.fuseTry + 1, stageAt := s.ticks, shadowOk := false } ∧ t.role = s.role ∧ t.svc = s.svc ∧
      t.pins.en = s.pins.en.map fun _ => EnDrive.low :=
  Answers.of_exec (State.exec_fuseLoadDone_false hstage) (State.fuseFail_again htry) ⟨rfl, rfl, rfl, State.dropShadow_en _⟩

theorem fuseLoadDone_third_answers (hstage : s.inStage 3 = true) (htry : 3 ≤ s.boot.fuseTry) :
    Answers (.fuseLoadDone false) s fun t =>
      t.role.state = .safeIdle ∧ t.boot.faultN = true ∧ t.boot.shadowOk = false ∧ t.rst.run = none ∧
      t.pins.en = s.pins.en.map fun _ => EnDrive.low :=
  Answers.of_exec (State.exec_fuseLoadDone_false hstage) (State.fuseFail_third htry) s.safeIdle_spec

theorem pllLock_answers (hstage : s.inStage 4 = true) (hgated : s.clk.gated = false) (hwaking : s.pwr.waking = false) :
    Answers .pllLock s fun t =>
      t.boot.stage = 5 ∧ t.boot.stageAt = s.ticks ∧ t.boot.epochDone = (s.boot.epochDone || !s.boot.wakeRun) ∧
      t.clk.pllLock = true ∧ t.clk.armed = true ∧ t.clk.xtalOk = !s.clk.pllFromRc ∧ t.rst = { s.rst with sramOk := false } ∧
      t.regs = s.regs ∧ t.pins = s.pins := by
  have hw : Within [.tb, .nvm, .boot] s.locked s.locked.epochUpdate := Within.refl.epochUpdate
  have hclk : s.locked.epochUpdate.clk = s.locked.clk := hw.same .clk
  have hrst : s.locked.epochUpdate.rst = s.rst := hw.same .rst
  refine Answers.of_exec (State.exec_pllLock_stage4 hstage hgated hwaking) rfl
    ⟨rfl, hw.same .ticks, s.locked.epochUpdate_epochDone, congrArg Clk.pllLock hclk, congrArg Clk.armed hclk, congrArg Clk.xtalOk hclk, ?_,
      hw.same .regs, hw.same .pins⟩
  exact congrArg (fun r => { r with sramOk := false }) hrst

theorem imageSelectDone_answers (hstage : s.inStage 5 = true) :
    Answers .imageSelectDone s fun t =>
      t.boot.stage = 6 ∧ t.boot.stageAt = s.ticks ∧ t.rst = { s.rst with sramOk := true } ∧ t.nvm = s.nvm ∧ t.pins = s.pins ∧
      (s.boot.bench = true → t.img = s.img ∧ t.regs = s.regs) ∧
      (s.boot.bench = false → t.live = [] ∧ (t.usesGate = true → t.supply.cpRun = true)) := by
  cases hbench : s.boot.bench with
  | true =>
    exact Answers.of_exec (State.exec_imageSelectDone_bench hstage hbench) rfl
      ⟨rfl, rfl, rfl, rfl, rfl, fun _ => ⟨rfl, rfl⟩, fun h => absurd h (by simp)⟩
  | false =>
    obtain ⟨u, hu, hexec⟩ := State.exec_imageSelectDone_load hstage hbench
    have hw : Within [.supply, .boot] u.loadConfig.loadIrq u.loadConfig.loadIrq.enterStage6 := Within.refl.enterStage6
    have hboot := u.loadConfig.loadIrq.enterStage6_boot
    have hticks : u.loadConfig.loadIrq.ticks = s.ticks := hu.same .ticks
    refine Answers.of_exec hexec rfl ⟨congrArg Boot.stage hboot, (congrArg Boot.stageAt hboot).trans hticks, ?_, ?_, ?_,
      fun h => absurd h (by simp), fun _ => ⟨hw.same .live, State.pumpStart_cpRun⟩⟩
    · exact Eq.trans (hw.same .rst) (hu.same .rst)
    · exact Eq.trans (hw.same .nvm) (hu.same .nvm)
    · exact Eq.trans (hw.same .pins) (hu.same .pins)

/-! ### A stage that does not end in its time -/

theorem stageTimeout_answers (h3 : s.boot.stage ≠ 3) (hlow : 1 ≤ s.boot.stage) (hhigh : s.boot.stage < 7)
    (hstage : s.inStage s.boot.stage = true) (htime : s.stageStart + stageLimit s.boot.stage ≤ s.ticks) (hreset : s.resetHigh = true) :
    Answers .stageTimeout s fun t =>
      t.boot.stage = 0 ∧ t.boot.failStage = s.boot.stage ∧ t.boot.retryCnt = min 0xFF (s.boot.retryCnt + 1) ∧
      t.boot.retryEnd = some (s.ticks + s.retryWait) ∧ t.boot.faultN = !s.boot.stk ∧ t.rst.run = none ∧ t.rst.domains = 0 ∧
      t.role = RoleRec.init ∧ t.svc.fuses = s.svc.fuses ∧ t.nvm.mram = s.nvm.mram ∧ t.tb.running = false := by
  obtain ⟨⟨hzero, hfail, hcnt, hend, hfault⟩, hcleared⟩ := s.retryBegin_spec
  exact Answers.of_exec (State.exec_stageTimeout h3 hlow hhigh hstage htime hreset) rfl ⟨hzero, hfail, hcnt, hend, hfault, hcleared⟩

theorem stageTimeout_fuses_again_answers (h3 : s.boot.stage = 3) (hstage : s.inStage 3 = true) (htime : s.boot.stageAt + 1000 ≤ s.ticks)
    (htry : s.boot.fuseTry < 3) :
    Answers .stageTimeout s fun t => t.boot.stage = 3 ∧ t.boot.fuseTry = s.boot.fuseTry + 1 ∧ t.boot.stageAt = s.ticks :=
  Answers.of_exec (State.exec_stageTimeout_fuses h3 hstage htime) (State.fuseFail_again htry) ⟨h3, rfl, rfl⟩

theorem stageTimeout_fuses_third_answers (h3 : s.boot.stage = 3) (hstage : s.inStage 3 = true) (htime : s.boot.stageAt + 1000 ≤ s.ticks)
    (htry : 3 ≤ s.boot.fuseTry) : Answers .stageTimeout s fun t => t.role.state = .safeIdle ∧ t.boot.faultN = true :=
  have ⟨hidle, hfault, _⟩ := s.safeIdle_spec
  Answers.of_exec (State.exec_stageTimeout_fuses h3 hstage htime) (State.fuseFail_third htry) ⟨hidle, hfault⟩

/-- The wait over, stage 1 begins again with L0 asserted (R99, R100). -/
theorem retryWaitExpiry_answers {k : Nat} (hwait : s.boot.retryEnd = some k) (hover : k ≤ s.ticks) :
    Answers .retryWaitExpiry s fun t =>
      t = { s with boot := { s.boot with stage := 1, stageAt := s.ticks, retryEnd := none, fuseTry := 0 },
                   rst := { s.rst with run := some { level := .l0, asserted := true, since := s.ticks } } } := by
  have hexec : exec .retryWaitExpiry s = .next (((s.modBoot fun b => { b with retryEnd := none, fuseTry := 0 }).toStage 1).modRst fun r =>
      { r with run := some { level := .l0, asserted := true, since := s.ticks } }) := by
    have hnot : ¬s.ticks < k := by omega
    simp only [exec, execRetryWaitExpiry, hwait, if_neg hnot]
    rfl
  exact Answers.of_exec hexec rfl rfl

/-- Settles O8. That the RC shows good from the start of stage 2, and that a retry begins at the end of its wait, which R100 leaves open, are
the model's reading (log entry 8). -/
theorem startStagesComplete : Obligations.StartStagesComplete := by
  unfold Obligations.StartStagesComplete
  refine ⟨⟨fun s hstage hreset => ?rc, fun s hstage hnew => ?regulators, fun s => regulatorsReady_wake_answers,
    fun s => fuseLoadDone_true_answers, fun s => fuseLoadDone_again_answers, fun s => fuseLoadDone_third_answers,
    fun s hstage hrc htime => ?xtal, fun s => pllLock_answers, fun s => imageSelectDone_answers⟩,
    fun s => stageTimeout_answers, fun s => stageTimeout_fuses_again_answers, fun s => stageTimeout_fuses_third_answers,
    fun s k => retryWaitExpiry_answers⟩
  case rc => exact Answers.of_exec (if_pos (by simp [hstage, hreset])) rfl rfl
  case regulators =>
    exact Answers.of_exec (State.exec_regulatorsReady_start hstage hnew) rfl ⟨State.dropShadow_en _, rfl⟩
  case xtal => exact Answers.of_exec (if_pos (by simp [hstage, hrc, State.passed, htime])) rfl rfl

end Sys2Proof.Machine
end

section
/-! SUPPORT. Obligation settled: the `EPOCH` update of a start. -/

namespace Sys2Proof.Machine

variable {s : State}

theorem markAddr_ne_epochAddr (e : Word) : markAddr e ≠ epochAddr := by
  unfold markAddr epochAddr
  omega

/-! ### The word of the new epoch (R93) -/

theorem State.epochNext_of_bad (h : s.mbad epochAddr = true) : s.epochNext = 1 := if_pos h

theorem State.epochNext_succ (hgood : s.mbad epochAddr = false) (hbench : s.boot.bench = false) (hmax : s.mread epochAddr ≠ 0xFFFFFFFF#32) :
    s.epochNext = s.mread epochAddr + 1 :=
  (if_neg (by simp [hgood])).trans (if_neg (by simp [hbench, hmax]))

theorem State.epochNext_keep (hgood : s.mbad epochAddr = false) (hkeep : s.boot.bench = true ∨ s.mread epochAddr = 0xFFFFFFFF#32) :
    s.epochNext = s.mread epochAddr :=
  (if_neg (by simp [hgood])).trans (if_pos hkeep)

/-- The state of a start that ends stage 4 outside bench mode, with the epoch in its word and no marker on it (R93, R94, R342). -/
def State.epochWritten (s : State) : State :=
  ((((s.locked.epochCounted.mwrite epochAddr s.epochNext).mwrite (markAddr s.epochNext) 0).modBoot fun b =>
    { b with epochDone := true }).toStage 5).modRst fun x => { x with sramOk := false }

theorem State.exec_pllLock_epochWritten (hstage : s.inStage 4 = true) (hgated : s.clk.gated = false) (hwaking : s.pwr.waking = false)
    (hbench : s.boot.bench = false) (hwake : s.boot.wakeRun = false) (hdone : s.boot.epochDone = false) :
    exec .pllLock s = .next s.epochWritten :=
  (State.exec_pllLock_stage4 hstage hgated hwaking).trans <|
    congrArg (fun t : State => ok ((t.toStage 5).modRst fun x => { x with sramOk := false }))
      (State.epochUpdate_write (s := s.locked) hwake hdone hbench)

theorem State.epochWritten_epochLost (s : State) : s.epochWritten.tb.epochLost = (s.tb.epochLost || s.mbad epochAddr) := rfl

theorem State.epochWritten_epochSat (s : State) : s.epochWritten.tb.epochSat = decide (s.epochNext = 0xFFFFFFFF#32) := rfl

theorem State.epochWritten_mread (s : State) (a : Nat) :
    s.epochWritten.mread a = ((s.mwrite epochAddr s.epochNext).mwrite (markAddr s.epochNext) 0).mread a := rfl

theorem State.epochWritten_mread_epochAddr (h : Store.wf mramDflt s.nvm.mram = true) : s.epochWritten.mread epochAddr = s.epochNext := by
  rw [State.epochWritten_mread, State.mread_mwrite_ne (h := markAddr_ne_epochAddr _), State.mread_mwrite_same (h := h)]

theorem State.epochWritten_mread_markAddr (h : Store.wf mramDflt s.nvm.mram = true) : s.epochWritten.mread (markAddr s.epochNext) = 0 := by
  rw [State.epochWritten_mread, State.mread_mwrite_same (h := State.wf_mwrite (h := h))]

theorem State.epochWritten_mread_other {a : Nat} (hword : a ≠ epochAddr) (hmark : a ≠ markAddr s.epochNext) :
    s.epochWritten.mread a = s.mread a := by
  rw [State.epochWritten_mread, State.mread_mwrite_ne (h := hmark.symm), State.mread_mwrite_ne (h := hword.symm)]

/-- Settles O9, from the two words that the update writes and, in bench mode, the register alone. -/
theorem epochAdvancesBeforeStage5 : Obligations.EpochAdvancesBeforeStage5 := by
  unfold Obligations.EpochAdvancesBeforeStage5
  refine ⟨fun s hstage hgated hwaking hbench hwake hdone hwf => ?_, fun s hstage hgated hwaking hbench hwake hdone hgood => ?_⟩
  · have hsat (h : s.epochNext = 0xFFFFFFFF#32) : s.epochWritten.tb.epochSat = true := by simp [State.epochWritten_epochSat, h]
    refine Answers.of_exec (State.exec_pllLock_epochWritten hstage hgated hwaking hbench hwake hdone) rfl
      ⟨fun hbad => ⟨State.epochNext_of_bad hbad, ?_⟩, State.epochNext_succ (hbench := hbench), fun hgood hmax => ?_,
        State.epochWritten_mread_epochAddr hwf, State.epochWritten_mread_markAddr hwf, rfl, fun a => State.epochWritten_mread_other⟩
    · have hlost : s.mbad epochAddr = true := hbad
      simp [State.epochWritten_epochLost, hlost]
    · have hkeep : s.epochNext = s.mread 0x14C00 := State.epochNext_keep hgood (.inr hmax)
      exact ⟨hkeep, hsat (hkeep.trans hmax)⟩
  · have hexec := State.exec_pllLock_stage4 hstage hgated hwaking
    rw [State.epochUpdate_bench (s := s.locked) hwake hdone hbench] at hexec
    exact Answers.of_exec hexec rfl ⟨State.epochNext_keep hgood (.inl hbench), rfl⟩

end Sys2Proof.Machine
end

section
/-! SUPPORT. Power, bench mode and a restart of L0 (spec/03_supplies_clocks_and_start_up.md R68 to R73, R104, R105;
spec/04_reset_controller.md R114 to R129). -/

namespace Sys2Proof.Machine

variable {s : State}

/-! ### A restart of L0 -/

/-- What L0 sets in the state it has cleared (R96, R136). -/
def State.restarted (s : State) : State :=
  let s := ((s.modRole fun _ => RoleRec.init).modImg Img.toReset).modClk fun _ => Clk.init
  let s := s.modTb fun t => { Tb.init with epoch := t.epoch }
  let s := s.modSupply fun p => { p with cpRun := false, cpOk := false }
  let s := s.modReact fun r => { r with sysCnt := 0, lockout := false, sysEvt := false, restart := false }
  let s := s.modPins fun p => { p with strapTest := p.test }
  s.modBoot fun b =>
    { b with stage := 1, stageAt := s.ticks, fuseTry := 0, wakeStart := false, wakeRun := false, epochDone := false, faultN := b.bench,
             retryEnd := none }

theorem State.assertLevel_l0_eq (s : State) : s.assertLevel .l0 = ((s.resetPaths .l0).resetCore .l0).restarted := rfl

/-- After L0 stage 1 runs, in bench mode or not as before, and TEST is sampled (R46, R96). -/
theorem State.assertLevel_l0_spec (s : State) :
    (s.assertLevel .l0).boot.stage = 1 ∧ (s.assertLevel .l0).boot.bench = s.boot.bench ∧ (s.assertLevel .l0).boot.faultN = s.boot.bench ∧
      (s.assertLevel .l0).supply.vin = s.supply.vin ∧ (s.assertLevel .l0).pins.strapTest = s.pins.test := by
  have hbench := congrArg Boot.bench s.cleared_kept.boot
  have hvin := s.cleared_kept.vin
  have htest := s.cleared_kept.test
  rw [State.assertLevel_l0_eq]
  generalize (s.resetPaths .l0).resetCore .l0 = u at hbench hvin htest ⊢
  exact ⟨rfl, hbench, hbench, hvin, htest⟩

theorem State.levelFor_por (s : State) : (s.levelFor (plainReq .por)).1 = 0 := Nat.le_zero.mp (s.levelFor_le _)

/-- The power-on source begins an L0 reset whatever runs: a retry's wait ends, and no reset in progress is deeper (R114, R125, R126). -/
theorem State.raise1_por (haon : s.supply.aon = true) :
    s.raise1 .por =
      (((s.modRst fun r => { r with cause := s.causeOf .por }).resetBegun .l0 true).assertLevel .l0).modRst fun r =>
        { r with sysArmed := false } := by
  have hl := s.levelFor_por
  have hfirst : ((List.range 12).findSome? fun k => [(plainReq .por, s.levelFor (plainReq .por))].find? fun x =>
      decide (x.2.1 = 0) && decide (srcCode x.1.src = k)) = some (plainReq .por, s.levelFor (plainReq .por)) := by
    have hsrc : srcCode (plainReq .por).src = 0 := rfl
    simp [List.range, List.range.loop, hsrc, hl]
  rw [← State.startReset_l0 false]
  unfold State.raise1 State.raiseReset
  rw [State.causeOf, hl]
  simp only [haon, List.map_cons, List.map_nil, List.foldl_cons, List.foldl_nil, hl, Nat.min_zero, hfirst]
  cases hretry : s.boot.retryEnd with
  | some k => rfl
  | none =>
    cases hrun : s.rst.run with
    | some r =>
      simp only [Nat.zero_le, if_true]
      rfl
    | none => rfl

/-- What a power-on reset leaves of its start: L0 asserted from now on, `SOURCE` 0, and stage 1 outside or inside bench mode as before. -/
theorem State.raise1_por_spec (haon : s.supply.aon = true) :
    (s.raise1 .por).boot.stage = 1 ∧ (s.raise1 .por).boot.bench = s.boot.bench ∧ (s.raise1 .por).boot.faultN = s.boot.bench ∧
      (s.raise1 .por).supply.vin = s.supply.vin ∧ (s.raise1 .por).pins.strapTest = s.pins.test ∧
      (s.raise1 .por).rst.run = some { level := .l0, asserted := true, since := s.ticks } ∧ fld (s.raise1 .por).rst.cause 0 4 = 0 := by
  have hbegun : Within [.clk, .pwr, .meas, .wdt, .rst] s ((s.modRst fun r => { r with cause := s.causeOf .por }).resetBegun .l0 true) :=
    Within.refl.modRst.endDoze.modRst
  have hrun := State.resetBegun_run (s := s.modRst fun r => { r with cause := s.causeOf .por }) (l := .l0) true
  have hcause := State.resetBegun_cause (s := s.modRst fun r => { r with cause := s.causeOf .por }) (l := .l0) true
  rw [State.raise1_por haon]
  generalize (s.modRst fun r => { r with cause := s.causeOf .por }).resetBegun .l0 true = u at hbegun hrun hcause ⊢
  obtain ⟨hrun', hcause'⟩ := (SameReset.refl (s := u)).assertLevel_l0
  obtain ⟨hstage, hbench, hfault, hvin, htest⟩ := u.assertLevel_l0_spec
  have hboot : u.boot = s.boot := hbegun.same .boot
  have hsupply : u.supply = s.supply := hbegun.same .supply
  have hpins : u.pins = s.pins := hbegun.same .pins
  rw [hboot] at hbench hfault
  rw [hsupply] at hvin
  rw [hpins] at htest
  exact ⟨hstage, hbench, hfault, hvin, htest, hrun'.trans hrun,
    (congrArg (fld · 0 4) (hcause'.trans hcause)).trans (s.source_causeOf .por)⟩

end Sys2Proof.Machine
end

section
/-! SUPPORT. The sequencer's rails, the source pair's steps and the self-checks, as the ends of DOZE and of a hand-over use them
(spec/08_rail_sequencer.md R284 to R290; spec/06_ladder_front_end_and_measurement.md, spec/07_fast_comparators.md). -/

-- A lemma's default argument is ready only once its proof is: taken up all at once, the lemmas below would wait in a thread each.
set_option Elab.async false

namespace Sys2Proof.Machine

variable {bs : List Block} {s₀ s t : State} {n : Nat}

/-! ### Changes of rails alone -/

/-- A sequencer but for its rails. -/
def Seq.sansRails (q : Seq) : Seq := { q with rails := [] }

/-- The sequencer changes in its rails alone: its state, its requests and the source pair stay. -/
def RailsOnly (s t : State) : Prop := t.seq.sansRails = s.seq.sansRails

namespace RailsOnly

theorem refl : RailsOnly s s := rfl

/-- A change outside the sequencer. -/
theorem also (h : RailsOnly s₀ s) (hw : Within bs s t) (hb : .seq ∉ bs := by decide) : RailsOnly s₀ t :=
  (congrArg Seq.sansRails (hw .seq hb)).trans h

theorem state (h : RailsOnly s t) : t.seq.state = s.seq.state := by simpa [Seq.sansRails] using congrArg Seq.state h

theorem src (h : RailsOnly s t) : t.seq.src = s.seq.src := by simpa [Seq.sansRails] using congrArg Seq.src h

theorem handovers (h : RailsOnly s t) : t.seq.handovers = s.seq.handovers := by simpa [Seq.sansRails] using congrArg Seq.handovers h

theorem startReq (h : RailsOnly s t) : t.seq.startReq = s.seq.startReq := by simpa [Seq.sansRails] using congrArg Seq.startReq h

theorem modRail {f} (h : RailsOnly s₀ s) : RailsOnly s₀ (s.modRail n f) := h

theorem either {c : Prop} [Decidable c] {u : State} (ht : RailsOnly s t) (hu : RailsOnly s u) : RailsOnly s (if c then t else u) := by
  split
  · exact ht
  · exact hu

/-- A fold whose every step changes rails alone. -/
theorem foldl {α : Type} {f : State → α → State} {xs : List α} (h : RailsOnly s t) (hf : ∀ t x, RailsOnly s t → RailsOnly s (f t x)) :
    RailsOnly s (xs.foldl f t) := by
  induction xs generalizing t with
  | nil => exact h
  | cons x xs ih => exact ih (hf t x h)

theorem setEn {b : Bool} (h : RailsOnly s₀ s) : RailsOnly s₀ (s.setEn n b) :=
  either (h.modRail.also (bs := [.pins]) Within.refl.modPins) h

theorem goRail {st : RailState} (h : RailsOnly s₀ s) : RailsOnly s₀ (s.goRail n st) := by
  unfold State.goRail
  refine either ?_ h.modRail
  dsimp only
  split
  · exact h.modRail.also (bs := [.sched, .mrg]) Within.refl.modSched.modDac
  · exact h.modRail.also (bs := [.sched]) Within.refl.modSched

theorem offRail {st : RailState} (h : RailsOnly s₀ s) : RailsOnly s₀ (s.offRail n st) := h.setEn.goRail

theorem enterRamp (h : RailsOnly s₀ s) : RailsOnly s₀ (s.enterRamp n) := h.setEn.goRail.modRail

theorem trackRamp (h : RailsOnly s₀ s) : RailsOnly s₀ (s.trackRamp n) := either h (either (either h h.modRail) h.modRail)

theorem guardTrip (h : RailsOnly s₀ s) : RailsOnly s₀ s.guardTrip := by
  unfold State.guardTrip
  exact either h (h.foldl fun _ _ h => either h.offRail.modRail h)

end RailsOnly

/-! ### The source pair -/

theorem State.dwellJudge_seq (s : State) :
    s.dwellJudge.seq.src = s.seq.src ∧ s.dwellJudge.seq.handovers = s.seq.handovers ∧ s.dwellJudge.seq.state = s.seq.state := by
  unfold State.dwellJudge
  split
  · exact ⟨rfl, rfl, rfl⟩
  · split
    · split <;> exact ⟨rfl, rfl, rfl⟩
    · split <;> exact ⟨rfl, rfl, rfl⟩

/-- Leaving a source opens the gap towards the other one (R286). -/
theorem State.srcLeave_spec (s : State) (toBatt : Bool) :
    (s.srcLeave toBatt).seq.src = (if toBatt then .gapToBatt else .gapToMains) ∧ (s.srcLeave toBatt).seq.srcAt = s.ticks ∧
      (s.srcLeave toBatt).seq.srcTmo = s.regFld Reg.seqCfg 0 17 ∧ (s.srcLeave toBatt).seq.dwell = false ∧
      (s.srcLeave toBatt).seq.state = s.seq.state := by
  unfold State.srcLeave
  cases s.srcRail with
  | none => exact ⟨rfl, rfl, rfl, rfl, rfl⟩
  | some n =>
    have hw : Within [.pins, .seq, .mrg, .sched] s ((s.offRail n .off).modRail n fun r => { r with deferred := none }) :=
      Within.refl.offRail.modRail
    have hrails : RailsOnly s (s.offRail n .off) := RailsOnly.refl.offRail
    have hregs : ((s.offRail n .off).modRail n fun r => { r with deferred := none }).regs = s.regs := hw.same .regs
    exact ⟨rfl, hw.same .ticks, congrArg (fun r => fld (Store.read regDflt r Reg.seqCfg) 0 17) hregs, rfl, hrails.state⟩

theorem State.srcJudge_state (s : State) : s.srcJudge.seq.state = s.seq.state := by
  unfold State.srcJudge
  split
  · rfl
  · split
    · split
      · exact (s.srcLeave_spec true).2.2.2.2
      · rfl
    · exact s.dwellJudge_seq.2.2
    · rfl

/-! ### Frames of the pump's ready event -/

namespace Within

theorem seqEvt {i : Nat} (h : Within bs s₀ s) (hl : [.regs] ⊆ bs := by decide) : Within bs s₀ (s.seqEvt i) := h.raise hl

theorem enterRamp (h : Within bs s₀ s) (hl : [.pins, .seq, .mrg, .sched] ⊆ bs := by decide) : Within bs s₀ (s.enterRamp n) :=
  h.also hl refl.setEn.goRail.modRail

theorem srcEnter {batt first : Bool} (h : Within bs s₀ s) (hl : [.pins, .regs, .seq, .mrg, .sched] ⊆ bs := by decide) :
    Within bs s₀ (s.srcEnter batt first) := h.also hl <| by
  unfold State.srcEnter
  split
  · exact refl
  · exact (either refl.enterRamp.modSeq refl.enterRamp.modSeq.modSeq.seqEvt).srcJudge

theorem srcSelect (h : Within bs s₀ s) (hl : [.pins, .regs, .seq, .mrg, .sched] ⊆ bs := by decide) : Within bs s₀ s.srcSelect :=
  h.also hl <| by
  unfold State.srcSelect
  dsimp only
  split
  · exact refl.goRail.srcEnter
  · exact refl

theorem railOn (h : Within bs s₀ s) (hl : [.pins, .regs, .seq, .mrg, .sched] ⊆ bs := by decide) : Within bs s₀ (s.railOn n) :=
  h.also hl <| by
  unfold State.railOn
  refine either refl (either ?_ (either refl.enterRamp refl))
  dsimp only
  split
  · exact either refl.srcSelect refl
  · exact refl

theorem gatePins (h : Within bs s₀ s) (hl : [.pins] ⊆ bs := by decide) : Within bs s₀ s.gatePins := h.modPins hl

theorem shadowPins (h : Within bs s₀ s) (hl : [.pins] ⊆ bs := by decide) : Within bs s₀ s.shadowPins :=
  h.also hl (either refl.modPins refl)

end Within

/-! ### Self-check and wet check -/

/-- A self-check runs or not as before, and so does a wet check. -/
def SameChecks (s t : State) : Prop := t.cmp.chk = s.cmp.chk ∧ t.meas.wet = s.meas.wet

namespace SameChecks

theorem refl : SameChecks s s := ⟨rfl, rfl⟩

/-- A change outside the comparators and the measurement. -/
theorem also (h : SameChecks s₀ s) (hw : Within bs s t) (hb : ∀ b ∈ [Block.cmp, .meas], b ∉ bs := by decide) : SameChecks s₀ t :=
  ⟨(congrArg Cmp.chk (hw .cmp (hb _ (by simp)))).trans h.1, (congrArg Meas.wet (hw .meas (hb _ (by simp)))).trans h.2⟩

theorem modCmp {f} (h : SameChecks s₀ s) (hf : ∀ c, (f c).chk = c.chk := by exact fun _ => rfl) : SameChecks s₀ (s.modCmp f) :=
  ⟨(hf _).trans h.1, h.2⟩

theorem modComp {high : Bool} {f} (h : SameChecks s₀ s) : SameChecks s₀ (s.modComp n high f) := h

theorem modMeasCh {f} (h : SameChecks s₀ s) : SameChecks s₀ (s.modMeasCh n f) := h

theorem either {c : Prop} [Decidable c] (ht : SameChecks s t) {u : State} (hu : SameChecks s u) : SameChecks s (if c then t else u) := by
  split
  · exact ht
  · exact hu

theorem foldl {α : Type} {f : State → α → State} {xs : List α} (h : SameChecks s t) (hf : ∀ t x, SameChecks s t → SameChecks s (f t x)) :
    SameChecks s (xs.foldl f t) := by
  induction xs generalizing t with
  | nil => exact h
  | cons x xs ih => exact ih (hf t x h)

theorem setQ {high b : Bool} (h : SameChecks s₀ s) : SameChecks s₀ (s.setQ n high b) :=
  either (h.modComp.also (bs := [.regs]) Within.refl.setLat) h.modComp

theorem setOut {high b : Bool} (h : SameChecks s₀ s) : SameChecks s₀ (s.setOut n high b) := either h.modComp h.modComp.setQ

theorem follow {high : Bool} (h : SameChecks s₀ s) : SameChecks s₀ (s.follow n high) := by
  have hown (lvl : Bool) : SameChecks s₀ (if (s.comp n high).out = lvl then s else s.setOut n high lvl) := either h h.setOut
  exact either h (either (hown _).setOut (hown _))

theorem takeLive {high : Bool} (h : SameChecks s₀ s) : SameChecks s₀ (s.takeLive n high) := either h.setOut.follow h.follow

theorem followCh (h : SameChecks s₀ s) : SameChecks s₀ (s.followCh n) := h.follow.follow

theorem restartFilter (h : SameChecks s₀ s) : SameChecks s₀ (s.restartFilter n) := h

theorem blank (h : SameChecks s₀ s) : SameChecks s₀ (s.blank n) := h

theorem putLive {a : Nat} {v : Word} (h : SameChecks s₀ s) : SameChecks s₀ (s.putLive a v) := by
  unfold State.putLive
  refine either h ?_
  dsimp only
  split
  · exact h
  · exact h

theorem judgeLive (h : SameChecks s₀ s) : SameChecks s₀ s.judgeLive.2 :=
  either h.modCmp (h.modCmp.also (bs := [.regs]) Within.refl.raise)

theorem liveApply (h : SameChecks s₀ s) : SameChecks s₀ s.liveApply := by
  unfold State.liveApply
  split
  · exact SameChecks.also (bs := [.img, .hif]) ((h.also (bs := [.live, .liveImg]) Within.refl.withLives).foldl fun _ _ h => h.putLive)
      Within.refl.modImg.imgOpEnd
  · exact (h.judgeLive.also (bs := [.live]) Within.refl.withLive).foldl fun _ _ h => h.putLive

theorem liveSettle (h : SameChecks s₀ s) : SameChecks s₀ s.liveSettle := either h.liveApply h

end SameChecks

theorem State.chkAbortNow_chk (s : State) : s.chkAbortNow.cmp.chk = none := by
  unfold State.chkAbortNow
  split
  next hnone => exact hnone
  · dsimp only
    split
    · exact (SameChecks.refl (s := s.modCmp fun x => { x with chk := none, chkAbort := true })).takeLive.1
    · rfl

/-- The wet check taken out, and the abort shown. -/
def State.wetEnded (s : State) : State := (s.setRegBit Reg.chWetStat 29 true).modMeas fun m => { m with wet := none }

theorem State.wetEnded_wet (s : State) : s.wetEnded.meas.wet = none := rfl

theorem State.wetEnded_chk (s : State) : s.wetEnded.cmp.chk = s.cmp.chk :=
  congrArg Cmp.chk ((Within.refl (bs := [.regs, .meas])).setRegBit.modMeas.same .cmp)

theorem State.wetAbort_of_some {w : WetRun} (h : s.meas.wet = some w) :
    s.wetAbort = match w.todo with
      | n :: _ => ((s.wetEnded.restartFilter n).blank n).followCh n
      | [] => s.wetEnded := by
  unfold State.wetAbort
  rw [h]
  rfl

theorem State.wetAbort_checks (s : State) : s.wetAbort.meas.wet = none ∧ s.wetAbort.cmp.chk = s.cmp.chk := by
  cases hwet : s.meas.wet with
  | none =>
    have hsame : s.wetAbort = s := by simp [State.wetAbort, hwet]
    rw [hsame]
    exact ⟨hwet, rfl⟩
  | some w =>
    have hchecks (n : Nat) : SameChecks s.wetEnded (((s.wetEnded.restartFilter n).blank n).followCh n) :=
      SameChecks.refl.restartFilter.blank.followCh
    rw [State.wetAbort_of_some hwet]
    split
    · exact ⟨(hchecks _).2.trans s.wetEnded_wet, (hchecks _).1.trans s.wetEnded_chk⟩
    · exact ⟨s.wetEnded_wet, s.wetEnded_chk⟩

/-! ### The watch outside HOLD -/

theorem Within.watchSrc {old : State} (h : Within bs s₀ s) (hl : [.supply] ⊆ bs := by decide) : Within bs s₀ (s.watchSrc old) :=
  h.also hl (either refl.modSupply refl)

theorem State.holdSource_of_not_hold {old : State} (h : s.seq.state ≠ .hold) : s.holdSource old = s := if_pos h

theorem State.guardTrip_of_off (h : s.fab.guard = false) : s.guardTrip = s := if_pos (by simp [h])

theorem State.srcJudge_of_none (h : s.seq.src = .none) : s.srcJudge = s := by
  unfold State.srcJudge
  rw [h]
  exact ite_self s

/-- The rails as the watch has tracked them. -/
def State.tracked (s old : State) : State := railNums.foldl State.trackRamp (s.watchSrc old)

theorem Within.tracked {old : State} (h : Within bs s₀ s) (hl : [.supply, .seq] ⊆ bs := by decide) : Within bs s₀ (s.tracked old) :=
  h.also hl (refl.watchSrc.foldl fun _ _ h => h.trackRamp)

theorem State.tracked_rails (s old : State) : RailsOnly s (s.tracked old) :=
  (RailsOnly.refl.also (bs := [.supply]) Within.refl.watchSrc).foldl fun _ _ h => h.trackRamp

/-- Outside HOLD the watch leaves the state of the sequencer, and MRAM, as they are. -/
theorem State.watch_of_not_hold {old : State} (h : s.seq.state ≠ .hold) :
    (s.watch old).seq.state = s.seq.state ∧ (s.watch old).nvm = s.nvm := by
  have hrails : RailsOnly s (s.tracked old).guardTrip := (s.tracked_rails old).guardTrip
  have hheld : (s.tracked old).guardTrip.holdSource old = (s.tracked old).guardTrip :=
    State.holdSource_of_not_hold (by rw [hrails.state]; exact h)
  have hsrc : Within [.supply] s (s.watchSrc old) := Within.refl.watchSrc
  have hwithin : Within [.supply, .pins, .seq, .mrg, .sched] s (s.tracked old).guardTrip.srcJudge :=
    Within.refl.tracked.guardTrip.srcJudge
  unfold State.watch
  dsimp only
  split
  · exact ⟨congrArg Seq.state (hsrc.same .seq), hsrc.same .nvm⟩
  · rw [State.tracked] at hheld hwithin hrails
    rw [hheld]
    exact ⟨(State.srcJudge_state _).trans hrails.state, hwithin.same .nvm⟩

/-- With no source selected and the guard off, the watch outside HOLD moves no pin. -/
theorem State.watch_pins {old : State} (h : s.seq.state ≠ .hold) (hsrc : s.seq.src = .none) (hguard : s.fab.guard = false) :
    (s.watch old).pins = s.pins := by
  have hrails := s.tracked_rails old
  have hframe : Within [.supply, .seq] s (s.tracked old) := Within.refl.tracked
  have hguarded : (s.tracked old).guardTrip = s.tracked old :=
    State.guardTrip_of_off ((congrArg Fab.guard (hframe.same .fab)).trans hguard)
  have hheld : (s.tracked old).holdSource old = s.tracked old := State.holdSource_of_not_hold (by rw [hrails.state]; exact h)
  have hjudged : (s.tracked old).srcJudge = s.tracked old := State.srcJudge_of_none (hrails.src.trans hsrc)
  have hwithin : Within [.supply] s (s.watchSrc old) := Within.refl.watchSrc
  have htracked := hframe.same .pins
  unfold State.watch
  dsimp only
  split
  · exact hwithin.same .pins
  · rw [State.tracked] at hguarded hheld hjudged htracked
    rw [hguarded, hheld, hjudged]
    exact htracked

end Sys2Proof.Machine
end

section
/-! SUPPORT. Obligation settled: power, bench mode and the entry into DOZE. -/

namespace Sys2Proof.Machine

variable {s : State} {p : Port} {v : Word}

/-! ### Power and bench mode -/

theorem benchExit_answers (hbench : s.boot.bench = true) (haon : s.supply.aon = true) :
    Answers (.benchExit []) s fun t =>
      t.boot.bench = false ∧ t.supply.vin = true ∧ t.pins.strapTest = s.pins.test ∧ t.boot.stage = 1 ∧ t.boot.faultN = false ∧
      t.rst.run = some { level := .l0, asserted := true, since := s.ticks } ∧ fld t.rst.cause 0 4 = 0 := by
  obtain ⟨hstage, hended, hfault, hvin, htest, hrun, hcause⟩ := State.raise1_por_spec
    (s := (s.modSupply fun p => { p with vin := true }).modBoot fun b => { b with bench := false }) haon
  exact Answers.of_exec (if_neg (by simp [hbench])) rfl ⟨hended, hvin, htest, hstage, hfault, hrun, hcause⟩

theorem vbusLoss_detach_answers (hbench : s.boot.bench = false) :
    Answers .vbusLoss s fun t =>
      t = { s with supply := { s.supply with vbus := false }, svc := t.svc, clk := { s.clk with sofTrim := false, sofCount := 0 } } ∧
      t.svc.attached = false ∧ t.svc.level = .view ∧ t.svc.fuses = s.svc.fuses ∧ t.svc.lockEnd = s.svc.lockEnd :=
  Answers.of_exec (if_neg (by simp [State.modSupply, hbench])) rfl ⟨rfl, rfl, rfl, rfl, rfl⟩

theorem cpReady_answers (hrun : s.supply.cpRun = true) (hok : s.supply.cpOk = false) :
    Answers .cpReady s fun t => t.supply = { s.supply with cpOk := true } ∧ t.role = s.role ∧ t.boot = s.boot ∧ t.rst = s.rst := by
  refine Answers.of_exec (if_pos (by simp [hrun, hok])) rfl ?_
  have hw (xs : List Nat) : Within [.pins, .regs, .seq, .mrg, .sched] (s.modSupply fun p => { p with cpOk := true })
      (xs.foldl State.railOn (s.modSupply fun p => { p with cpOk := true }).gatePins.shadowPins) :=
    Within.foldl Within.refl.gatePins.shadowPins fun _ _ h => h.railOn
  exact ⟨(hw _).same .supply, (hw _).same .role, (hw _).same .boot, (hw _).same .rst⟩

/-! ### DOZE -/

/-- What a write of `SYS_PWR` sets besides a request (R107, R112). -/
def State.pwrSet (s : State) (v : Word) : State :=
  s.modPwr fun p => { p with wakeCmpEn := bit v 3, wakePinEn := bit v 2, dozeRef := p.dozeRef && !bit v 1 }

theorem State.exec_dozeRequest (h : Reaches s p Reg.sysPwr) (hreq : bit v 0 = true) :
    exec (.dozeRequest p v) s = .next (s.pwrSet v).dozeReq :=
  congrArg ok ((State.access_mix h rfl).trans (if_pos hreq))

/-- DOZE stands and the PLL is off (R107, R108). -/
def State.dozing (s : State) : State :=
  (s.modPwr fun p => { p with doze := true, waking := false }).modClk fun c => { c with pllLock := false }

/-- DOZE entered, before the watch: the checks aborted, the watchdog stopped, the live registers settled (R107, R108; log entry 30). -/
def State.dozed (s : State) : State := (s.dozing.chkAbortNow.wetAbort.modWdt fun w => { w with run := false }).liveSettle

theorem State.dozeReq_accepted (hrole : s.isRole .sgl = true) (hpair : s.role.pair = false) (hidle : s.seq.state = .idle)
    (hquiet : s.dozeQuiet = true) : s.dozeReq = s.dozed.watch s.dozing :=
  if_pos ⟨hrole, by simp [hpair], hidle, hquiet⟩

theorem State.dozeReq_refused (h : s.isRole .sgl = false ∨ s.role.pair = true ∨ s.seq.state ≠ .idle ∨ s.dozeQuiet = false) :
    s.dozeReq = s.modPwr fun p => { p with dozeRef := true } := by
  refine if_neg ?_
  rintro ⟨hrole, hpair, hidle, hquiet⟩
  rcases h with h | h | h | h <;> simp_all

theorem State.dozed_within (s : State) : Within [.regs, .live, .liveImg, .img, .meas, .cmp, .hif, .wdt] s.dozing s.dozed :=
  Within.refl.chkAbortNow.wetAbort.modWdt.liveSettle

theorem State.dozed_wdt (s : State) : s.dozed.wdt.run = false := by
  have hlive : Within [.regs, .live, .liveImg, .img, .meas, .cmp, .hif] (s.dozing.chkAbortNow.wetAbort.modWdt fun w => { w with run := false })
      s.dozed := Within.refl.liveSettle
  have hwdt := hlive.same .wdt
  rw [hwdt]
  rfl

/-- No check runs after the entry (log entry 30). -/
theorem State.dozed_checks (s : State) : s.dozed.cmp.chk = none ∧ s.dozed.meas.wet = none := by
  obtain ⟨hwet, hkept⟩ := s.dozing.chkAbortNow.wetAbort_checks
  obtain ⟨hchk, hwet'⟩ :=
    ((SameChecks.refl (s := s.dozing.chkAbortNow.wetAbort)).also (bs := [.wdt])
      (Within.refl.modWdt (f := fun w => { w with run := false }))).liveSettle
  exact ⟨hchk.trans (hkept.trans s.dozing.chkAbortNow_chk), hwet'.trans hwet⟩

theorem dozeRequest_accepted_answers (h : Reaches s p Reg.sysPwr) (hreq : bit v 0 = true) (hrole : s.isRole .sgl = true)
    (hpair : s.role.pair = false) (hidle : s.seq.state = .idle) (hquiet : s.dozeQuiet = true) :
    Answers (.dozeRequest p v) s fun t =>
      t.pwr.doze = true ∧ t.pwr.waking = false ∧ t.clk.pllLock = false ∧ t.wdt.run = false ∧ t.seq.state = .idle ∧
      (s.seq.src = .none → s.fab.guard = false → t.pins = s.pins) ∧ t.nvm.mram = s.nvm.mram ∧ t.cmp.chk = none ∧ t.meas.wet = none := by
  have hframe := (s.pwrSet v).dozed_within
  have hseq : (s.pwrSet v).dozed.seq = s.seq := hframe.same .seq
  have hpwr : (s.pwrSet v).dozed.pwr = (s.pwrSet v).dozing.pwr := hframe.same .pwr
  have hclk : (s.pwrSet v).dozed.clk = (s.pwrSet v).dozing.clk := hframe.same .clk
  have hfab : (s.pwrSet v).dozed.fab = s.fab := hframe.same .fab
  have hpins : (s.pwrSet v).dozed.pins = s.pins := hframe.same .pins
  have hnvm : (s.pwrSet v).dozed.nvm = s.nvm := hframe.same .nvm
  have hwdt := (s.pwrSet v).dozed_wdt
  obtain ⟨hchk, hwet⟩ := (s.pwrSet v).dozed_checks
  refine Answers.of_exec (State.exec_dozeRequest h hreq) (State.dozeReq_accepted hrole hpair hidle hquiet) ?_
  have hdoze : (s.pwrSet v).dozing.pwr.doze = true ∧ (s.pwrSet v).dozing.pwr.waking = false ∧ (s.pwrSet v).dozing.clk.pllLock = false :=
    ⟨rfl, rfl, rfl⟩
  generalize (s.pwrSet v).dozed = u at hseq hpwr hclk hfab hpins hnvm hwdt hchk hwet ⊢
  generalize (s.pwrSet v).dozing = w at hpwr hclk hdoze ⊢
  obtain ⟨hdoze, hwaking, hlock⟩ := hdoze
  have hstate : u.seq.state ≠ .hold := by simp [hseq, hidle]
  have hwatch : Within [.supply, .pins, .regs, .seq, .react, .mrg, .nvm, .sched] u (u.watch w) := Within.refl.watch
  have hpwr' : (u.watch w).pwr = w.pwr := Eq.trans (hwatch.same .pwr) hpwr
  have hclk' : (u.watch w).clk = w.clk := Eq.trans (hwatch.same .clk) hclk
  have hwdt' : (u.watch w).wdt = u.wdt := hwatch.same .wdt
  have hcmp' : (u.watch w).cmp = u.cmp := hwatch.same .cmp
  have hmeas' : (u.watch w).meas = u.meas := hwatch.same .meas
  obtain ⟨hstate', hnvm'⟩ := State.watch_of_not_hold (old := w) hstate
  rw [hpwr', hclk', hwdt', hcmp', hmeas', hstate', hnvm']
  exact ⟨hdoze, hwaking, hlock, hwdt, hseq ▸ hidle,
    fun hsrc hguard => (State.watch_pins hstate (hseq ▸ hsrc) (hfab ▸ hguard)).trans hpins, hnvm ▸ rfl, hchk, hwet⟩

theorem dozeRequest_refused_answers (h : Reaches s p Reg.sysPwr) (hreq : bit v 0 = true)
    (hcond : s.isRole .sgl = false ∨ s.role.pair = true ∨ s.seq.state ≠ .idle ∨ s.dozeQuiet = false) :
    Answers (.dozeRequest p v) s fun t =>
      t.pwr.dozeRef = true ∧ t.pwr.doze = s.pwr.doze ∧ t.pwr.wakeCmpEn = bit v 3 ∧ t.pwr.wakePinEn = bit v 2 ∧ t = { s with pwr := t.pwr } :=
  Answers.of_exec (State.exec_dozeRequest h hreq) (State.dozeReq_refused (s := s.pwrSet v) hcond) ⟨rfl, rfl, rfl, rfl, rfl⟩

/-- Settles O11. That the entry into DOZE ends a self-check and a wet check in progress is the model's choice (log entry 30). -/
theorem powerTransitionsComplete : Obligations.PowerTransitionsComplete := by
  unfold Obligations.PowerTransitionsComplete
  refine ⟨⟨fun s hoff => ?on, fun s haon hbench => ?rearm, fun s hoff => ?entry, fun s => benchExit_answers, fun s => vbusLoss_detach_answers,
    fun s hbench => ?vbus, fun s => ?rise, fun s => ?lost, fun s => cpReady_answers⟩,
    fun s p v h hreq => ⟨dozeRequest_accepted_answers h hreq, dozeRequest_refused_answers h hreq⟩⟩
  case on => exact Answers.of_exec (if_neg (by simp [hoff])) rfl ⟨rfl, rfl, rfl, rfl, rfl, rfl, rfl, rfl, rfl, rfl, rfl⟩
  case rearm => exact Answers.of_exec (if_pos (by simp [haon, hbench])) rfl ⟨rfl, rfl, rfl, rfl, rfl, rfl, rfl, rfl⟩
  case entry => exact Answers.of_exec (if_neg (by simp [hoff])) rfl ⟨rfl, rfl, rfl, rfl, rfl, rfl⟩
  case vbus => exact Answers.of_exec (if_pos (by simp [State.modSupply, hbench])) rfl ⟨rfl, rfl, rfl⟩
  case rise => exact Answers.of_exec rfl rfl rfl
  case lost => exact Answers.of_exec rfl rfl rfl

end Sys2Proof.Machine
end

section
/-! SUPPORT. A start request through the reactions, and the frames of the source pair (spec/08_rail_sequencer.md R277 to R290;
spec/09_fault_reactions_and_margining.md R298 to R311). -/

-- A lemma's default argument is ready only once its proof is: taken up all at once, the lemmas below would wait in a thread each.
set_option Elab.async false

namespace Sys2Proof.Machine

variable {bs : List Block} {s₀ s t : State} {n : Nat}

/-! ### What leaves the start request -/

/-- The supplies' record and the start request stay. -/
structure StartKept (s t : State) : Prop where
  supply : t.supply = s.supply
  startReq : t.seq.startReq = s.seq.startReq

namespace StartKept

theorem refl : StartKept s s := ⟨rfl, rfl⟩

theorem trans {u : State} (h : StartKept s t) (h' : StartKept t u) : StartKept s u :=
  ⟨h'.supply.trans h.supply, h'.startReq.trans h.startReq⟩

theorem also (h : StartKept s₀ s) (hw : Within bs s t) (hb : ∀ b ∈ [Block.supply, .seq], b ∉ bs := by decide) : StartKept s₀ t :=
  h.trans ⟨hw .supply (hb _ (by simp)), congrArg Seq.startReq (hw .seq (hb _ (by simp)))⟩

/-- A change of rails, with blocks other than the supplies'. -/
theorem rails (h : StartKept s₀ s) (hr : RailsOnly s t) (hw : Within bs s t) (hb : .supply ∉ bs := by decide) : StartKept s₀ t :=
  h.trans ⟨hw .supply hb, hr.startReq⟩

theorem modSeq {f} (h : StartKept s₀ s) (hf : ∀ q, (f q).startReq = q.startReq := by exact fun _ => rfl) : StartKept s₀ (s.modSeq f) :=
  h.trans ⟨rfl, hf _⟩

theorem either {c : Prop} [Decidable c] {u : State} (ht : StartKept s t) (hu : StartKept s u) : StartKept s (if c then t else u) := by
  split
  · exact ht
  · exact hu

theorem foldl {α : Type} {f : State → α → State} {xs : List α} (h : StartKept s t) (hf : ∀ t x, StartKept s t → StartKept s (f t x)) :
    StartKept s (xs.foldl f t) := by
  induction xs generalizing t with
  | nil => exact h
  | cons x xs ih => exact ih (hf t x h)

theorem raise {a i : Nat} (h : StartKept s₀ s) : StartKept s₀ (s.raise a i) := h.also (bs := [.regs]) Within.refl.raise

theorem setReg {a : Nat} {v : Word} (h : StartKept s₀ s) : StartKept s₀ (s.setReg a v) := h.also (bs := [.regs]) Within.refl.setReg

theorem modRidge {f} (h : StartKept s₀ s) : StartKept s₀ (s.modRidge f) := h.also (bs := [.ridge]) Within.refl.modRidge

theorem modRail {f} (h : StartKept s₀ s) : StartKept s₀ (s.modRail n f) := h.modSeq

theorem setLast {r : Nat} (h : StartKept s₀ s) : StartKept s₀ (s.setLast n r) := h.also (bs := [.react]) Within.refl.setLast

theorem setEn {b : Bool} (h : StartKept s₀ s) : StartKept s₀ (s.setEn n b) :=
  h.rails (bs := [.pins, .seq]) RailsOnly.refl.setEn Within.refl.setEn

theorem goRail {st : RailState} (h : StartKept s₀ s) : StartKept s₀ (s.goRail n st) :=
  h.rails (bs := [.seq, .mrg, .sched]) RailsOnly.refl.goRail Within.refl.goRail

theorem offRail {st : RailState} (h : StartKept s₀ s) : StartKept s₀ (s.offRail n st) := h.setEn.goRail

theorem enterDischarge (h : StartKept s₀ s) : StartKept s₀ (s.enterDischarge n) := either h.offRail h.offRail.modRail

theorem enterOn (h : StartKept s₀ s) : StartKept s₀ (s.enterOn n) := h.goRail.also (bs := [.nvm]) Within.refl.countEvent

theorem eitherFst {α : Type} {c : Prop} [Decidable c] {x y : State × α} (hx : StartKept s x.1) (hy : StartKept s y.1) :
    StartKept s (if c then x else y).1 := by
  split
  · exact hx
  · exact hy

theorem takeFault {e : FaultEv} (h : StartKept s₀ s) : StartKept s₀ (s.takeFault e).1 := by
  unfold State.takeFault
  refine eitherFst h ?_
  dsimp only
  split
  · exact eitherFst h.modRail.raise.setEn.enterOn.raise.setLast h.modRail.raise.offRail
  · exact eitherFst h.raise.setLast (eitherFst h.offRail.modRail h.offRail)
  · exact h.modRail.enterDischarge
  · exact h

/-- A STOP at one rail. -/
theorem stopRail {o : BitVec 32} {all : Bool} (h : StartKept s₀ s) : StartKept s₀ (s.stopRail o all n) := by
  unfold State.stopRail
  dsimp only
  split
  · split
    · exact h.offRail
    · exact h.goRail
    · exact h
  · split
    · exact h.goRail
    · exact h.goRail
    · exact h.goRail.modRail
    · exact h.goRail.modRail
    · exact either h.modRail h
    · exact h

theorem stopSource (h : StartKept s₀ s) : StartKept s₀ (s.stopSource n) := by
  unfold State.stopSource
  split
  · exact h.goRail
  · exact h.goRail
  · exact h.goRail
  · exact h

theorem budgetOff (h : StartKept s₀ s) : StartKept s₀ s.budgetOff := h.foldl fun _ _ h => either h.offRail h

theorem leaveState (h : StartKept s₀ s) : StartKept s₀ s.leaveState := by
  unfold State.leaveState
  split
  · exact StartKept.budgetOff (h.also (bs := [.mrg]) Within.refl.mrgBackAll)
  · exact h.also (bs := [.regs, .meas, .cmp]) Within.refl.wetAbort
  · exact h

/-! #### Commands on the ridge -/

theorem cancelOwn {c : RidgeCmd} (h : StartKept s₀ s) : StartKept s₀ (s.cancelOwn c) := by
  refine either h (h.modSeq fun q => ?_)
  split <;> rfl

theorem setRegFld {a lo k v : Nat} (h : StartKept s₀ s) : StartKept s₀ (s.setRegFld a lo k v) :=
  h.also (bs := [.regs]) Within.refl.setRegFld

theorem setRegBit {a i : Nat} {b : Bool} (h : StartKept s₀ s) : StartKept s₀ (s.setRegBit a i b) :=
  h.also (bs := [.regs]) Within.refl.setRegBit

theorem count {a lo k m : Nat} (h : StartKept s₀ s) : StartKept s₀ (s.count a lo k m) := h.also (bs := [.regs]) Within.refl.count

theorem modSched {f} (h : StartKept s₀ s) : StartKept s₀ (s.modSched f) := h.also (bs := [.sched]) Within.refl.modSched

theorem setCmdErr {c : Nat} (h : StartKept s₀ s) : StartKept s₀ (s.setCmdErr c) := h.modSeq

/-- A command that finds no place is dropped, and withdrawn where it is the sequencer's own. -/
theorem dropCmd {q : QueueCmd} (h : StartKept s₀ s) : StartKept s₀ (s.dropCmd q) := by
  unfold State.dropCmd
  extract_lets noted own event host polled
  have hnoted : StartKept s₀ noted := h.raise
  have hown : StartKept s₀ own := either hnoted.cancelOwn.setCmdErr hnoted
  have hevent : StartKept s₀ event := either hown.count.raise hown
  have hhost : StartKept s₀ host := either hevent.setRegFld.setRegBit hevent
  have hpolled : StartKept s₀ polled := either hhost.modSched hhost
  exact either hpolled.setRegFld.setRegBit.modRidge hpolled

theorem offerCmd {q : QueueCmd} (h : StartKept s₀ s) : StartKept s₀ (s.offerCmd q) := either h.dropCmd h.modRidge

theorem cascade {op : Nat} {o : Option (BitVec 32)} {a : Word} (h : StartKept s₀ s) : StartKept s₀ (s.cascade op o a) := h.offerCmd

theorem cascadeReaction {op : Nat} {a : Word} (h : StartKept s₀ s) : StartKept s₀ (s.cascadeReaction op a) := h.cascade.raise

/-! #### The sequencer's settling -/

theorem settleGroups (h : StartKept s₀ s) : StartKept s₀ s.settleGroups := h.foldl fun _ _ h => either h.modSeq h

theorem enterUp (h : StartKept s₀ s) : StartKept s₀ s.enterUp := h.modSeq.raise

theorem enterDownHold (h : StartKept s₀ s) : StartKept s₀ s.enterDownHold := by
  unfold State.enterDownHold
  dsimp only
  have hrails : StartKept s₀ (railNums.foldl (fun t n => if t.rstate n = .faulted then t.offRail n .off else t) s) :=
    h.foldl fun _ _ h => either h.offRail h
  exact StartKept.modSeq (StartKept.setReg (hrails.also (bs := [.react]) Within.refl.modReact))

theorem masterRestart (h : StartKept s₀ s) : StartKept s₀ s.masterRestart := by
  unfold State.masterRestart
  refine either h ?_
  dsimp only
  split
  · exact either (either h.modSeq h) (either (either h.modSeq h).modSeq.cascade (either h.modSeq h).cascade)
  · exact either h.modSeq h

theorem settle (h : StartKept s₀ s) : StartKept s₀ s.settle := by
  unfold State.settle
  dsimp only
  split
  · exact either h.settleGroups.enterUp h.settleGroups
  · refine either h.settleGroups (either (either h.settleGroups ?_) h.settleGroups.enterDownHold.masterRestart)
    exact h.settleGroups.also (bs := [.react]) Within.refl.modReact
  · exact h.settleGroups

theorem groupStop {o : BitVec 32} {g : Nat} (h : StartKept s₀ s) : StartKept s₀ (s.groupStop o g) := by
  unfold State.groupStop
  dsimp only
  exact either h (StartKept.settle (h.modSeq.foldl fun _ _ h => either h.stopRail h))

theorem grpdnAt {g : Nat} (h : StartKept s₀ s) : StartKept s₀ (s.grpdnAt g) := by
  unfold State.grpdnAt
  split
  · exact h.groupStop
  · exact h.groupStop
  · exact h.groupStop
  · exact h.modSeq
  · exact h.modSeq
  · exact h
  · exact h

theorem enterFalling {ts : BitVec 32} {system : Bool} (h : StartKept s₀ s) : StartKept s₀ (s.enterFalling ts system) := by
  unfold State.enterFalling
  dsimp only
  exact either h.modSeq.settle (StartKept.settle (StartKept.modSeq (h.leaveState.setReg.raise.foldl fun _ _ h => either h.stopSource h.stopRail)))

/-! #### Reactions -/

theorem reactEvt {i : Nat} (h : StartKept s₀ s) : StartKept s₀ (s.reactEvt i) := h.raise

theorem toggleRact {i : Nat} (h : StartKept s₀ s) : StartKept s₀ (s.toggleRact i) := h.modRidge

theorem modReactAt {f} (h : StartKept s₀ s) : StartKept s₀ (s.modReactAt n f) := h.also (bs := [.react]) Within.refl.modReactAt

theorem systemReaction (h : StartKept s₀ s) : StartKept s₀ s.systemReaction := by
  unfold State.systemReaction
  extract_lets cnt again counted noted casc
  have hcounted : StartKept s₀ counted := h.also (bs := [.react]) Within.refl.modReact
  have hnoted : StartKept s₀ noted := hcounted.toggleRact
  have hcasc : StartKept s₀ casc := either hnoted.cascadeReaction hnoted
  exact hcasc.enterFalling

theorem reportGroup {g : Nat} (h : StartKept s₀ s) : StartKept s₀ (s.reportGroup g) := by
  unfold State.reportGroup
  extract_lets noted toggled
  have htoggled : StartKept s₀ toggled := h.reactEvt.modRidge.toggleRact
  exact either htoggled.cascadeReaction htoggled

theorem escalated (h : StartKept s₀ s) : StartKept s₀ (s.escalated n) := h.modReactAt.reactEvt

theorem retryRail (h : StartKept s₀ s) : StartKept s₀ (s.retryRail n) :=
  (h.modReactAt.setLast.goRail.modRail.reactEvt).also (bs := [.nvm]) Within.refl.countEvent

theorem gateEdges {l : List Nat} (h : StartKept s₀ s) : StartKept s₀ (s.gateEdges l) :=
  h.foldl fun _ _ h => either (either h.setEn.modRail h.setEn) h

end StartKept

/-- A source edge withdraws the start request, and no reaction that follows it makes one (R310, R311). -/
theorem State.runReactions_src {react grpdn : List Nat} {late : Bool} :
    (s.runReactions react grpdn true late).supply = s.supply ∧ (s.runReactions react grpdn true late).seq.startReq = false := by
  suffices h : StartKept (s.modSeq fun q => { q with startReq := false }) (s.runReactions react grpdn true late) from ⟨h.supply, h.startReq⟩
  unfold State.runReactions
  extract_lets dec sys live withdrawn shown edge systems grp groups mask named stopped
  have hshown : StartKept (s.modSeq fun q => { q with startReq := false }) shown := StartKept.refl.reactEvt.toggleRact
  have hedge : StartKept (s.modSeq fun q => { q with startReq := false }) edge := by
    rw [show edge = _ from if_pos rfl]
    exact .either hshown.cascadeReaction hshown
  have hsystems : StartKept (s.modSeq fun q => { q with startReq := false }) systems :=
    hedge.foldl fun _ _ h => .either h.setLast.escalated h.setLast
  have hgroups : StartKept (s.modSeq fun q => { q with startReq := false }) groups :=
    hedge.foldl fun _ _ h => .either h.setLast.reportGroup.escalated h.setLast.reportGroup
  have hstopped : StartKept (s.modSeq fun q => { q with startReq := false }) stopped := by
    refine hgroups.foldl fun _ _ h => .either h.grpdnAt ?_
    split
    · exact h.groupStop
    · exact h.groupStop
    · exact h.groupStop
    · exact h
  exact .either hsystems.systemReaction <| .either hedge.enterFalling <| .either hedge.modSeq <|
    hstopped.foldl fun _ _ h => .either h h.retryRail

/-- A fold that carries more than the state, every step of which leaves the start request. -/
theorem StartKept.foldl_fst {α β : Type} {f : State × β → α → State × β} {xs : List α} {a : State × β} (h : StartKept s a.1)
    (hf : ∀ a x, StartKept s a.1 → StartKept s (f a x).1) : StartKept s (xs.foldl f a).1 := by
  induction xs generalizing a with
  | nil => exact h
  | cons x xs ih => exact ih (hf a x h)

theorem State.faultSet_src {evs : List FaultEv} {grpdn : List Nat} :
    (s.faultSet evs grpdn true).supply = s.supply ∧ (s.faultSet evs grpdn true).seq.startReq = false := by
  unfold State.faultSet
  extract_lets pre r
  have hr : StartKept s r.1 := by
    refine StartKept.foldl_fst (a := (s, [], [])) .refl fun _ _ h => ?_
    exact h.takeFault
  have hcounted : StartKept s (r.1.countFaults pre r.2.1) := hr.also (bs := [.regs, .react, .nvm]) Within.refl.countFaults
  obtain ⟨hsupply, hreq⟩ := State.runReactions_src (s := r.1.countFaults pre r.2.1) (react := r.2.2) (grpdn := grpdn) (late := false)
  have hsettled : StartKept ((r.1.countFaults pre r.2.1).runReactions r.2.2 grpdn true false)
      ((r.1.countFaults pre r.2.1).runReactions r.2.2 grpdn true false).settle := StartKept.refl.settle
  exact ⟨hsettled.supply.trans (hsupply.trans hcounted.supply), hsettled.startReq.trans hreq⟩

/-- Edges with a source edge among them leave no start request, whatever state the sequencer is in. -/
theorem State.reactEdges_src {l : List Nat} {tmo : Bool} :
    (s.reactEdges l tmo true).supply = s.supply ∧ (s.reactEdges l tmo true).seq.startReq = false := by
  have hgated : StartKept s ((grpdnOf l).foldl State.grpdnAt (s.gateEdges l)) := StartKept.refl.gateEdges.foldl fun _ _ h => h.grpdnAt
  obtain ⟨hsupply, hreq⟩ := State.runReactions_src (s := (grpdnOf l).foldl State.grpdnAt (s.gateEdges l)) (react := []) (grpdn := [])
    (late := false)
  unfold State.reactEdges
  split
  · exact ⟨hsupply.trans hgated.supply, hreq⟩
  · exact State.faultSet_src

theorem Within.writeMarker (h : Within bs s₀ s) (hl : [.nvm] ⊆ bs := by decide) : Within bs s₀ s.writeMarker := h.also hl <| by
  unfold State.writeMarker
  exact either refl.mwrite.modNvm refl

theorem Within.logSrcEdge (h : Within bs s₀ s) (hl : [.nvm] ⊆ bs := by decide) : Within bs s₀ s.logSrcEdge :=
  h.also hl <| by
  unfold State.logSrcEdge State.logAbandon
  exact refl.modNvm.modNvm.writeMarker.flushCounters

end Sys2Proof.Machine
end

section
/-! SUPPORT. Obligation settled: the hand-over of the source pair. -/

namespace Sys2Proof.Machine

variable {s : State} {n : Nat} {high : Bool} {p : Port} {v : Word}

/-! ### One comparator of a channel -/

theorem State.comp_of_cmp {t : State} (h : t.cmp = s.cmp) : t.comp n high = s.comp n high := by
  unfold State.comp State.cmpCh
  rw [h]

theorem State.comp_modComp_same {f : Comp → Comp} (hn : n < s.cmp.ch.length) : (s.modComp n high f).comp n high = f (s.comp n high) := by
  cases high <;> simp [State.comp, State.cmpCh, State.modComp, State.modCmpCh, State.modCmp, modAt, hn]

theorem State.comp_modComp_other {f : Comp → Comp} : (s.modComp n (!high) f).comp n high = s.comp n high := by
  cases hch : s.cmp.ch[n]? <;> cases high <;>
    simp [State.comp, State.cmpCh, State.modComp, State.modCmpCh, State.modCmp, modAt, hch]

theorem State.modComp_length {f : Comp → Comp} : (s.modComp n high f).cmp.ch.length = s.cmp.ch.length := by
  simp [State.modComp, State.modCmpCh, State.modCmp, modAt]

theorem State.comp_setReg {a : Nat} : (s.setReg a v).comp n high = s.comp n high := rfl

theorem State.comp_setQ_same {b : Bool} (hn : n < s.cmp.ch.length) :
    ((s.setQ n high b).comp n high).out = (s.comp n high).out ∧ ((s.setQ n high b).comp n high).live = (s.comp n high).live := by
  unfold State.setQ
  extract_lets rise t
  have ht : t.comp n high = _ := State.comp_modComp_same hn
  split
  · rw [State.setLat, State.setRegBit, State.comp_setReg, ht]
    exact ⟨rfl, rfl⟩
  · rw [ht]
    exact ⟨rfl, rfl⟩

theorem State.comp_setQ_other {b : Bool} : (s.setQ n (!high) b).comp n high = s.comp n high := by
  unfold State.setQ
  dsimp only
  split
  · rw [State.setLat, State.setRegBit, State.comp_setReg, State.comp_modComp_other]
  · rw [State.comp_modComp_other]

theorem State.comp_setOut_same {b : Bool} (hn : n < s.cmp.ch.length) :
    ((s.setOut n high b).comp n high).out = b ∧ ((s.setOut n high b).comp n high).live = (s.comp n high).live := by
  have hset : (s.modComp n high fun c => { c with out := b }).comp n high = _ := State.comp_modComp_same hn
  unfold State.setOut
  dsimp only
  split
  · rw [hset]
    exact ⟨rfl, rfl⟩
  · obtain ⟨hout, hlive⟩ := State.comp_setQ_same (s := s.modComp n high fun c => { c with out := b }) (high := high) (b := b)
      (State.modComp_length.symm ▸ hn)
    rw [hout, hlive, hset]
    exact ⟨rfl, rfl⟩

theorem State.comp_setOut_other {b : Bool} : (s.setOut n (!high) b).comp n high = s.comp n high := by
  unfold State.setOut
  dsimp only
  split
  · rw [State.comp_modComp_other]
  · rw [State.comp_setQ_other, State.comp_modComp_other]

/-- A comparator that works at once, on an input that is not beyond its threshold, is off (R229). -/
theorem State.comp_follow_low (hn : n < s.cmp.ch.length) (hw : WorksNow s n high) (hlive : (s.comp n high).live = false) :
    ((s.follow n high).comp n high).out = false ∧ ((s.follow n high).comp n high).live = false := by
  obtain ⟨harmed, hhold, hblind, hmode, -⟩ := hw
  have hworks : ¬(!s.cmp.armed || (s.comp n high).holdTo.isSome || s.blind n high || decide (s.workMode n high ≠ 1)) = true := by
    simp [harmed, hhold, hblind, hmode]
  have hown : ((if (s.comp n high).out = false then s else s.setOut n high false).comp n high).out = false ∧
      ((if (s.comp n high).out = false then s else s.setOut n high false).comp n high).live = false := by
    split
    · exact ⟨‹_›, hlive⟩
    · obtain ⟨hout, hlive'⟩ := State.comp_setOut_same (s := s) (high := high) (b := false) hn
      exact ⟨hout, hlive'.trans hlive⟩
  unfold State.follow
  dsimp only
  rw [if_neg hworks]
  simp only [hlive, Bool.false_and]
  generalize (if (s.comp n high).out = false then s else s.setOut n high false) = u at hown ⊢
  split
  · rw [State.comp_setOut_other]
    exact hown
  · exact hown

/-- The input of the SRC comparator no longer beyond its threshold, as `srcRecover` finds it (R77, R229). -/
theorem srcRecover_answers (hlists : ListsWf s) (hsrc : s.srcCh = some n) (hn : n < 24) (hw : WorksNow s n false) :
    Answers .srcRecover s fun t => (t.comp n false).out = false ∧ (t.comp n false).live = false := by
  obtain ⟨-, hlength, -⟩ := hlists
  have hlen : n < s.cmp.ch.length := hlength ▸ hn
  have hcomp : (s.modComp n false fun c => { c with live := false }).comp n false = { s.comp n false with live := false } :=
    State.comp_modComp_same hlen
  have hother : (s.modComp n false fun c => { c with live := false }).comp n true = s.comp n true := State.comp_modComp_other (high := true)
  have hworks : WorksNow (s.modComp n false fun c => { c with live := false }) n false := by
    obtain ⟨harmed, hhold, hblind, hmode, hout⟩ := hw
    exact ⟨harmed, (congrArg Comp.holdTo hcomp).trans hhold, hblind, hmode, (congrArg Comp.out hother).trans hout⟩
  have hlow := State.comp_follow_low (State.modComp_length.symm ▸ hlen) hworks (congrArg Comp.live hcomp)
  have hwatch : Within [.supply, .pins, .regs, .seq, .react, .mrg, .nvm, .sched] (s.releaseIn n false) ((s.releaseIn n false).watch s) :=
    Within.refl.watch
  have hexec : exec .srcRecover s = .next ((s.releaseIn n false).watch s) := by
    simp only [exec, execSrcRecover, hsrc]
    rfl
  refine Answers.of_exec hexec rfl ?_
  rw [State.comp_of_cmp (hwatch.same .cmp)]
  exact hlow

/-! ### The pair's steps -/

theorem State.srcJudge_of_batt (h : s.seq.src = .batt) :
    s.srcJudge.seq.src = .batt ∧ s.srcJudge.seq.handovers = s.seq.handovers := by
  obtain ⟨hsrc, hcount, -⟩ := s.dwellJudge_seq
  unfold State.srcJudge
  split
  · exact ⟨h, rfl⟩
  · rw [h]
    exact ⟨hsrc.trans h, hcount⟩

/-- Entering the other source counts the hand-over (R286). -/
theorem State.srcEnter_batt (h : s.railOf .batt = some n) :
    (s.srcEnter true false).seq.src = .batt ∧ (s.srcEnter true false).seq.handovers = min 0xFFFF (s.seq.handovers + 1) := by
  have hrails : RailsOnly s (s.enterRamp n) := RailsOnly.refl.enterRamp
  have hevent (u : State) : (u.seqEvt 4).seq = u.seq := (Within.refl (bs := [.regs])).seqEvt.same .seq
  unfold State.srcEnter
  simp only [if_true, h, Bool.false_eq_true, if_false]
  obtain ⟨hsrc, hcount⟩ := State.srcJudge_of_batt (s := (((s.enterRamp n).modSeq fun q =>
      { q with src := .batt, dwell := false, dwellAcc := 0, srcFirst := true }).modSeq fun q =>
      { q with handovers := min 0xFFFF (q.handovers + 1) }).seqEvt 4) (congrArg Seq.src (hevent _))
  refine ⟨hsrc, hcount.trans ?_⟩
  rw [hevent, ← hrails.handovers]
  rfl

theorem bbmGapExpiry_answers (hbatt : s.railOf .batt = some n) (hcounts : s.seqCounts = true) (htime : s.seq.srcAt + s.seq.srcTmo ≤ s.ticks)
    (hgap : s.seq.src = .gapToBatt) (hon : s.canTurnOn n = true) (hstate : s.seq.state ≠ .falling)
    (hstop : s.seq.pendStop.toList.any s.due = false) :
    Answers .bbmGapExpiry s fun t => t.seq.src = .batt ∧ t.seq.handovers = min 0xFFFF (s.seq.handovers + 1) := by
  have hexec : exec .bbmGapExpiry s = .next (s.srcEnter true false) := by
    refine (if_neg ?_).trans ?_
    · cases hpend : s.seq.pendStop with
      | none => simp [hcounts, State.passed, htime, hstate]
      | some t =>
        have hlater : s.due t = false := by simpa [hpend] using hstop
        simp [hcounts, State.passed, htime, hstate, hlater]
    · simp only [hgap, if_true, hbatt, hon]
      rfl
  exact Answers.of_exec hexec rfl (State.srcEnter_batt hbatt)

theorem exec_bbmGapExpiry_stopping (h : s.seq.state = .falling ∨ s.seq.pendStop.toList.any s.due = true) : exec .bbmGapExpiry s = .next s := by
  refine if_pos ?_
  rcases h with hfalling | hdue
  · simp [hfalling]
  · cases hpend : s.seq.pendStop with
    | none => simp [hpend] at hdue
    | some t =>
      have hnow : s.due t = true := by simpa [hpend] using hdue
      simp [hnow]

theorem returnDwellExpiry_answers (hcounts : s.seqCounts = true) (hbatt : s.seq.src = .batt) (hdwell : s.seq.dwell = true)
    (htime : s.seq.srcAt + s.seq.srcTmo ≤ s.ticks) :
    Answers .returnDwellExpiry s fun t =>
      t.seq.src = .gapToMains ∧ t.seq.dwell = false ∧ t.seq.srcAt = s.ticks ∧ t.seq.srcTmo = s.regFld Reg.seqCfg 0 17 ∧ t.regs = s.regs := by
  obtain ⟨hsrc, hat, htmo, hdwell', -⟩ := s.srcLeave_spec false
  have hframe : Within [.pins, .seq, .mrg, .sched] s (s.srcLeave false) := Within.refl.srcLeave
  exact Answers.of_exec (if_pos ⟨hcounts, hbatt, hdwell, by simp [State.passed, htime]⟩) rfl ⟨hsrc, hdwell', hat, htmo, hframe.same .regs⟩

/-- HOLD_BATT leaves MAINS in the same step (R286). -/
theorem holdBattWrite_answers (hwf : Store.wf regDflt s.regs = true) (h : Reaches s p Reg.seqSrcCtrl) (hbit : bit v 0 = true)
    (hruns : s.seqRuns = true) (hup : s.seq.state = .up) (hmains : s.seq.src = .mains) :
    Answers (.holdBattWrite p v) s fun t => t.seq.src = .gapToBatt ∧ t.seq.srcAt = s.ticks ∧ bit (t.reg Reg.seqSrcCtrl) 0 = true := by
  have hreg : (s.setReg Reg.seqSrcCtrl (v &&& 1)).reg Reg.seqSrcCtrl = v &&& 1 := State.reg_setReg_same (h := hwf)
  have hbit' : bit (v &&& 1) 0 = true := by
    unfold bit at hbit ⊢
    simp [hbit]
  obtain ⟨hsrc, hat, -⟩ := (s.setReg Reg.seqSrcCtrl (v &&& 1)).srcLeave_spec true
  have hframe : Within [.pins, .seq, .mrg, .sched] (s.setReg Reg.seqSrcCtrl (v &&& 1)) ((s.setReg Reg.seqSrcCtrl (v &&& 1)).srcLeave true) :=
    Within.refl.srcLeave
  have hjudge : (s.setReg Reg.seqSrcCtrl (v &&& 1)).srcJudge = (s.setReg Reg.seqSrcCtrl (v &&& 1)).srcLeave true := by
    have hheld : (s.setReg Reg.seqSrcCtrl (v &&& 1)).holdBatt = true := (congrArg (bit · 0) hreg).trans hbit'
    generalize hu : s.setReg Reg.seqSrcCtrl (v &&& 1) = u at hheld ⊢
    have hseq : u.seq = s.seq := hu ▸ rfl
    have hruns' : u.seqRuns = true := hu ▸ hruns
    unfold State.srcJudge
    rw [hseq, hmains]
    simp [hruns', hup, hheld]
  refine Answers.of_exec (congrArg ok (State.access_rw h rfl rfl)) ((if_pos hruns).trans hjudge) ⟨hsrc, hat, ?_⟩
  have hregs : ((s.setReg Reg.seqSrcCtrl (v &&& 1)).srcLeave true).regs = (s.setReg Reg.seqSrcCtrl (v &&& 1)).regs := hframe.same .regs
  have hread : ((s.setReg Reg.seqSrcCtrl (v &&& 1)).srcLeave true).reg Reg.seqSrcCtrl = v &&& 1 :=
    (congrArg (fun r => Store.read regDflt r Reg.seqSrcCtrl) hregs).trans hreg
  rw [hread]
  exact hbit'

/-- The source edge taken and, outside bench mode, logged (R341). -/
def State.srcEdgeTaken (s : State) : State :=
  let t := s.modSupply fun p => { p with srcEdge := false }
  if s.boot.bench then t else t.logSrcEdge

theorem State.srcEdgeTaken_within (s : State) : Within [.supply, .nvm] s s.srcEdgeTaken :=
  .either Within.refl.modSupply Within.refl.modSupply.logSrcEdge

theorem State.srcEdgeTaken_srcEdge (s : State) : s.srcEdgeTaken.supply.srcEdge = false := by
  unfold State.srcEdgeTaken
  dsimp only
  split
  · rfl
  · exact congrArg Supply.srcEdge ((Within.refl (bs := [.nvm])).logSrcEdge.same .supply)

theorem State.srcEdgeTaken_seqRuns (s : State) : s.srcEdgeTaken.seqRuns = s.seqRuns :=
  (congrArg State.seqRuns s.srcEdgeTaken_within.eq_patch).trans rfl

/-- A source edge brings the reactions with it, and the fault edges of the same microsecond (R310, R311). -/
theorem State.exec_srcFaultEdge {b : Bool} (hedge : s.supply.srcEdge = true) (hawake : s.pwr.doze = false) (hruns : s.seqRuns = true) :
    ∃ (u : State) (l : List Nat) (tmo : Bool),
      u.supply = s.srcEdgeTaken.supply ∧ exec (.srcFaultEdge b) s = .next (u.reactEdges l tmo true) := by
  have hruns' : s.srcEdgeTaken.seqRuns = true := s.srcEdgeTaken_seqRuns.trans hruns
  change ∃ (u : State) (l : List Nat) (tmo : Bool), _ ∧ execSrcFaultEdge b s = .next (u.reactEdges l tmo true)
  unfold execSrcFaultEdge
  rw [if_neg (by simp [hedge, hawake])]
  change ∃ (u : State) (l : List Nat) (tmo : Bool), _ ∧ (if !s.srcEdgeTaken.seqRuns then _ else _) = _
  rw [if_neg (by simp [hruns'])]
  split
  · split
    next l t htake => exact ⟨t, l, true, ((Within.refl (bs := [.fab])).takeEdges htake).same .supply, rfl⟩
    · exact ⟨_, [], true, rfl, rfl⟩
  · exact ⟨_, [], false, rfl, rfl⟩

/-- A source edge withdraws the start request (R310). -/
theorem srcFaultEdge_answers {b : Bool} (hedge : s.supply.srcEdge = true) (hawake : s.pwr.doze = false) (hruns : s.seqRuns = true) :
    Answers (.srcFaultEdge b) s fun t => t.supply.srcEdge = false ∧ t.seq.startReq = false := by
  obtain ⟨u, l, tmo, hu, hexec⟩ := State.exec_srcFaultEdge (b := b) hedge hawake hruns
  obtain ⟨hsupply, hreq⟩ := State.reactEdges_src (s := u) (l := l) (tmo := tmo)
  exact Answers.of_exec hexec rfl ⟨(congrArg Supply.srcEdge (hsupply.trans hu)).trans s.srcEdgeTaken_srcEdge, hreq⟩

/-- Settles O32: the steps of the pair change rails and the pair alone, and no reaction to a source edge makes a start request. -/
theorem sourcePairCompletes : Obligations.SourcePairCompletes := by
  unfold Obligations.SourcePairCompletes
  exact ⟨fun s n => bbmGapExpiry_answers, fun s => exec_bbmGapExpiry_stopping, fun s => returnDwellExpiry_answers,
    fun s p v => holdBattWrite_answers, fun s b => srcFaultEdge_answers, fun s n => srcRecover_answers⟩

end Sys2Proof.Machine
end

section
/-! SUPPORT. Obligation settled: broadcasts, sleep and wake of a unit. -/

namespace Sys2Proof.Machine

variable {s : State} {a : Nat}

/-! ### Registers -/

/-- An event raised in a register of flags stands there. -/
theorem State.bit_raise {i : Nat} (hi : i < 32) (hwf : Store.wf regDflt s.regs = true) : bit ((s.raise a i).reg a) i = true := by
  have hreg : (s.raise a i).reg a = s.reg a ||| w32 (2 ^ i) := State.reg_setReg_same (h := hwf)
  rw [hreg, bit, BitVec.getLsbD_or, w32, BitVec.getLsbD_ofNat, Nat.testBit_two_pow_self]
  simp [hi]

/-- Registers cleared one after another read 0, and one that read 0 before still does. -/
theorem State.reg_foldl_clear {f : Nat → Nat} {ks : List Nat} (hwf : Store.wf regDflt s.regs = true) (h : a ∈ ks.map f ∨ s.reg a = 0) :
    (ks.foldl (fun t k => t.setReg (f k) 0) s).reg a = 0 := by
  induction ks generalizing s with
  | nil => simpa using h
  | cons k ks ih =>
    refine ih (State.wf_setReg (h := hwf)) ?_
    by_cases hk : f k = a
    · exact .inr (hk ▸ State.reg_setReg_same (h := hwf))
    · rw [State.reg_setReg_ne (h := hk)]
      exact h.imp_left fun hmem => (List.mem_cons.mp hmem).resolve_left (Ne.symm hk)

/-! ### Broadcasts -/

theorem linkRx_linkTx (l : List Byte) : linkRx (linkTx l) = some l := by
  simp [linkRx, linkTx, preamble]

theorem chainStarts_chainFrame (b : List Byte) : chainStarts (chainFrame b) = true := by
  simp [chainStarts, chainFrame, linkRx_linkTx]

theorem leAt_chainHead {ty seq : Nat} (hty : ty < 256) :
    leAt (chainHead ty 0x3F seq 0 0) 0 1 = ty ∧ leAt (chainHead ty 0x3F seq 0 0) 1 1 = 0x3F := by
  simp [leAt, chainHead, ofLe, b8]
  omega

/-- A broadcast new to the unit, counted, passed on and kept (R462, R464). -/
def State.heardBroadcast (s : State) (b : List Byte) : State :=
  (s.unitFrame.passFrame true (chainFrame b)).modUnit fun u => { u with lastBc := some b }

theorem State.takeBroadcast_new {b : List Byte} {ty : Nat} {f : State → State} (haddr : s.addressed = true) (hlive : s.unitLive = true)
    (hlen : 6 ≤ b.length) (hty : leAt b 0 1 = ty) (hall : leAt b 1 1 = 0x3F) (hnew : s.unit.lastBc ≠ some b) :
    s.takeBroadcast ty (chainFrame b) f = .next (f (s.heardBroadcast b)) := by
  have hhears : s.unitHears (chainFrame b) = true := by simp [State.unitHears, hlive, chainStarts_chainFrame]
  have haddr' : s.unitFrame.addressed = true := haddr
  unfold State.takeBroadcast
  rw [if_neg (by simp [hhears]), chainBody_chainFrame b hlen]
  dsimp only
  rw [if_neg (by simp [haddr']), if_neg ?_]
  · rfl
  · have hlast : (s.unitFrame.passFrame true (chainFrame b)).unit.lastBc = s.unit.lastBc := rfl
    simp [hty, hall, hlast, hnew]

theorem State.exec_broadcast {q ty : Nat} {f : State → State} (haddr : s.addressed = true) (hlive : s.unitLive = true) (hty : ty < 256)
    (hnew : s.unit.lastBc ≠ some (chainHead ty 0x3F q 0 0)) :
    s.takeBroadcast ty (chainFrame (chainHead ty 0x3F q 0 0)) f = .next (f (s.heardBroadcast (chainHead ty 0x3F q 0 0))) :=
  have ⟨htype, hall⟩ := leAt_chainHead (seq := q) hty
  State.takeBroadcast_new haddr hlive (by simp [chainHead, leBytes]) htype hall hnew

theorem State.heardBroadcast_within (s : State) (b : List Byte) : Within [.regs, .unit] s (s.heardBroadcast b) :=
  Within.refl.unitFrame.passFrame.modUnit

theorem State.heardBroadcast_unit (s : State) (b : List Byte) :
    (s.heardBroadcast b).unit.txU = chainFrame b ∧ (s.heardBroadcast b).unit.lastBc = some b :=
  ⟨rfl, rfl⟩

theorem State.heardBroadcast_wf {b : List Byte} (hwf : Store.wf regDflt s.regs = true) :
    Store.wf regDflt (s.heardBroadcast b).regs = true := State.wf_setReg (h := hwf)

/-- SNAP_NEXT asks for the next snapshot (R219). -/
theorem State.snapWrite_next (s : State) : s.snapWrite 2 = s.snapWaits := (if_neg (by decide)).trans (if_pos (by decide))

theorem chainSnap_answers {q : Nat} (hwf : Store.wf regDflt s.regs = true) (haddr : s.addressed = true) (hlive : s.unitLive = true)
    (hnew : s.unit.lastBc ≠ some (chainHead 0x20 0x3F q 0 0)) :
    Answers (.chainSnap (chainFrame (chainHead 0x20 0x3F q 0 0))) s fun t =>
      bit (t.reg Reg.resSnapStat) 1 = true ∧ t.unit.txU = chainFrame (chainHead 0x20 0x3F q 0 0) ∧
      t.unit.lastBc = some (chainHead 0x20 0x3F q 0 0) ∧ t.pins = s.pins := by
  have hheard := s.heardBroadcast_within (chainHead 0x20 0x3F q 0 0)
  have hwf' := State.heardBroadcast_wf (b := chainHead 0x20 0x3F q 0 0) hwf
  obtain ⟨htx, hlast⟩ := s.heardBroadcast_unit (chainHead 0x20 0x3F q 0 0)
  have hexec : exec (.chainSnap (chainFrame (chainHead 0x20 0x3F q 0 0))) s = .next ((s.heardBroadcast (chainHead 0x20 0x3F q 0 0)).snapWrite 2) :=
    State.exec_broadcast (f := fun t => t.snapWrite 2) haddr hlive (by decide) hnew
  rw [State.snapWrite_next] at hexec
  refine Answers.of_exec hexec rfl ?_
  clear hexec
  generalize s.heardBroadcast (chainHead 0x20 0x3F q 0 0) = u at hheard hwf' htx hlast ⊢
  have hsnap : Within [.regs] u u.snapWaits := Within.refl.setRegBit.setRegBit
  have hunit : u.snapWaits.unit = u.unit := hsnap.same .unit
  have hpins : u.snapWaits.pins = u.pins := hsnap.same .pins
  rw [hunit, hpins]
  exact ⟨(State.bit_snapWaits hwf').2, htx, hlast, hheard.same .pins⟩

/-- The balancing registers cleared, before the pins follow (R456). -/
def State.dutiesCleared (s : State) : State :=
  (List.range 8).foldl (fun t k => t.setReg (Reg.stackBalDuty k) 0) (s.setReg Reg.stackBalEn 0)

theorem State.dutiesCleared_reg (hwf : Store.wf regDflt s.regs = true) :
    s.dutiesCleared.reg Reg.stackBalEn = 0 ∧ ∀ k, k < 8 → s.dutiesCleared.reg (Reg.stackBalDuty k) = 0 :=
  have hwf' : Store.wf regDflt (s.setReg Reg.stackBalEn 0).regs = true := State.wf_setReg (h := hwf)
  ⟨State.reg_foldl_clear hwf' (.inr (State.reg_setReg_same (h := hwf))),
    fun _ hk => State.reg_foldl_clear hwf' (.inl (List.mem_map_of_mem (List.mem_range.mpr hk)))⟩

theorem State.balClear_within (s : State) : Within [.regs, .unit, .pins] s s.balClear := by
  have hregs : Within [.regs, .unit, .pins] s s.dutiesCleared := Within.foldl Within.refl.setReg fun _ _ h => h.setReg
  exact hregs.modUnit.balPins

/-- The balancing schedule is empty afterwards, and nothing else of the unit changes. -/
theorem State.balClear_unit (s : State) : s.balClear.unit = { s.unit with sched := [] } := by
  have hregs : Within [.regs] s s.dutiesCleared := Within.foldl Within.refl.setReg fun _ _ h => h.setReg
  have hunit : s.dutiesCleared.unit = s.unit := hregs.same .unit
  have hpins : Within [.pins] (s.dutiesCleared.modUnit fun u => { u with sched := [] }) s.balClear := Within.refl.balPins
  exact Eq.trans (hpins.same .unit) (congrArg (fun u : Unit_ => { u with sched := [] }) hunit)

theorem State.balClear_reg (hwf : Store.wf regDflt s.regs = true) :
    s.balClear.reg Reg.stackBalEn = 0 ∧ ∀ k, k < 8 → s.balClear.reg (Reg.stackBalDuty k) = 0 := by
  have hpins : Within [.unit, .pins] s.dutiesCleared s.balClear := Within.refl.modUnit.balPins
  have hreg (a : Nat) : s.balClear.reg a = s.dutiesCleared.reg a := congrArg (fun r => Store.read regDflt r a) (hpins.same .regs)
  obtain ⟨hen, hduty⟩ := State.dutiesCleared_reg hwf
  exact ⟨(hreg _).trans hen, fun k hk => (hreg _).trans (hduty k hk)⟩

theorem chainBaloff_answers {q : Nat} (hwf : Store.wf regDflt s.regs = true) (haddr : s.addressed = true) (hlive : s.unitLive = true)
    (hnew : s.unit.lastBc ≠ some (chainHead 0x21 0x3F q 0 0)) :
    Answers (.chainBaloff (chainFrame (chainHead 0x21 0x3F q 0 0))) s fun t =>
      t.reg Reg.stackBalEn = 0 ∧ t.unit.sched = [] ∧ (∀ k, k < 8 → t.reg (Reg.stackBalDuty k) = 0) ∧
      t.unit.txU = chainFrame (chainHead 0x21 0x3F q 0 0) ∧ t.role = s.role := by
  have hunit := (s.heardBroadcast (chainHead 0x21 0x3F q 0 0)).balClear_unit
  obtain ⟨hen, hduty⟩ := State.balClear_reg (State.heardBroadcast_wf (b := chainHead 0x21 0x3F q 0 0) hwf)
  have htx := (s.heardBroadcast_unit (chainHead 0x21 0x3F q 0 0)).1
  exact Answers.of_exec (State.exec_broadcast haddr hlive (by decide) hnew) rfl
    ⟨hen, congrArg Unit_.sched hunit, hduty, (congrArg Unit_.txU hunit).trans htx,
      Eq.trans ((State.balClear_within _).same .role) ((s.heardBroadcast_within _).same .role)⟩

/-! ### Sleep -/

/-- Stack sleep keeps MRAM and the fuse array, and the address is lost (R111, R470). -/
theorem State.enterSleep_spec (s : State) :
    s.enterSleep.pwr.sleep = true ∧ s.enterSleep.role.addrValid = false ∧ s.enterSleep.tb.running = false ∧ s.enterSleep.boot.stage = 0 ∧
      s.enterSleep.nvm.mram = s.nvm.mram ∧ s.enterSleep.svc.fuses = s.svc.fuses :=
  ⟨rfl, rfl, rfl, rfl, s.cleared_kept.mram, s.cleared_kept.fuses⟩

theorem chainSleep_answers {q : Nat} (haddr : s.addressed = true) (hlive : s.unitLive = true)
    (hnew : s.unit.lastBc ≠ some (chainHead 0x22 0x3F q 0 0)) :
    Answers (.chainSleep (chainFrame (chainHead 0x22 0x3F q 0 0))) s fun t =>
      t.pwr.sleep = true ∧ t.role.addrValid = false ∧ t.tb.running = false ∧ t.boot.stage = 0 ∧
      t.unit.txU = chainFrame (chainHead 0x22 0x3F q 0 0) ∧ t.nvm.mram = s.nvm.mram ∧ t.svc.fuses = s.svc.fuses := by
  have hheard := s.heardBroadcast_within (chainHead 0x22 0x3F q 0 0)
  have hnvm : (s.heardBroadcast (chainHead 0x22 0x3F q 0 0)).nvm = s.nvm := hheard.same .nvm
  have hsvc : (s.heardBroadcast (chainHead 0x22 0x3F q 0 0)).svc = s.svc := hheard.same .svc
  obtain ⟨hsleep, haddr', hrun, hstage, hmram, hfuses⟩ := (s.heardBroadcast (chainHead 0x22 0x3F q 0 0)).enterSleep_spec
  exact Answers.of_exec (State.exec_broadcast
      (f := fun t => t.enterSleep.passFrame true (chainFrame (chainHead 0x22 0x3F q 0 0))) haddr hlive (by decide) hnew) rfl
    ⟨hsleep, haddr', hrun, hstage, rfl, hmram.trans (congrArg Nvm.mram hnvm), hfuses.trans (congrArg Svc.fuses hsvc)⟩

theorem commTimeout_answers (hstk : s.isRole .stk = true) (hsilent : s.regFld Reg.stackUcfg 16 16 ≤ s.msSince s.unit.lastD) :
    Answers .commTimeout s fun t => t.pwr.sleep = true ∧ t.role.addrValid = false ∧ t.tb.running = false ∧ t.nvm.mram = s.nvm.mram := by
  obtain ⟨hsleep, haddr, hrun, -, hmram, -⟩ := s.enterSleep_spec
  exact Answers.of_exec (if_pos (by simp [hstk, hsilent])) rfl ⟨hsleep, haddr, hrun, hmram⟩

/-! ### Wake -/

/-- A wake starts stage 2 and shows its cause; a tone is passed on when it was one that woke the unit (R111, R471). -/
theorem State.wakeUp_spec (s : State) (cause : Nat) :
    (s.wakeUp cause).pwr.sleep = false ∧ (s.wakeUp cause).boot.stage = 2 ∧ (s.wakeUp cause).boot.wakeStart = true ∧
      (s.wakeUp cause).boot.stageAt = s.ticks ∧ (s.wakeUp cause).pwr.wakeCause = (s.pwr.wakeCause ||| BitVec.ofNat 5 (2 ^ cause)) ∧
      (s.wakeUp cause).unit.toneDue = decide (cause = 4) :=
  ⟨rfl, rfl, rfl, rfl, rfl, rfl⟩

theorem wakeToneDetect_asleep_answers (hsleep : s.pwr.sleep = true) :
    Answers .wakeToneDetect s fun t =>
      t.pwr.sleep = false ∧ t.boot.stage = 2 ∧ t.boot.wakeStart = true ∧ t.boot.stageAt = s.ticks ∧ t.pwr.wakeCause.getLsbD 4 = true ∧
      t.unit.toneDue = true := by
  obtain ⟨hawake, hstage, hstart, hat, hcause, htone⟩ := s.wakeUp_spec 4
  exact Answers.of_exec (if_pos hsleep) rfl ⟨hawake, hstage, hstart, hat, by simp [hcause], htone⟩

theorem stackWakePin_answers (hsleep : s.pwr.sleep = true) :
    Answers .stackWakePin s fun t =>
      t.pwr.sleep = false ∧ t.boot.stage = 2 ∧ t.boot.wakeStart = true ∧ t.boot.stageAt = s.ticks ∧ t.pwr.wakeCause.getLsbD 0 = true ∧
      t.unit.toneDue = false := by
  obtain ⟨hawake, hstage, hstart, hat, hcause, htone⟩ := (s.modPins fun p => { p with wakeN := false }).wakeUp_spec 0
  exact Answers.of_exec (if_pos hsleep) rfl ⟨hawake, hstage, hstart, hat, by simp [hcause], htone⟩

/-- Awake, a unit passes a tone on and shows it (R471). -/
theorem wakeToneDetect_awake_answers (hwf : Store.wf regDflt s.regs = true) (hawake : s.pwr.sleep = false) (hlive : s.unitLive = true) :
    Answers .wakeToneDetect s fun t =>
      t.unit.toneU = true ∧ bit (t.reg Reg.stackUevt) 1 = true ∧ t = { s with regs := t.regs, unit := t.unit } :=
  Answers.of_exec ((if_neg (by simp [hawake])).trans (if_pos hlive)) rfl
    ⟨rfl, State.bit_raise (by decide) hwf, (Within.refl (bs := [.regs, .unit])).modUnit.raise.eq_patch⟩

/-- Settles O53: a broadcast new to the unit acts after it is passed on; sleep and wake follow from what they clear and set. -/
theorem unitSleepsAndWakes : Obligations.UnitSleepsAndWakes := by
  unfold Obligations.UnitSleepsAndWakes
  exact ⟨fun s q hwf haddr hlive _ => ⟨chainSnap_answers hwf haddr hlive, chainBaloff_answers hwf haddr hlive, chainSleep_answers haddr hlive⟩,
    fun s => commTimeout_answers, fun s hsleep => ⟨wakeToneDetect_asleep_answers hsleep, stackWakePin_answers hsleep⟩,
    fun s => wakeToneDetect_awake_answers⟩

end Sys2Proof.Machine
end

section
/-! SUPPORT. Obligation settled: the level of a reset (spec/04_reset_controller.md R120 to R122). -/

namespace Sys2Proof.Machine

variable {s : State} {c : RstSource} {q : RstReq}

/-! ### The reasons that force a level (R122) -/

theorem State.levelFor_noTable (h : s.boot.shadowOk = false ∨ s.role.state = .safeIdle) : (s.levelFor q).1 = 0 :=
  Nat.le_zero.mp ((foldl_min_le Prod.fst _ _).2 (0, 2) (by rcases h with h | h <;> simp [h]))

theorem State.levelFor_bench (h : s.boot.bench = true) : (s.levelFor q).1 = 0 :=
  Nat.le_zero.mp ((foldl_min_le Prod.fst _ _).2 (0, 5) (by simp [h]))

theorem State.levelFor_shadowParity (h : q.shadowPar = true) : (s.levelFor q).1 = 0 :=
  Nat.le_zero.mp ((foldl_min_le Prod.fst _ _).2 (0, 1) (by simp [h]))

theorem State.levelFor_sram (h : s.rst.sramOk = false) : (s.levelFor q).1 ≤ 1 :=
  (foldl_min_le Prod.fst _ _).2 (1, 6) (by simp [h])

/-! ### The level of the fuse table (R120, R121) -/

theorem srcCode_eq_zero : srcCode c = 0 ↔ c = .por := by
  cases c <;> simp [srcCode]

theorem State.fuseLevel_mem (hok : s.boot.shadowOk = true) (hc : c ≠ .por) : s.fuseLevel (srcCode c) ∈ [1, 2, 3] := by
  have hcode : ¬(srcCode c = 0 ∨ (!s.boot.shadowOk) = true) := by simp [srcCode_eq_zero, hc, hok]
  rw [State.fuseLevel, if_neg hcode]
  split <;> decide

theorem State.fuseLevel_le_three (s : State) (k : Nat) : s.fuseLevel k ≤ 3 := by
  unfold State.fuseLevel
  split
  · omega
  · split <;> omega

/-- The fuse table gives no level beyond L3, and a reason only lowers the number. -/
theorem State.levelFor_le_three (s : State) (q : RstReq) : (s.levelFor q).1 ≤ 3 := by
  refine (foldl_min_le Prod.fst _ _).1.trans ?_
  have hfuse := s.fuseLevel_le_three (srcCode q.src)
  split
  · omega
  · split
    · exact hfuse
    · omega

/-- Settles O16: the level is the least of the fuse table's and of those that the reasons of R122 force, and the minimum of the
source is one of the reasons. -/
theorem resetLevelRules : Obligations.ResetLevelRules := fun s c =>
  ⟨s.levelFor_le (plainReq c), fun h => State.levelFor_noTable (.inl h), State.levelFor_bench,
    fun h => State.levelFor_noTable (.inr h), State.levelFor_sram, State.fuseLevel_mem⟩

end Sys2Proof.Machine
end

section
/-! SUPPORT. What the action of each level leaves and closes, and the reset that one request begins (spec/04_reset_controller.md R122 to
R127, R139; Table 4-6). -/

-- A lemma's default argument is ready only once its proof is: taken up all at once, the lemmas below would wait in a thread each.
set_option Elab.async false

namespace Sys2Proof.Machine

variable {bs : List Block} {s₀ s t : State} {l : Level} {q : RstReq}

/-! ### What a level's action leaves -/

/-- The reset in progress and its cause, the level of RESET_N and the watchdog's cause stay, and no SYSTEM reaction comes to wait for its
reset. -/
structure ResetKept (s t : State) : Prop where
  run : t.rst.run = s.rst.run
  cause : t.rst.cause = s.rst.cause
  resetN : t.pins.resetN = s.pins.resetN
  wcause : t.wdt.wcause = s.wdt.wcause
  sysEnd : s.react.sysEnd = none → t.react.sysEnd = none

namespace ResetKept

theorem refl : ResetKept s s := ⟨rfl, rfl, rfl, rfl, id⟩

/-- A change of other blocks. -/
theorem also (h : ResetKept s₀ s) (hw : Within bs s t)
    (hb : ∀ b ∈ [Block.rst, .pins, .wdt, .react], b ∉ bs := by decide) : ResetKept s₀ t where
  run := (congrArg RstRec.run (hw .rst (hb _ (by simp)))).trans h.run
  cause := (congrArg RstRec.cause (hw .rst (hb _ (by simp)))).trans h.cause
  resetN := (congrArg Pins.resetN (hw .pins (hb _ (by simp)))).trans h.resetN
  wcause := (congrArg Wdt.wcause (hw .wdt (hb _ (by simp)))).trans h.wcause
  sysEnd hs := (congrArg React.sysEnd (hw .react (hb _ (by simp)))).trans (h.sysEnd hs)

theorem modRst {f : RstRec → RstRec} (h : ResetKept s₀ s) (hrun : ∀ r, (f r).run = r.run := by exact fun _ => rfl)
    (hcause : ∀ r, (f r).cause = r.cause := by exact fun _ => rfl) : ResetKept s₀ (s.modRst f) :=
  { h with run := (hrun _).trans h.run, cause := (hcause _).trans h.cause }

theorem modPins {f : Pins → Pins} (h : ResetKept s₀ s) (hf : ∀ p, (f p).resetN = p.resetN := by exact fun _ => rfl) :
    ResetKept s₀ (s.modPins f) :=
  { h with resetN := (hf _).trans h.resetN }

theorem balPins (h : ResetKept s₀ s) : ResetKept s₀ s.balPins := by
  unfold State.balPins
  split
  · exact h.modPins
  · exact h

theorem mapPins (h : ResetKept s₀ s) : ResetKept s₀ (s.mapPins l) := { h with resetN := h.resetN }

theorem resetHif (h : ResetKept s₀ s) : ResetKept s₀ (s.resetHif l) := by
  have hopen : ResetKept s₀ ((s.modHif fun x => { Hif.init with txn := x.txn, irqImg := if l = .l3 then x.irqImg else false }).modRst fun r =>
      { r with hifUp := false }) :=
    (h.also (bs := [.hif]) Within.refl.modHif).modRst
  refine { hopen with wcause := Eq.trans ?_ hopen.wcause }
  cases l <;> rfl

theorem resetGen (h : ResetKept s₀ s) : ResetKept s₀ (s.resetGen l) := by
  cases l <;> exact h.modRst

theorem resetSeq (h : ResetKept s₀ s) : ResetKept s₀ s.resetSeq := { h with sysEnd := fun _ => rfl }

/-- The access paths, the ports and the links close (Table 4-6). -/
theorem resetPaths (h : ResetKept s₀ s) : ResetKept s₀ (s.resetPaths l) := by
  simp only [State.resetPaths]
  have hregs : ResetKept s₀ (if l = .l3 then (s.endRidgeProxy.resetRegs .l3).resetMirror else s) :=
    h.also (bs := [.free, .regs, .live, .liveImg, .ridge, .pair])
      (.either Within.refl.endRidgeProxy.resetRegs.resetMirror .refl)
  have hlinks : ResetKept s₀ (((((if l = .l3 then (s.endRidgeProxy.resetRegs .l3).resetMirror else s).resetHif l).resetRidge
      l).resetChain l).resetSvc l) :=
    hregs.resetHif.also (bs := [.regs, .seq, .ridge, .sched, .chain, .svc]) Within.refl.resetRidge.resetChain.resetSvc
  exact ((hlinks.resetGen.also (bs := [.nvm, .unit]) Within.refl.resetLog.modUnit).balPins.also (bs := [.role, .pwr, .img])
    Within.refl.modRole.modPwr.modImg).modRst

/-- The engines, the registers and the image clear. -/
theorem resetCore (h : ResetKept s₀ s) : ResetKept s₀ (s.resetCore l) := by
  simp only [State.resetCore]
  have hregs : ResetKept s₀ ((((s.resetCmp l).resetMeas).resetSeq.fabReset).resetRegs l) :=
    (h.also (bs := [.regs, .meas, .cmp]) Within.refl.resetCmp.resetMeas).resetSeq.also (bs := [.regs, .live, .liveImg, .fab])
      Within.refl.modFab.resetRegs
  have hlatched : ResetKept s₀ (if l = .l2 then ((((s.resetCmp l).resetMeas).resetSeq.fabReset).resetRegs l).relatch
      else (((s.resetCmp l).resetMeas).resetSeq.fabReset).resetRegs l) :=
    hregs.also (bs := [.regs]) (.either Within.refl.setReg.setReg .refl)
  exact ((((hlatched.also (bs := [.supply, .pwr, .img, .sched, .pair])
    Within.refl.resetImg.modSched.modPair.modSupply.modPwr).modRst).modPins).also (bs := [.boot])
    Within.refl.modBoot).mapPins

theorem assertLevel (h : ResetKept s₀ s) : ResetKept s₀ (s.assertLevel l) := by
  have hcore : ResetKept s₀ ((s.resetPaths l).resetCore l) := h.resetPaths.resetCore
  cases l with
  | l3 =>
    simp only [State.assertLevel]
    exact ((h.also (bs := [.liveImg, .img, .fab, .hif]) Within.refl.cancelOps).resetPaths).modPins
  | l2 => exact hcore.also (bs := [.role, .boot]) Within.refl.modRole.modBoot
  | l1 => exact hcore.also (bs := [.role, .img, .boot]) Within.refl.modRole.modImg.modBoot
  | l0 => exact ⟨hcore.run, hcore.cause, hcore.resetN, hcore.wcause, hcore.sysEnd⟩

end ResetKept

/-! ### What every level closes (Table 4-6) -/

/-- Every domain is held, no access path is open, and the link address is gone. -/
structure PathsClosed (t : State) : Prop where
  domains : t.rst.domains = 0
  hifUp : t.rst.hifUp = false
  attached : t.svc.attached = false
  addr : t.role.addr = 0

namespace PathsClosed

theorem also (h : PathsClosed s) (hw : Within bs s t) (hb : ∀ b ∈ [Block.rst, .svc, .role], b ∉ bs := by decide) : PathsClosed t where
  domains := (congrArg RstRec.domains (hw .rst (hb _ (by simp)))).trans h.domains
  hifUp := (congrArg RstRec.hifUp (hw .rst (hb _ (by simp)))).trans h.hifUp
  attached := (congrArg Svc.attached (hw .svc (hb _ (by simp)))).trans h.attached
  addr := (congrArg RoleRec.addr (hw .role (hb _ (by simp)))).trans h.addr

theorem modRst {f : RstRec → RstRec} (h : PathsClosed s) (hdomains : ∀ r, (f r).domains = r.domains := by exact fun _ => rfl)
    (hhif : ∀ r, (f r).hifUp = r.hifUp := by exact fun _ => rfl) : PathsClosed (s.modRst f) :=
  { h with domains := (hdomains _).trans h.domains, hifUp := (hhif _).trans h.hifUp }

theorem modRole {f : RoleRec → RoleRec} (h : PathsClosed s) (hf : (f s.role).addr = 0) : PathsClosed (s.modRole f) := { h with addr := hf }

theorem resetCore (h : PathsClosed s) : PathsClosed (s.resetCore l) := by
  simp only [State.resetCore]
  have hregs : PathsClosed ((((s.resetCmp l).resetMeas).resetSeq.fabReset).resetRegs l) :=
    h.also (bs := [.regs, .live, .liveImg, .fab, .supply, .seq, .react, .mrg, .meas, .cmp])
      Within.refl.resetCmp.resetMeas.resetSeq.modFab.resetRegs
  have hlatched : PathsClosed (if l = .l2 then ((((s.resetCmp l).resetMeas).resetSeq.fabReset).resetRegs l).relatch
      else (((s.resetCmp l).resetMeas).resetSeq.fabReset).resetRegs l) :=
    hregs.also (bs := [.regs]) (.either Within.refl.setReg.setReg .refl)
  exact ((hlatched.also (bs := [.supply, .pwr, .img, .sched, .pair])
    Within.refl.resetImg.modSched.modPair.modSupply.modPwr).modRst).also (bs := [.pins, .boot])
    Within.refl.modPins.modBoot.mapPins

end PathsClosed

/-- The host interface, the links, the chain ports and the service port as a level resets them. -/
def State.portsReset (s : State) (l : Level) : State := (((s.resetHif l).resetRidge l).resetChain l).resetSvc l

theorem State.portsReset_eq (s : State) (l : Level) : (((s.resetHif l).resetRidge l).resetChain l).resetSvc l = s.portsReset l := rfl

theorem State.portsReset_shut (s : State) (l : Level) :
    (s.portsReset l).rst.hifUp = false ∧ (s.portsReset l).svc.attached = false := by
  have hlinks : Within [.regs, .seq, .ridge, .sched, .chain, .svc] (s.resetHif l) (s.portsReset l) :=
    Within.refl.resetRidge.resetChain.resetSvc
  exact ⟨congrArg RstRec.hifUp (hlinks.same .rst), rfl⟩

theorem State.resetPaths_closed (s : State) (l : Level) : PathsClosed (s.resetPaths l) := by
  have hshut := (if l = .l3 then (s.endRidgeProxy.resetRegs .l3).resetMirror else s).portsReset_shut l
  simp only [State.resetPaths, State.portsReset_eq]
  generalize (if l = .l3 then (s.endRidgeProxy.resetRegs .l3).resetMirror else s).portsReset l = u at hshut ⊢
  obtain ⟨hhif, hattached⟩ := hshut
  have hgen : (u.resetGen l).rst.hifUp = false ∧ (u.resetGen l).svc.attached = false := by
    cases l <;> exact ⟨hhif, hattached⟩
  generalize u.resetGen l = v at hgen ⊢
  obtain ⟨hhif, hattached⟩ := hgen
  have hrest : Within [.nvm, .unit, .pins] v
      ((v.resetLog l).modUnit fun _ => { Unit_.init with lastD := (v.resetLog l).ticks }).balPins :=
    Within.refl.resetLog.modUnit.balPins
  exact ⟨rfl, (congrArg RstRec.hifUp (hrest.same .rst)).trans hhif, (congrArg Svc.attached (hrest.same .svc)).trans hattached, rfl⟩

theorem State.assertLevel_closed (s : State) (l : Level) : PathsClosed (s.assertLevel l) := by
  have hcore : PathsClosed ((s.resetPaths l).resetCore l) := (s.resetPaths_closed l).resetCore
  cases l with
  | l3 => exact (s.cancelOps.resetPaths_closed .l3).also (bs := [.pins]) Within.refl.modPins
  | l2 => exact (hcore.modRole hcore.addr).also (bs := [.boot]) Within.refl.modBoot
  | l1 => exact (hcore.modRole rfl).also (bs := [.img, .boot]) Within.refl.modImg.modBoot
  | l0 => exact ⟨hcore.domains, hcore.hifUp, hcore.attached, rfl⟩

/-! ### The reset that a request begins -/

/-- `RST_CAUSE` of one request alone (R139). -/
def State.reqCause (s : State) (q : RstReq) : Word :=
  pack [(0, 13, 1), (b2n (decide (q.src = .fabric ∧ q.sysreact = true)), 12, 1), ((s.levelFor q).2.2, 8, 4), ((s.levelFor q).2.1, 6, 2),
    ((s.levelFor q).1, 4, 2), (srcCode q.src, 0, 4)]

theorem State.fld_reqCause (s : State) (q : RstReq) :
    fld (s.reqCause q) 0 4 = srcCode q.src ∧ fld (s.reqCause q) 4 2 = (s.levelFor q).1 := by
  have hsrc := srcCode_lt q.src
  have hlevel := s.levelFor_le_three q
  constructor
  all_goals
    simp [State.reqCause, pack, fld, w32]
    omega

/-- `SYSREACT` in a cause word (Table 4-7's layout). -/
theorem bit_pack_sysreact (b : Bool) (why shown lvl src : Nat) :
    bit (pack [(0, 13, 1), (b2n b, 12, 1), (why, 8, 4), (shown, 6, 2), (lvl, 4, 2), (src, 0, 4)]) 12 = b := by
  rw [bit_eq_decide]
  cases b
  all_goals
    simp [pack, w32, b2n]
    omega

theorem State.bit_reqCause (s : State) (q : RstReq) : bit (s.reqCause q) 12 = decide (q.src = .fabric ∧ q.sysreact = true) :=
  bit_pack_sysreact _ _ _ _ _

/-- The state in which the reset of a request alone has begun at level l. -/
def State.begun (s : State) (q : RstReq) (l : Level) : State :=
  ((s.modRst fun r => { r with cause := s.reqCause q }).startReset l (decide (q.src = .clkfail) && s.clk.gated)).modRst fun r =>
    { r with sysArmed := decide (q.src = .fabric ∧ q.sysreact = true) }

theorem State.raiseReset_one (haon : s.supply.aon = true) (hfree : s.rst.run = none ∨ s.boot.retryEnd.isSome = true) :
    s.raiseReset [q] = s.begun q (if s.boot.retryEnd.isSome then .l0 else levelOf (s.levelFor q).1) := by
  have hbest : min 3 (s.levelFor q).1 = (s.levelFor q).1 := min_eq_right (s.levelFor_le_three q)
  have hfirst : ((List.range 12).findSome? fun k => [(q, s.levelFor q)].find? fun x =>
      decide (x.2.1 = (s.levelFor q).1) && decide (srcCode x.1.src = k)) = some (q, s.levelFor q) := by
    obtain ⟨src, _, _, _⟩ := q
    cases src <;> simp [List.range, List.range.loop, srcCode]
  unfold State.raiseReset
  simp only [haon, hbest, hfirst, List.map_cons, List.map_nil, List.foldl_cons, List.foldl_nil]
  by_cases hretry : s.boot.retryEnd.isSome = true
  · simp only [hretry, if_true]
    rfl
  · obtain hrun := hfree.resolve_right hretry
    simp only [hretry, hrun]
    rfl

/-- The end of DOZE gates no clock, and restarts the watchdog with its cause as it was (R110). -/
theorem State.endDoze_spec (s : State) :
    s.endDoze.clk.gated = s.clk.gated ∧ s.endDoze.wdt.wcause = s.wdt.wcause := by
  have hclk : ∀ u : State, u.scanResume.wdtRestart.clk = u.clk := fun u =>
    (Within.refl (bs := [.meas, .wdt])).scanResume.modWdt.same .clk
  have hwdt : ∀ u : State, u.scanResume.wdt = u.wdt := fun u => (Within.refl (bs := [.meas])).scanResume.same .wdt
  unfold State.endDoze
  split
  · exact ⟨(congrArg Clk.gated (hclk _)).trans rfl, (congrArg Wdt.wcause (hwdt _)).trans rfl⟩
  · exact ⟨rfl, rfl⟩

/-- With the clocks running, or at L0, the level acts at once (R127). -/
theorem State.startReset_acts {b : Bool} (h : l = .l0 ∨ s.clk.gated = false) :
    s.startReset l (b && s.clk.gated) = (s.resetBegun l true).assertLevel l := by
  rcases h with rfl | hgated
  · exact State.startReset_l0 _
  · have hruns : ¬((s.resetBegun l true).clk.gated = true ∧ l ≠ .l0) := by
      simp [State.resetBegun, s.endDoze_spec.1, hgated]
    rw [hgated, Bool.and_false]
    exact if_neg hruns

/-- What a reset that begins at level l by request q leaves: Table 4-6 for every level, R139 and R158. -/
structure Begins (q : RstReq) (l : Level) (s t : State) : Prop where
  run : t.rst.run = some { level := l, asserted := true, since := s.ticks }
  cause : t.rst.cause = s.reqCause q
  sysArmed : t.rst.sysArmed = decide (q.src = .fabric ∧ q.sysreact = true)
  closed : PathsClosed t
  resetN : t.pins.resetN = s.pins.resetN
  wcause : t.wdt.wcause = s.wdt.wcause
  sysEnd : s.react.sysEnd = none → t.react.sysEnd = none

/-- The state in which the level of request q acts. -/
def State.levelStarts (s : State) (q : RstReq) (l : Level) : State :=
  (s.modRst fun r => { r with cause := s.reqCause q }).resetBegun l true

theorem State.begun_eq (h : l = .l0 ∨ s.clk.gated = false) :
    s.begun q l = ((s.levelStarts q l).assertLevel l).modRst fun r =>
      { r with sysArmed := decide (q.src = .fabric ∧ q.sysreact = true) } :=
  congrArg (State.modRst · _) (State.startReset_acts h)

theorem State.begun_begins (h : l = .l0 ∨ s.clk.gated = false) : Begins q l s (s.begun q l) := by
  have hstart : Within [.clk, .pwr, .meas, .wdt, .rst] s (s.levelStarts q l) := Within.refl.modRst.endDoze.modRst
  have hrun : (s.levelStarts q l).rst.run = some (s.runOf l true) := State.resetBegun_run true
  have hcause : (s.levelStarts q l).rst.cause = s.reqCause q := State.resetBegun_cause true
  have hwcause : (s.levelStarts q l).wdt.wcause = s.wdt.wcause := (State.endDoze_spec _).2
  have hacts : ResetKept (s.levelStarts q l) ((s.levelStarts q l).assertLevel l) := ResetKept.refl.assertLevel
  rw [State.begun_eq h]
  exact {
    run := hacts.run.trans hrun
    cause := hacts.cause.trans hcause
    sysArmed := rfl
    closed := ((s.levelStarts q l).assertLevel_closed l).modRst
    resetN := hacts.resetN.trans (congrArg Pins.resetN (hstart.same .pins))
    wcause := hacts.wcause.trans hwcause
    sysEnd := fun hs => hacts.sysEnd ((congrArg React.sysEnd (hstart.same .react)).trans hs) }

/-- After L0 stage 1 runs and no retry waits; what failed and how often stays (R96, R126), and TEST is sampled (R46). -/
theorem State.begun_l0_boot (s : State) (q : RstReq) :
    (s.begun q .l0).boot.retryEnd = none ∧ (s.begun q .l0).boot.stage = 1 ∧ (s.begun q .l0).boot.retryCnt = s.boot.retryCnt ∧
      (s.begun q .l0).boot.failStage = s.boot.failStage ∧ (s.begun q .l0).pins.strapTest = s.pins.test := by
  have hstart : Within [.clk, .pwr, .meas, .wdt, .rst] s (s.levelStarts q .l0) := Within.refl.modRst.endDoze.modRst
  have hboot : (s.levelStarts q .l0).boot = s.boot := hstart.same .boot
  have hpins : (s.levelStarts q .l0).pins = s.pins := hstart.same .pins
  rw [State.begun_eq (.inl rfl), ← hboot, ← hpins]
  have hkept := (s.levelStarts q .l0).cleared_kept
  exact ⟨rfl, rfl, (congrArg Boot.retryCnt hkept.boot).trans rfl, (congrArg Boot.failStage hkept.boot).trans rfl, hkept.test⟩

theorem State.raiseReset_begins (h : Settled s) : Begins q (levelOf (s.levelFor q).1) s (s.raiseReset [q]) := by
  obtain ⟨haon, hrun, hretry, hgated⟩ := h
  rw [State.raiseReset_one haon (.inl hrun), hretry]
  exact State.begun_begins (.inr hgated)

theorem State.raiseReset_l0_strapTest (h : Settled s) (hl : (s.levelFor q).1 = 0) : (s.raiseReset [q]).pins.strapTest = s.pins.test := by
  obtain ⟨haon, hrun, hretry, -⟩ := h
  obtain ⟨-, -, -, -, htest⟩ := s.begun_l0_boot q
  rw [State.raiseReset_one haon (.inl hrun), hretry, hl]
  exact htest

/-- A source raised alone begins its reset as R122 says. -/
theorem Begins.resetBegins {c : RstSource} (h : Begins (plainReq c) (s.levelAlone c) s t) : ResetBegins c s t := by
  obtain ⟨hsource, hlevel⟩ := s.fld_reqCause (plainReq c)
  have hsmall := s.levelFor_le_three (plainReq c)
  refine ⟨h.run, ?_, ?_, h.closed.domains, h.closed.hifUp, h.closed.attached, h.closed.addr⟩
  · rw [h.cause, hsource]
    rfl
  · rw [h.cause, hlevel]
    omega

theorem State.raise1_begins (h : Settled s) : Begins (plainReq c) (s.levelAlone c) s (s.raise1 c) := State.raiseReset_begins h

end Sys2Proof.Machine
end

section
/-! SUPPORT. Obligations settled: the sources of a reset, and the retry wait (spec/04_reset_controller.md R114, R126; Table 4-1). -/

namespace Sys2Proof.Machine

variable {s : State} {c : RstSource}

/-! ### Each source (Table 4-1) -/

theorem pinReset_answers (h : Settled s) : Answers (.pinReset []) s fun t => ResetBegins .pin s t ∧ t.pins.resetN = false := by
  have hbegins : Begins (plainReq .pin) _ (s.modPins fun p => { p with resetN := false }) _ := State.raise1_begins h
  exact .of_exec rfl rfl ⟨hbegins.resetBegins, hbegins.resetN⟩

theorem parityError_answers (h : Settled s) : Answers (.parityError false []) s fun t => ResetBegins .parity s t :=
  .of_exec rfl rfl (State.raise1_begins (c := .parity) h).resetBegins

/-- The request of a parity error in the fuse shadow. -/
def shadowParity : RstReq := { src := .parity, minL := 2, shadowPar := true, sysreact := false }

/-- The request of an uncorrectable word in configuration SRAM. -/
def sramEcc : RstReq := { src := .ecc2, minL := 1, shadowPar := false, sysreact := false }

/-- The request at the end of a SYSTEM FALLING, with the restart or without. -/
def systemReset (restart : Bool) : RstReq := { src := .fabric, minL := 3, shadowPar := false, sysreact := restart }

/-- A parity error in the fuse shadow takes L0 (R123), which samples TEST (R46). -/
theorem parityError_shadow_answers (h : Settled s) :
    Answers (.parityError true []) s fun t =>
      t.rst.run = some { level := .l0, asserted := true, since := s.ticks } ∧ fld t.rst.cause 0 4 = 7 ∧ t.pins.strapTest = s.pins.test := by
  have hbegins : Begins shadowParity (levelOf (s.levelFor shadowParity).1) s (s.raiseReset [shadowParity]) := State.raiseReset_begins h
  have htest := s.raiseReset_l0_strapTest h (State.levelFor_shadowParity (q := shadowParity) rfl)
  rw [State.levelFor_shadowParity rfl] at hbegins
  exact .of_exec rfl rfl ⟨hbegins.run, (congrArg (fld · 0 4) hbegins.cause).trans (s.fld_reqCause shadowParity).1, htest⟩

theorem ecc2Error_answers (h : Settled s) : Answers (.ecc2Error false []) s fun t => ResetBegins .ecc2 s t :=
  .of_exec rfl rfl (State.raise1_begins (c := .ecc2) h).resetBegins

theorem ecc2Error_sram_answers (h : Settled s) :
    Answers (.ecc2Error true []) s fun t => fld t.rst.cause 0 4 = 8 ∧ fld t.rst.cause 4 2 ≤ 1 ∧ t.rst.domains = 0 := by
  have hbegins : Begins sramEcc (levelOf (s.levelFor sramEcc).1) s (s.raiseReset [sramEcc]) := State.raiseReset_begins h
  obtain ⟨hsource, hlevel⟩ := s.fld_reqCause sramEcc
  have hmin : (s.levelFor sramEcc).1 ≤ 1 := s.levelFor_le sramEcc
  rw [← hbegins.cause] at hsource hlevel
  exact .of_exec rfl rfl ⟨hsource, hlevel.trans_le hmin, hbegins.closed.domains⟩

/-- A write of `RST_CMD` that arrives goes to the command's rule, whichever path it takes (R140). -/
theorem exec_rstCmdWrite {p : Port} {v : Word} (hp : p ≠ .svc) (hreach : Reaches s p Reg.rstCmd) :
    exec (.rstCmdWrite p v []) s = .next (s.rstCmd v []) := by
  have haccess : s.access p Reg.rstCmd v = s.rstCmd v [] := by
    rw [State.access_wo hreach acc_rstCmd, State.cmdWrite, if_neg (by decide), if_pos rfl, if_neg hp]
  have hexec : exec (.rstCmdWrite p v []) s = .next (if s.hostResets p v then s.rstCmd v [] else s.access p Reg.rstCmd v) := rfl
  rw [hexec, haccess, ite_self]

theorem rstCmdWrite_answers {p : Port} {v : Word} (h : Settled s) (hp : p ≠ .svc) (hreach : Reaches s p Reg.rstCmd)
    (hkey : fld v 16 16 = 0xC1A0) (hgo : bit v 0 = true) : Answers (.rstCmdWrite p v []) s fun t => ResetBegins .host s t :=
  .of_exec (exec_rstCmdWrite hp hreach) (if_pos ⟨hkey, hgo⟩) (State.raise1_begins (c := .host) h).resetBegins

theorem rstCmdWrite_badKey_answers {p : Port} {v : Word} (hp : p ≠ .svc) (hreach : Reaches s p Reg.rstCmd) (hkey : fld v 16 16 ≠ 0xC1A0) :
    Answers (.rstCmdWrite p v []) s fun t => t = { s with rst := { s.rst with badKey := true } } :=
  .of_exec (exec_rstCmdWrite hp hreach) (if_neg fun hgo => hkey hgo.1) rfl

theorem State.takeEdges_eq {p : Nat → Bool} {k : List Nat} {u : State} (h : s.takeEdges p = some (k, u)) :
    ∃ es, u = s.modFab fun f => { f with edges := es } := by
  unfold State.takeEdges at h
  split at h
  · cases h
    exact ⟨_, rfl⟩
  · cases h

theorem fabSysReset_answers {u : State} {k : List Nat} (htake : s.takeEdges (· = 0x20) = some (k, u)) (h : Settled s) :
    Answers (.fabSysReset []) s fun t => ResetBegins .fabric s t := by
  have hexec : exec (.fabSysReset []) s = .next (u.raise1 .fabric) := by
    have hfab : exec (.fabSysReset []) s = execFabSysReset s [] := rfl
    rw [hfab, execFabSysReset, htake]
    rfl
  obtain ⟨es, rfl⟩ := State.takeEdges_eq htake
  have hbegins : Begins (plainReq .fabric) _ (s.modFab fun f => { f with edges := es }) _ := State.raise1_begins h
  exact .of_exec hexec rfl hbegins.resetBegins

theorem wdtDeadline_answers (h : Settled s) (hrun : s.wdt.run = true) (hover : s.wdt.since + s.wdtDeadline ≤ s.ticks) :
    Answers (.wdtDeadline []) s fun t => ResetBegins .wdt s t ∧ t.wdt.wcause = 1 := by
  have hbegins : Begins (plainReq .wdt) _ (s.modWdt fun w => { w with wcause := 1 }) _ := State.raise1_begins h
  exact .of_exec (if_pos (by simpa [hrun, State.passed] using hover)) rfl ⟨hbegins.resetBegins, hbegins.wcause⟩

/-- The state in which the end of a SYSTEM FALLING raises its reset: IDLE, and nothing waits any more (R158, R308). -/
def State.systemFallen (s : State) : State :=
  ((s.modReact fun r => { r with sysEnd := none }).modSeq fun q => { q with sysFall := false }).enterIdle

theorem exec_systemFabricReset {k : Nat} (hend : s.react.sysEnd = some k) (hrecord : s.recordSettled = true ∨ k + 50 ≤ s.ticks)
    (hfalling : s.seq.state = .falling) :
    exec (.systemFabricReset []) s = .next (s.systemFallen.raiseReset [systemReset s.react.restart]) := by
  have hsys : exec (.systemFabricReset []) s = execSystemFabricReset s [] := rfl
  rw [hsys, execSystemFabricReset, hend]
  refine if_neg ?_
  rcases hrecord with h | h <;> simp [h, hfalling, State.passed]

theorem systemFabricReset_answers {k : Nat} (hend : s.react.sysEnd = some k) (h : Settled s)
    (hrecord : s.recordSettled = true ∨ k + 50 ≤ s.ticks) (hfalling : s.seq.state = .falling) :
    Answers (.systemFabricReset []) s fun t =>
      fld t.rst.cause 0 4 = 6 ∧ bit t.rst.cause 12 = s.react.restart ∧ t.rst.domains = 0 ∧ t.react.sysEnd = none ∧
      t.rst.sysArmed = s.react.restart := by
  have hbegins : Begins (systemReset s.react.restart) _ s.systemFallen (s.systemFallen.raiseReset [systemReset s.react.restart]) :=
    State.raiseReset_begins h
  have hsource := (s.systemFallen.fld_reqCause (systemReset s.react.restart)).1
  have hrestart := s.systemFallen.bit_reqCause (systemReset s.react.restart)
  rw [← hbegins.cause] at hsource hrestart
  exact .of_exec (exec_systemFabricReset hend hrecord hfalling) rfl
    ⟨hsource, hrestart.trans (by simp [systemReset]), hbegins.closed.domains, hbegins.sysEnd rfl,
      hbegins.sysArmed.trans (by simp [systemReset])⟩

/-- Settles O13: each row raises its request in a state with no reset in progress, and a request that begins a reset holds every domain
and closes the access paths at whatever level it has (R122, Table 4-6). -/
theorem resetSourcesBeginResets : Obligations.ResetSourcesBeginResets :=
  ⟨fun _ => pinReset_answers, fun _ => parityError_answers, fun _ => parityError_shadow_answers, fun _ => ecc2Error_answers,
    fun _ => ecc2Error_sram_answers, fun _ _ _ => rstCmdWrite_answers, fun _ _ _ => rstCmdWrite_badKey_answers,
    fun _ _ _ => fabSysReset_answers, fun _ => wdtDeadline_answers, fun _ _ => systemFabricReset_answers⟩

/-! ### The retry wait (R126) -/

theorem State.raise1_retryWait (haon : s.supply.aon = true) (hretry : s.boot.retryEnd.isSome = true) :
    s.raise1 c = s.begun (plainReq c) .l0 := by
  rw [State.raise1, State.raiseReset_one haon (.inr hretry), if_pos hretry]

/-- A reset raised during the retry wait (R126). -/
structure RetryWaitEnded (c : RstSource) (s t : State) : Prop where
  retryEnd : t.boot.retryEnd = none
  stage : t.boot.stage = 1
  run : t.rst.run = some { level := .l0, asserted := true, since := s.ticks }
  source : fld t.rst.cause 0 4 = srcCode c
  retryCnt : t.boot.retryCnt = s.boot.retryCnt
  failStage : t.boot.failStage = s.boot.failStage

theorem State.raise1_endsRetryWait (haon : s.supply.aon = true) (hretry : s.boot.retryEnd.isSome = true) :
    RetryWaitEnded c s (s.raise1 c) := by
  have hbegins : Begins (plainReq c) .l0 s (s.begun (plainReq c) .l0) := State.begun_begins (.inl rfl)
  obtain ⟨hretryEnd, hstage, hcnt, hfail, -⟩ := s.begun_l0_boot (plainReq c)
  rw [State.raise1_retryWait haon hretry]
  exact ⟨hretryEnd, hstage, hbegins.run, (congrArg (fld · 0 4) hbegins.cause).trans (s.fld_reqCause _).1, hcnt, hfail⟩

/-- Settles O15: during the wait every request begins an L0 reset, whatever its level would be (log entry 8), and L0 keeps what failed and
how often. -/
theorem resetEndsTheRetryWait : Obligations.ResetEndsTheRetryWait := by
  refine ⟨fun s c haon hretry => ?raised, fun s haon hretry => ?pin⟩
  case raised =>
    have h := State.raise1_endsRetryWait (c := c) haon hretry
    exact ⟨h.retryEnd, h.stage, h.run, h.source, h.retryCnt, h.failStage⟩
  case pin =>
    have h := State.raise1_endsRetryWait (s := s.modPins fun p => { p with resetN := false }) (c := .pin) haon hretry
    exact .of_exec rfl rfl ⟨h.retryEnd, h.stage, h.source, h.retryCnt, h.failStage⟩

end Sys2Proof.Machine
end

section
/-! SUPPORT. Obligation settled: merged sources, L3 resets and block resets. -/

namespace Sys2Proof.Machine

/-- A broadcast STOP as the master has placed it in its frame, with the launch time that it chose (R373). -/
def placedStop : QueueCmd :=
  { cmd := { op := 2, dst := dstAll, cseq := 0, arg0 := earliestLaunch 0, arg1 := 0 }, chooseT := true, tries := 0, hcmd := false,
    proxy := false }

/-- A running master in the microsecond of its tick: the STOP is in burst A, and is the sequencer's own pending one (R373, R375). The fuse
table maps RESET_N to L3. The other blocks are those of the reset state. -/
def cutFrameMaster : State :=
  { State.reset with
      role := { RoleRec.init with role := .mst, state := .running }, boot := { Boot.init with stage := 7, shadowOk := true },
      svc := { Svc.init with shadow := Svc.init.shadow.set 6 8 }, rst := { RstRec.init with run := none, domains := 6, hifUp := true },
      seq := { Seq.init with pendStop := some (earliestLaunch 0) },
      ridge :=
        { Ridge.init with
            lstate := .master, m := { RMaster.init with lastTick := some State.reset.tb.now, burst := [placedStop], sentB := false } } }

/-- The same master after RESET_N. -/
def cutFrameReset : State := (cutFrameMaster.modPins fun p => { p with resetN := false }).raise1 .pin

theorem exec_pinReset_cutFrameMaster : exec (.pinReset []) cutFrameMaster = .next cutFrameReset := rfl

theorem settled_cutFrameMaster : Settled cutFrameMaster := ⟨rfl, rfl, rfl, rfl⟩

theorem levelFor_cutFrameMaster : (cutFrameMaster.levelFor (plainReq .pin)).1 = 3 := by decide +kernel

/-- The cut frame has not carried the STOP: it goes back to the queue, and is pending no longer (R135, Table 11-13). -/
theorem pendStop_cutFrameReset : cutFrameReset.seq.pendStop = none := by decide +kernel

/-- Refutes O14: an L3 reset on a master cuts the frame in progress (R135), and a command whose launch time the master chose goes back to
the queue for a new one (Table 11-13). Where it is the sequencer's own pending STOP it is withdrawn there, so that the sequencer does
not stay as it was. -/
theorem not_mergedAndSmallResets : ¬ Obligations.MergedAndSmallResets := by
  rintro ⟨-, ⟨hl3, -⟩, -⟩
  obtain ⟨t, hexec, hseq, -⟩ := hl3 cutFrameMaster settled_cutFrameMaster rfl levelFor_cutFrameMaster rfl (by decide)
  obtain rfl : cutFrameReset = t := by simpa [exec_pinReset_cutFrameMaster] using hexec
  have hkept : cutFrameReset.seq.pendStop = cutFrameMaster.seq.pendStop := congrArg Seq.pendStop hseq
  rw [pendStop_cutFrameReset] at hkept
  cases hkept

end Sys2Proof.Machine
end

section
/-! SUPPORT. Obligation settled: the sequencer's timers (spec/08_rail_sequencer.md R265, R273, R274, R278;
spec/09_fault_reactions_and_margining.md R304, R309, R311). -/

namespace Sys2Proof.Machine

variable {s : State} {n : Nat}

/-! ### Delays that stand, and what comes before them (R265, R278) -/

theorem State.railOn_of_stopped (h : s.seqCounts = false ∨ s.stopDue n = true) : s.railOn n = s := by
  unfold State.railOn
  rw [if_pos]
  rcases h with h | h <;> simp [h]

theorem exec_rampInWindow_stopped (h : s.seqCounts = false ∨ s.stopDue n = true ∨ s.edgeWaits n = true) :
    exec (.rampInWindow n) s = .next s := by
  have hexec : exec (.rampInWindow n) s = execRampInWindow n s := rfl
  rw [hexec, execRampInWindow]
  split
  · rw [if_neg]
    · rfl
    · rcases h with h | h | h <;> simp [h]
  · rfl

theorem exec_railOffInstant_stopped (h : s.seqCounts = false ∨ s.edgeWaits n = true) : exec (.railOffInstant n) s = .next s := by
  have hexec : exec (.railOffInstant n) s = execRailOffInstant n s := rfl
  rw [hexec, execRailOffInstant]
  split
  · rfl
  next hcounts =>
    rcases h with h | h
    · simp [h] at hcounts
    · rw [if_pos h]
      rfl

theorem exec_retryGapExpiry_stopped (h : s.seqCounts = false ∨ s.stopDue n = true) : exec (.retryGapExpiry n) s = .next s :=
  if_pos (by rcases h with h | h <;> simp [h])

theorem exec_rampTimeout_stopped (h : s.seqCounts = false) : exec (.rampTimeout n false) s = .next s :=
  if_pos (by simp [State.rampOver, h])

theorem exec_dischTimeout_stopped (h : s.seqCounts = false) : exec (.dischTimeout n) s = .next s := if_neg (by simp [h])

theorem exec_bbmGapExpiry_stopped (h : s.seqCounts = false) : exec .bbmGapExpiry s = .next s := if_pos (by simp [h])

theorem exec_returnDwellExpiry_stopped (h : s.seqCounts = false) : exec .returnDwellExpiry s = .next s := if_neg (by simp [h])

/-! ### The ends of the times -/

theorem minOffExpiry_answers (hruns : s.seqRuns = true) (hstate : s.seq.state = .downHold) (hreq : s.seq.startReq = false)
    (hover : s.seq.downAt + s.seq.minOff ≤ s.ticks) :
    Answers .minOffExpiry s fun t => t.seq.state = .idle ∧ t.seq.restartT = none ∧ t.pins = s.pins ∧ t.seq.rails = s.seq.rails :=
  .of_exec ((if_neg (by simp [hruns, hstate])).trans <| (if_pos (by simp [hreq])).trans <| if_pos (by simpa [State.passed] using hover)) rfl
    ⟨rfl, rfl, rfl, rfl⟩

theorem State.reactAt_modReactAt_same {f : ReactRail → ReactRail} (hn : n < s.react.rails.length) :
    (s.modReactAt n f).reactAt n = f (s.reactAt n) := by
  simp [State.reactAt, State.modReactAt, modAt, hn]

theorem State.reactAt_modReactAt_ne {f : ReactRail → ReactRail} {m : Nat} (hm : m ≠ n) : (s.modReactAt n f).reactAt m = s.reactAt m := by
  simp [State.reactAt, State.modReactAt, modAt, hm.symm]

theorem forgiveExpiry_answers (hn : n < s.react.rails.length) (hforgive : s.forgive n ≠ 0) (hon : s.rstate n = .on)
    (hover : (s.railAt n).onAt + s.forgive n ≤ s.ticks) :
    Answers (.forgiveExpiry n) s fun t =>
      (t.reactAt n).used = 0 ∧ (∀ m, m ≠ n → t.reactAt m = s.reactAt m) ∧ t = { s with react := { s.react with rails := t.react.rails } } :=
  .of_exec (if_pos ⟨hforgive, hon, by simpa [State.passed] using hover⟩) rfl
    ⟨by rw [State.reactAt_modReactAt_same hn], fun _ => State.reactAt_modReactAt_ne, rfl⟩

theorem sysForgiveExpiry_answers (hruns : s.seqRuns = true) (hup : s.seq.state = .up) (hforgive : s.regFld Reg.reactSys 24 8 ≠ 0)
    (hover : s.seq.upAt + 1000000 * s.regFld Reg.reactSys 24 8 ≤ s.ticks) :
    Answers .sysForgiveExpiry s fun t => t = { s with react := { s.react with sysCnt := 0 } } :=
  .of_exec (if_pos ⟨hruns, hup, by omega, by simpa [State.passed] using hover⟩) rfl rfl

/-- Settles O31: each row asks first whether the delays advance, and then whether what comes before it in the same cycle is still due
(R265, R278). -/
theorem sequencerTimersComplete : Obligations.SequencerTimersComplete := by
  refine ⟨⟨fun s => minOffExpiry_answers, fun s n hn hlists => ?forgive, fun s => sysForgiveExpiry_answers⟩,
    fun s n hcounts => ?stands, fun s n hstop => ?stop, fun s n hedge => ?edge⟩
  case forgive =>
    obtain ⟨-, -, -, -, hlength, -⟩ := hlists
    exact forgiveExpiry_answers (hlength ▸ hn)
  case stands =>
    exact ⟨congrArg ok (State.railOn_of_stopped (.inl hcounts)), exec_rampInWindow_stopped (.inl hcounts), exec_rampTimeout_stopped hcounts,
      exec_railOffInstant_stopped (.inl hcounts), exec_dischTimeout_stopped hcounts, exec_retryGapExpiry_stopped (.inl hcounts),
      exec_bbmGapExpiry_stopped hcounts, exec_returnDwellExpiry_stopped hcounts⟩
  case stop =>
    exact ⟨congrArg ok (State.railOn_of_stopped (.inr hstop)), exec_rampInWindow_stopped (.inr (.inl hstop)),
      exec_retryGapExpiry_stopped (.inr hstop)⟩
  case edge => exact ⟨exec_rampInWindow_stopped (.inr (.inr hedge)), exec_railOffInstant_stopped (.inr hedge)⟩

end Sys2Proof.Machine
end

section
/-! SUPPORT. The exit of ADOPT (spec/04_reset_controller.md R153 to R158): what the classification, the reactions and the held commands of
the exit may change, and that none of them begins ADOPT again. -/

-- A lemma's default argument is ready only once its proof is: taken up all at once, the lemmas below would wait in a thread each.
set_option Elab.async false

namespace Sys2Proof.Machine

variable {bs : List Block} {s₀ s t : State} {n : Nat}

/-! ### Operations that change rails alone -/

namespace RailsOnly

theorem eitherFst {α : Type} {c : Prop} [Decidable c] {x y : State × α} (hx : RailsOnly s x.1) (hy : RailsOnly s y.1) :
    RailsOnly s (if c then x else y).1 := by
  split
  · exact hx
  · exact hy

theorem enterOn (h : RailsOnly s₀ s) : RailsOnly s₀ (s.enterOn n) := h.goRail.also (bs := [.nvm]) Within.refl.countEvent

theorem enterDischarge (h : RailsOnly s₀ s) : RailsOnly s₀ (s.enterDischarge n) := either h.offRail h.offRail.modRail

theorem raise {a i : Nat} (h : RailsOnly s₀ s) : RailsOnly s₀ (s.raise a i) := h.also (bs := [.regs]) Within.refl.raise

theorem setLast {r : Nat} (h : RailsOnly s₀ s) : RailsOnly s₀ (s.setLast n r) := h.also (bs := [.react]) Within.refl.setLast

/-- The fault of one rail. -/
theorem takeFault {e : FaultEv} (h : RailsOnly s₀ s) : RailsOnly s₀ (s.takeFault e).1 := by
  unfold State.takeFault
  refine eitherFst h ?_
  dsimp only
  split
  · exact eitherFst h.modRail.raise.setEn.enterOn.raise.setLast h.modRail.raise.offRail
  · exact eitherFst h.raise.setLast (eitherFst h.offRail.modRail h.offRail)
  · exact h.modRail.enterDischarge
  · exact h

theorem holdSource {old : State} (h : RailsOnly s₀ s) : RailsOnly s₀ (s.holdSource old) := by
  unfold State.holdSource
  refine either h ?_
  split
  · exact either h (either (h.takeFault.also (bs := [.regs, .react, .nvm]) Within.refl.countFaults) h.takeFault)
  · exact h

/-- The classification of one rail (Table 4-13). -/
theorem adoptRail {l : List (BitVec 24 × BitVec 24 × BitVec 24)} (h : RailsOnly s₀ s) : RailsOnly s₀ (s.adoptRail l n) := by
  unfold State.adoptRail
  dsimp only
  split
  · exact h.goRail.modRail
  · exact h
  · exact h
  · exact either h.offRail.modRail h.offRail
  · exact either h.offRail.modRail h.goRail
  · exact either h.offRail.modRail (either h.offRail (either h.setEn.goRail h.offRail.modRail))

end RailsOnly

theorem Within.adoptRail {l : List (BitVec 24 × BitVec 24 × BitVec 24)} (h : Within bs s₀ s)
    (hl : [.pins, .seq, .mrg, .sched] ⊆ bs := by decide) : Within bs s₀ (s.adoptRail l n) := h.also hl <| by
  unfold State.adoptRail
  dsimp only
  split
  · exact refl.goRail.modRail
  · exact refl
  · exact refl
  · exact either refl.offRail.modRail refl.offRail
  · exact either refl.offRail.modRail refl.goRail
  · exact either refl.offRail.modRail (either refl.offRail (either refl.setEn.goRail refl.offRail.modRail))

/-! ### No operation begins ADOPT -/

/-- The start-up's record, the role and the progress of ADOPT stay, and the sequencer is in ADOPT only where it was so before. -/
structure NoNewAdopt (s t : State) : Prop where
  boot : t.boot = s.boot
  role : t.role = s.role
  samples : t.rst.adopt = s.rst.adopt
  adopt : t.seq.state = .adopt → s.seq.state = .adopt

namespace NoNewAdopt

theorem refl : NoNewAdopt s s := ⟨rfl, rfl, rfl, id⟩

theorem trans {u : State} (h : NoNewAdopt s t) (h' : NoNewAdopt t u) : NoNewAdopt s u :=
  ⟨h'.boot.trans h.boot, h'.role.trans h.role, h'.samples.trans h.samples, fun hu => h.adopt (h'.adopt hu)⟩

/-- A change of other blocks. -/
theorem also (h : NoNewAdopt s₀ s) (hw : Within bs s t) (hb : ∀ b ∈ [Block.boot, .role, .rst, .seq], b ∉ bs := by decide) :
    NoNewAdopt s₀ t :=
  h.trans ⟨hw .boot (hb _ (by simp)), hw .role (hb _ (by simp)), congrArg RstRec.adopt (hw .rst (hb _ (by simp))),
    fun ht => (congrArg Seq.state (hw .seq (hb _ (by simp)))).symm.trans ht⟩

/-- A change of the sequencer that keeps its state, with other blocks. -/
theorem sameState (h : NoNewAdopt s₀ s) (hs : t.seq.state = s.seq.state) (hw : Within bs s t)
    (hb : ∀ b ∈ [Block.boot, .role, .rst], b ∉ bs := by decide) : NoNewAdopt s₀ t :=
  h.trans ⟨hw .boot (hb _ (by simp)), hw .role (hb _ (by simp)), congrArg RstRec.adopt (hw .rst (hb _ (by simp))),
    fun ht => hs.symm.trans ht⟩

theorem modRst {f : RstRec → RstRec} (h : NoNewAdopt s₀ s) (hf : ∀ r, (f r).adopt = r.adopt := by exact fun _ => rfl) :
    NoNewAdopt s₀ (s.modRst f) :=
  h.trans ⟨rfl, rfl, hf _, id⟩

/-- A change of the sequencer that keeps its state. -/
theorem modSeq {f : Seq → Seq} (h : NoNewAdopt s₀ s) (hf : ∀ q, (f q).state = q.state := by exact fun _ => rfl) :
    NoNewAdopt s₀ (s.modSeq f) :=
  h.trans ⟨rfl, rfl, rfl, fun ht => (hf _).symm.trans ht⟩

/-- A change of the sequencer's state to one that is not ADOPT. -/
theorem leave {f : Seq → Seq} (h : NoNewAdopt s₀ s) (hf : ∀ q, (f q).state ≠ .adopt := by exact fun _ => nofun) :
    NoNewAdopt s₀ (s.modSeq f) :=
  h.trans ⟨rfl, rfl, rfl, fun ht => absurd ht (hf _)⟩

theorem either {c : Prop} [Decidable c] {u : State} (ht : NoNewAdopt s t) (hu : NoNewAdopt s u) : NoNewAdopt s (if c then t else u) := by
  split
  · exact ht
  · exact hu

theorem foldl {α : Type} {f : State → α → State} {xs : List α} (h : NoNewAdopt s t)
    (hf : ∀ t x, NoNewAdopt s t → NoNewAdopt s (f t x)) :
    NoNewAdopt s (xs.foldl f t) := by
  induction xs generalizing t with
  | nil => exact h
  | cons x xs ih => exact ih (hf t x h)

theorem setReg {a : Nat} {v : Word} (h : NoNewAdopt s₀ s) : NoNewAdopt s₀ (s.setReg a v) := h.also (bs := [.regs]) Within.refl.setReg

theorem raise {a i : Nat} (h : NoNewAdopt s₀ s) : NoNewAdopt s₀ (s.raise a i) := h.setReg

theorem modRidge {f} (h : NoNewAdopt s₀ s) : NoNewAdopt s₀ (s.modRidge f) := h.also (bs := [.ridge]) Within.refl.modRidge

theorem modReact {f} (h : NoNewAdopt s₀ s) : NoNewAdopt s₀ (s.modReact f) := h.also (bs := [.react]) Within.refl.modReact

theorem modReactAt {f} (h : NoNewAdopt s₀ s) : NoNewAdopt s₀ (s.modReactAt n f) := h.modReact

theorem modSched {f} (h : NoNewAdopt s₀ s) : NoNewAdopt s₀ (s.modSched f) := h.also (bs := [.sched]) Within.refl.modSched

/-! #### Rails -/

theorem modRail {f} (h : NoNewAdopt s₀ s) : NoNewAdopt s₀ (s.modRail n f) := h.modSeq

theorem setEn {b : Bool} (h : NoNewAdopt s₀ s) : NoNewAdopt s₀ (s.setEn n b) :=
  h.sameState (bs := [.pins, .seq]) RailsOnly.refl.setEn.state Within.refl.setEn

theorem goRail {st : RailState} (h : NoNewAdopt s₀ s) : NoNewAdopt s₀ (s.goRail n st) :=
  h.sameState (bs := [.seq, .mrg, .sched]) RailsOnly.refl.goRail.state Within.refl.goRail

theorem offRail {st : RailState} (h : NoNewAdopt s₀ s) : NoNewAdopt s₀ (s.offRail n st) := h.setEn.goRail

theorem enterOn (h : NoNewAdopt s₀ s) : NoNewAdopt s₀ (s.enterOn n) := h.goRail.also (bs := [.nvm]) Within.refl.countEvent

/-- A STOP at one rail. -/
theorem stopRail {o : BitVec 32} {all : Bool} (h : NoNewAdopt s₀ s) : NoNewAdopt s₀ (s.stopRail o all n) := by
  unfold State.stopRail
  dsimp only
  split
  · split
    · exact h.offRail
    · exact h.goRail
    · exact h
  · split
    · exact h.goRail
    · exact h.goRail
    · exact h.goRail.modRail
    · exact h.goRail.modRail
    · exact either h.modRail h
    · exact h

theorem stopSource (h : NoNewAdopt s₀ s) : NoNewAdopt s₀ (s.stopSource n) := by
  unfold State.stopSource
  split
  · exact h.goRail
  · exact h.goRail
  · exact h.goRail
  · exact h

theorem leaveState (h : NoNewAdopt s₀ s) : NoNewAdopt s₀ s.leaveState := by
  unfold State.leaveState
  split
  · have hback : NoNewAdopt s₀ s.mrgBackAll := h.also (bs := [.mrg]) Within.refl.mrgBackAll
    exact hback.foldl fun _ _ h => either h.offRail h
  · exact h.also (bs := [.regs, .meas, .cmp]) Within.refl.wetAbort
  · exact h

theorem srcJudge (h : NoNewAdopt s₀ s) : NoNewAdopt s₀ s.srcJudge :=
  h.sameState (bs := [.pins, .seq, .mrg, .sched]) s.srcJudge_state Within.refl.srcJudge

/-! #### Commands on the ridge -/

theorem cancelOwn {c : RidgeCmd} (h : NoNewAdopt s₀ s) : NoNewAdopt s₀ (s.cancelOwn c) := by
  refine either h (h.modSeq fun q => ?_)
  split <;> rfl

theorem setCmdErr {c : Nat} (h : NoNewAdopt s₀ s) : NoNewAdopt s₀ (s.setCmdErr c) := h.modSeq

theorem refuseLaunch {c : Nat} (h : NoNewAdopt s₀ s) : NoNewAdopt s₀ (s.refuseLaunch c) := h.setCmdErr.raise

/-- A command that finds no place is dropped, and withdrawn where it is the sequencer's own. -/
theorem dropCmd {q : QueueCmd} (h : NoNewAdopt s₀ s) : NoNewAdopt s₀ (s.dropCmd q) := by
  unfold State.dropCmd
  extract_lets noted own event host polled
  have hown : NoNewAdopt s₀ own := either h.raise.cancelOwn.setCmdErr h.raise
  have hevent : NoNewAdopt s₀ event := either hown.setReg.raise hown
  have hhost : NoNewAdopt s₀ host := either hevent.setReg.setReg hevent
  have hpolled : NoNewAdopt s₀ polled := either hhost.modSched hhost
  exact either hpolled.setReg.setReg.modRidge hpolled

theorem cascade {op : Nat} {o : Option (BitVec 32)} {a : Word} (h : NoNewAdopt s₀ s) : NoNewAdopt s₀ (s.cascade op o a) :=
  either h.dropCmd h.modRidge

theorem cascadeReaction {op : Nat} {a : Word} (h : NoNewAdopt s₀ s) : NoNewAdopt s₀ (s.cascadeReaction op a) := h.cascade.raise

/-! #### The sequencer's transitions -/

theorem enterUp (h : NoNewAdopt s₀ s) : NoNewAdopt s₀ s.enterUp := h.leave.raise

theorem enterIdle (h : NoNewAdopt s₀ s) : NoNewAdopt s₀ s.enterIdle := h.leave.raise

theorem enterDownHold (h : NoNewAdopt s₀ s) : NoNewAdopt s₀ s.enterDownHold := by
  unfold State.enterDownHold
  have hrails : NoNewAdopt s₀ (railNums.foldl (fun t n => if t.rstate n = .faulted then t.offRail n .off else t) s) :=
    h.foldl fun _ _ h => either h.offRail h
  exact hrails.modReact.setReg.leave

theorem masterRestart (h : NoNewAdopt s₀ s) : NoNewAdopt s₀ s.masterRestart := by
  unfold State.masterRestart
  extract_lets noted
  have hnoted : NoNewAdopt s₀ noted := either h.modSeq h
  refine either h ?_
  split
  · exact either hnoted (either hnoted.modSeq.cascade hnoted.cascade)
  · exact hnoted

theorem settle (h : NoNewAdopt s₀ s) : NoNewAdopt s₀ s.settle := by
  unfold State.settle
  extract_lets settled
  have hsettled : NoNewAdopt s₀ settled := h.foldl fun _ _ h => either h.modSeq h
  split
  · exact either hsettled.enterUp hsettled
  · exact either hsettled (either (either hsettled hsettled.modReact) hsettled.enterDownHold.masterRestart)
  · exact hsettled

theorem groupStop {o : BitVec 32} {g : Nat} (h : NoNewAdopt s₀ s) : NoNewAdopt s₀ (s.groupStop o g) :=
  either h (settle (h.modSeq.foldl fun _ _ h => either h.stopRail h))

theorem groupRise {o : BitVec 32} {g : Nat} (h : NoNewAdopt s₀ s) : NoNewAdopt s₀ (s.groupRise o g) := by
  have hrails : NoNewAdopt s₀ (railNums.foldl (fun t n =>
      if t.grouped n ∧ t.group n = g then
        let t := (t.modReactAt n fun r => { r with used := 0 }).clearPo n
        if t.rstate n = .off ∨ t.rstate n = .faulted then
          if t.slotted n then (t.offRail n .waitOn).modRail n fun r => { r with inst := o + t.onDelay n }
          else t.offRail n .off
        else t
      else t) s) :=
    h.foldl fun _ _ h => either (either (either h.modReactAt.setReg.offRail.modRail h.modReactAt.setReg.offRail) h.modReactAt.setReg) h
  exact hrails.modSeq.settle

theorem grpdnAt {g : Nat} (h : NoNewAdopt s₀ s) : NoNewAdopt s₀ (s.grpdnAt g) := by
  unfold State.grpdnAt
  split
  · exact h.groupStop
  · exact h.groupStop
  · exact h.groupStop
  · exact h.modSeq
  · exact h.modSeq
  · exact h
  · exact h

theorem enterFalling {ts : BitVec 32} {system : Bool} (h : NoNewAdopt s₀ s) : NoNewAdopt s₀ (s.enterFalling ts system) := by
  unfold State.enterFalling
  exact either h.modSeq.settle (settle (leave (h.leaveState.setReg.raise.foldl fun _ _ h => either h.stopSource h.stopRail)))

theorem enterRising {t0 : BitVec 32} (h : NoNewAdopt s₀ s) : NoNewAdopt s₀ (s.enterRising t0) := by
  unfold State.enterRising
  exact settle (leave (h.leaveState.setReg.setReg.setReg.foldl fun _ _ h => either h.offRail.modRail h))

/-! #### Reactions -/

theorem setLast {r : Nat} (h : NoNewAdopt s₀ s) : NoNewAdopt s₀ (s.setLast n r) := h.modReactAt

theorem escalated (h : NoNewAdopt s₀ s) : NoNewAdopt s₀ (s.escalated n) := h.modReactAt.raise

theorem retryRail (h : NoNewAdopt s₀ s) : NoNewAdopt s₀ (s.retryRail n) :=
  (h.modReactAt.setLast.goRail.modRail.raise).also (bs := [.nvm]) Within.refl.countEvent

theorem systemReaction (h : NoNewAdopt s₀ s) : NoNewAdopt s₀ s.systemReaction := by
  unfold State.systemReaction
  extract_lets cnt again counted noted casc
  have hnoted : NoNewAdopt s₀ noted := h.modReact.modRidge
  have hcasc : NoNewAdopt s₀ casc := either hnoted.cascadeReaction hnoted
  exact hcasc.enterFalling

theorem reportGroup {g : Nat} (h : NoNewAdopt s₀ s) : NoNewAdopt s₀ (s.reportGroup g) := by
  unfold State.reportGroup
  extract_lets noted toggled
  have htoggled : NoNewAdopt s₀ toggled := h.raise.modRidge.modRidge
  exact either htoggled.cascadeReaction htoggled

theorem runReactions {react grpdn : List Nat} {src late : Bool} (h : NoNewAdopt s₀ s) :
    NoNewAdopt s₀ (s.runReactions react grpdn src late) := by
  unfold State.runReactions
  extract_lets dec sys live withdrawn shown edge systems grp groups mask named stopped
  have hshown : NoNewAdopt s₀ shown := h.modSeq.raise.modRidge
  have hedge : NoNewAdopt s₀ edge := either (either hshown.cascadeReaction hshown) h
  have hsystems : NoNewAdopt s₀ systems := hedge.foldl fun _ _ h => either h.setLast.escalated h.setLast
  have hgroups : NoNewAdopt s₀ groups := hedge.foldl fun _ _ h => either h.setLast.reportGroup.escalated h.setLast.reportGroup
  have hstopped : NoNewAdopt s₀ stopped := by
    refine hgroups.foldl fun _ _ h => either h.grpdnAt ?_
    split
    · exact h.groupStop
    · exact h.groupStop
    · exact h.groupStop
    · exact h
  exact either hsystems.systemReaction <| either hedge.enterFalling <| either hedge.modSeq <|
    hstopped.foldl fun _ _ h => either h h.retryRail

theorem countFaults {pre : State} {evs : List FaultEv} (h : NoNewAdopt s₀ s) : NoNewAdopt s₀ (s.countFaults pre evs) :=
  h.also (bs := [.regs, .react, .nvm]) Within.refl.countFaults

theorem ignoreAdopted (h : NoNewAdopt s₀ s) : NoNewAdopt s₀ (s.ignoreAdopted n) :=
  either h.raise.setLast (either h.raise.setLast.offRail h.raise.setLast.setEn.enterOn)

theorem runDeferred {pre : State} {late : Bool} (h : NoNewAdopt s₀ s) : NoNewAdopt s₀ (s.runDeferred pre late) := by
  unfold State.runDeferred
  extract_lets codeOf evs marked counted due ignored
  have hcounted : NoNewAdopt s₀ counted := countFaults (h.foldl fun _ _ h => h.modRail)
  have hignored : NoNewAdopt s₀ ignored := hcounted.foldl fun _ _ h => either h.ignoreAdopted h
  exact hignored.runReactions.settle

/-! #### Commands held -/

theorem startAt {o : BitVec 32} {fab ridge : Bool} (h : NoNewAdopt s₀ s) : NoNewAdopt s₀ (s.startAt o fab ridge) := by
  unfold State.startAt
  extract_lets cleared req
  have hcleared : NoNewAdopt s₀ cleared := either h h.modReact
  refine either h.refuseLaunch ?_
  split
  · exact hcleared.modSeq.enterRising
  · exact hcleared.modSeq
  · exact hcleared.modSeq
  · exact hcleared.modSeq
  · exact either hcleared.modSeq.enterRising hcleared.modSeq.masterRestart
  · exact hcleared.refuseLaunch
  · exact hcleared.modSeq

theorem stopAt {o : BitVec 32} (h : NoNewAdopt s₀ s) : NoNewAdopt s₀ (s.stopAt o) := by
  unfold State.stopAt
  extract_lets noReq
  have hnoReq : NoNewAdopt s₀ noReq := h.modSeq
  split
  · exact hnoReq
  · exact hnoReq
  · exact hnoReq.modSeq
  · exact hnoReq.enterFalling
  · exact hnoReq.enterFalling
  · exact h.modSeq
  · exact h.modSeq

theorem grpStartAt {o : BitVec 32} {g : Nat} (h : NoNewAdopt s₀ s) : NoNewAdopt s₀ (s.grpStartAt o g) := by
  unfold State.grpStartAt
  split
  · exact either h.groupRise h.refuseLaunch
  · exact either h.groupRise h.refuseLaunch
  · exact h.modSeq
  all_goals exact h.refuseLaunch

theorem grpStopAt {o : BitVec 32} {g : Nat} (h : NoNewAdopt s₀ s) : NoNewAdopt s₀ (s.grpStopAt o g) := by
  unfold State.grpStopAt
  split
  · exact h.groupStop
  · exact h.groupStop
  · exact h.modSeq
  all_goals exact h.refuseLaunch

theorem runHeld (h : NoNewAdopt s₀ s) : NoNewAdopt s₀ s.runHeld := by
  unfold State.runHeld
  extract_lets grp stop start cleared groups
  have hgroups : NoNewAdopt s₀ groups := h.modSeq.foldl fun _ _ h => either h.grpdnAt (either h.grpStopAt h.grpStartAt)
  clear_value start
  refine either hgroups.stopAt ?_
  cases start
  · exact hgroups
  · exact hgroups.startAt

theorem armRestart (h : NoNewAdopt s₀ s) : NoNewAdopt s₀ s.armRestart := by
  unfold State.armRestart
  extract_lets t0 armed
  have harmed : NoNewAdopt s₀ armed := h.modRst
  exact either h (either harmed.cascade harmed)

/-! #### The watch and the classification -/

theorem watch {old : State} (h : NoNewAdopt s₀ s) : NoNewAdopt s₀ (s.watch old) := by
  have hsrc : NoNewAdopt s₀ (s.watchSrc old) := h.also (bs := [.supply]) Within.refl.watchSrc
  have hrails : RailsOnly s (s.tracked old).guardTrip := (s.tracked_rails old).guardTrip
  have hguarded : NoNewAdopt s₀ (s.tracked old).guardTrip :=
    h.sameState (bs := [.supply, .pins, .seq, .mrg, .sched]) hrails.state Within.refl.tracked.guardTrip
  unfold State.watch
  exact either hsrc (hguarded.sameState (bs := [.pins, .regs, .seq, .react, .mrg, .nvm, .sched]) RailsOnly.refl.holdSource.state
    Within.refl.holdSource).srcJudge

theorem adoptRail {l : List (BitVec 24 × BitVec 24 × BitVec 24)} (h : NoNewAdopt s₀ s) : NoNewAdopt s₀ (s.adoptRail l n) :=
  h.sameState (bs := [.pins, .seq, .mrg, .sched]) RailsOnly.refl.adoptRail.state Within.refl.adoptRail

/-- The classification of the source pair (R154). -/
theorem adoptPair {l : List (BitVec 24 × BitVec 24 × BitVec 24)} (h : NoNewAdopt s₀ s) : NoNewAdopt s₀ (s.adoptPair l) := by
  have htake : ∀ (t : State) (n : Nat) (st : SrcState), NoNewAdopt s₀ t → NoNewAdopt s₀
      (if (t.railAt n).deferred.isSome then t.adoptFault n
        else if !(sampled l n).1 then t.offRail n .off
        else if (sampled l n).2.1 && (sampled l n).2.2 then (t.adoptOn n).modSeq fun q => { q with src := st, srcFirst := true, dwell := false }
        else t.adoptFault n) := fun _ _ _ h =>
    either h.offRail.modRail (either h.offRail (either (modSeq (h.setEn.goRail)) h.offRail.modRail))
  unfold State.adoptPair
  split
  · exact htake _ _ _ (htake _ _ _ h.modSeq)
  · exact h

end NoNewAdopt

/-! ### The exit of ADOPT (R155) -/

/-- The rails and the source pair classified, and the samples done with. -/
def State.classified (s : State) (l : List (BitVec 24 × BitVec 24 × BitVec 24)) : State :=
  (((railNums.foldl (State.adoptRail l) s).adoptPair l).modRst fun r => { r with adopt := none }).modPair fun p =>
    { p with adoptFrom := none }

/-- A rail under the sequencer has been found on. -/
def State.someAdopted (s : State) : Bool := (railNums.any fun n => s.slotted n && decide (s.rstate n = .on)) || s.srcRail.isSome

/-- Every rail under the sequencer has been found on. -/
def State.allAdopted (s : State) : Bool :=
  (railNums.all fun n => !s.slotted n || decide (s.rstate n = .on)) && (!s.hasPair || s.srcRail.isSome)

/-- The device state that the exit takes. -/
def State.adoptLeft (s : State) : State :=
  if s.allAdopted && s.someAdopted then s.enterUp
  else if s.someAdopted then (s.modSeq fun q => { q with state := .rising }).enterFalling s.tb.now false
  else s.enterIdle

theorem State.adoptExit_eq (s : State) (l : List (BitVec 24 × BitVec 24 × BitVec 24)) :
    s.adoptExit l = ((s.classified l).adoptLeft.runDeferred s true).srcJudge.runHeld.armRestart := rfl

theorem State.classified_spec (s : State) (l : List (BitVec 24 × BitVec 24 × BitVec 24)) :
    (s.classified l).boot = s.boot ∧ (s.classified l).role = s.role ∧ (s.classified l).rst.adopt = none := by
  have hrails : NoNewAdopt s ((railNums.foldl (State.adoptRail l) s).adoptPair l) :=
    (NoNewAdopt.refl.foldl fun _ _ h => h.adoptRail).adoptPair
  exact ⟨hrails.boot, hrails.role, rfl⟩

/-- Each of the three exits of R155 leaves ADOPT. -/
theorem State.adoptLeft_spec (s : State) : NoNewAdopt s s.adoptLeft ∧ s.adoptLeft.seq.state ≠ .adopt := by
  unfold State.adoptLeft
  split
  · exact ⟨.enterUp .refl, nofun⟩
  · split
    · have hfalling : NoNewAdopt (s.modSeq fun q => { q with state := .rising })
          ((s.modSeq fun q => { q with state := .rising }).enterFalling s.tb.now false) := .enterFalling .refl
      exact ⟨.trans (.leave .refl) hfalling, fun ht => nomatch hfalling.adopt ht⟩
    · exact ⟨.enterIdle .refl, nofun⟩

/-- Whatever the classification finds, the sample at 40 µs ends ADOPT. -/
theorem State.adoptExit_watch_spec (s : State) (l : List (BitVec 24 × BitVec 24 × BitVec 24)) :
    ((s.adoptExit l).watch s).rst.adopt = none ∧ ((s.adoptExit l).watch s).boot = s.boot ∧ ((s.adoptExit l).watch s).role = s.role ∧
      ((s.adoptExit l).watch s).seq.state ≠ .adopt := by
  obtain ⟨hboot, hrole, hsamples⟩ := s.classified_spec l
  obtain ⟨hleft, hout⟩ := (s.classified l).adoptLeft_spec
  have hrest : NoNewAdopt (s.classified l).adoptLeft ((s.adoptExit l).watch s) := by
    rw [State.adoptExit_eq]
    exact NoNewAdopt.refl.runDeferred.srcJudge.runHeld.armRestart.watch
  have hall := hleft.trans hrest
  exact ⟨hall.samples.trans hsamples, hall.boot.trans hboot, hall.role.trans hrole, mt hrest.adopt hout⟩

end Sys2Proof.Machine
end

section
/-! SUPPORT. Obligation settled: the samples and the exit of ADOPT, and the restart after a SYSTEM reaction. -/

-- A lemma's default argument is ready only once its proof is: taken up all at once, the lemmas below would wait in a thread each.
set_option Elab.async false

namespace Sys2Proof.Machine

variable {s t : State} {n m : Nat} {a : AdoptRun} {x y : BitVec 24 × BitVec 24 × BitVec 24}
  {l : List (BitVec 24 × BitVec 24 × BitVec 24)}

/-! ### One rail -/

theorem State.railAt_of_seq (h : t.seq = s.seq) : t.railAt n = s.railAt n := by
  rw [State.railAt, h, State.railAt]

theorem State.railAt_modRail (f : Rail → Rail) :
    (s.modRail n f).railAt m = if m = n ∧ n < s.seq.rails.length then f (s.railAt m) else s.railAt m := by
  by_cases hmn : n = m
  · subst hmn
    by_cases hlen : n < s.seq.rails.length <;> simp [State.railAt, State.modRail, State.modSeq, modAt, hlen]
  · simp [State.railAt, State.modRail, State.modSeq, modAt, hmn, Ne.symm hmn]

theorem State.modRail_length (f : Rail → Rail) : (s.modRail n f).seq.rails.length = s.seq.rails.length := by
  simp [State.modRail, State.modSeq, modAt]

/-- A rail that takes a state moves no other rail, and has its EN and its deferred fault as before. -/
theorem State.goRail_seq (s : State) (n : Nat) (st : RailState) :
    (s.goRail n st).seq = (s.modRail n fun r =>
      { r with state := st, onAt := if st = .on ∧ s.rstate n ≠ .on then s.ticks else r.onAt }).seq := by
  unfold State.goRail
  extract_lets old moved closed
  split
  · split
    · exact (Within.refl (bs := [.sched, .mrg]) (s := moved)).modSched.modDac.same .seq
    · rfl
  · rfl

theorem State.railAt_goRail (st : RailState) :
    (s.goRail n st).railAt m = if m = n ∧ n < s.seq.rails.length then
      { s.railAt m with state := st, onAt := if st = .on ∧ s.rstate n ≠ .on then s.ticks else (s.railAt m).onAt } else s.railAt m := by
  rw [State.railAt_of_seq (s.goRail_seq n st), State.railAt_modRail]

theorem State.goRail_length (st : RailState) : (s.goRail n st).seq.rails.length = s.seq.rails.length := by
  rw [s.goRail_seq n st, State.modRail_length]

theorem State.setEn_seq (b : Bool) (h : s.hasEn n = true) : (s.setEn n b).seq = (s.modRail n fun r => { r with en := b }).seq := by
  rw [State.setEn, if_pos h]
  rfl

theorem State.railAt_setEn (b : Bool) (h : s.hasEn n = true) :
    (s.setEn n b).railAt m = if m = n ∧ n < s.seq.rails.length then { s.railAt m with en := b } else s.railAt m := by
  rw [State.railAt_of_seq (State.setEn_seq b h), State.railAt_modRail]

/-- A rail that ADOPT finds at fault is off and FAULTED, and no other rail moves (R154). -/
theorem State.adoptFault_spec (hen : s.hasEn n = true) (hlen : n < s.seq.rails.length) :
    (s.adoptFault n).rstate n = .faulted ∧ ((s.adoptFault n).railAt n).en = false ∧
      ∀ m, m ≠ n → (s.adoptFault n).railAt m = s.railAt m := by
  have hset : (s.setEn n false).seq.rails.length = s.seq.rails.length := by rw [State.setEn_seq false hen, State.modRail_length]
  have hoff : (s.offRail n .faulted).seq.rails.length = s.seq.rails.length := (State.goRail_length _).trans hset
  refine ⟨?_, ?_, fun m hm => ?_⟩
  · rw [State.rstate, State.adoptFault, State.railAt_modRail, if_pos ⟨rfl, hoff ▸ hlen⟩, State.offRail, State.railAt_goRail,
      if_pos ⟨rfl, hset ▸ hlen⟩]
  · rw [State.adoptFault, State.railAt_modRail, if_pos ⟨rfl, hoff ▸ hlen⟩, State.offRail, State.railAt_goRail, if_pos ⟨rfl, hset ▸ hlen⟩,
      State.railAt_setEn false hen, if_pos ⟨rfl, hlen⟩]
  · have hother (k : Nat) : ¬(m = n ∧ n < k) := fun h => hm h.1
    rw [State.adoptFault, State.railAt_modRail, if_neg (hother _), State.offRail, State.railAt_goRail, if_neg (hother _),
      State.railAt_setEn false hen, if_neg (hother _)]

theorem Within.adoptFault {bs : List Block} {s₀ : State} (h : Within bs s₀ s) (hl : [.pins, .seq, .mrg, .sched] ⊆ bs := by decide) :
    Within bs s₀ (s.adoptFault n) := h.also hl refl.offRail.modRail

theorem State.railOf_eq_some {k : RKind} (h : s.railOf k = some n) : n < 24 ∧ s.rkind n = k := by
  obtain ⟨hkind, hmem⟩ := And.intro (List.find?_some h) (List.mem_of_find?_eq_some h)
  exact ⟨List.mem_range.mp hmem, of_decide_eq_true hkind⟩

theorem State.hasEn_of_batt (h : s.rkind n = .batt) : s.hasEn n = true := by
  rw [State.hasEn, h]

/-! ### The samples (R153, R154) -/

/-- The state with the samples taken. -/
def State.sampledAs (s : State) (a : AdoptRun) (l : List (BitVec 24 × BitVec 24 × BitVec 24)) : State :=
  s.modRst fun r => { r with adopt := some { a with samples := l } }

theorem exec_adoptSample_first (hadopt : s.rst.adopt = some a) (hsamples : a.samples = []) (hover : a.since + 20 ≤ s.ticks) :
    exec .adoptSample s = .next (s.sampledAs a [s.adoptRead]) := by
  have hexec : exec .adoptSample s = execAdoptSample s := rfl
  simp only [hexec, execAdoptSample, hadopt, hsamples]
  exact if_pos (by simpa [State.passed] using hover)

theorem exec_adoptSample_second (hadopt : s.rst.adopt = some a) (hsamples : a.samples = [x]) (hover : a.since + 30 ≤ s.ticks) :
    exec .adoptSample s = .next ((s.sampledAs a [x, s.adoptRead]).adoptBoth [x, s.adoptRead]) := by
  have hexec : exec .adoptSample s = execAdoptSample s := rfl
  simp only [hexec, execAdoptSample, hadopt, hsamples]
  exact if_pos (by simpa [State.passed] using hover)

theorem exec_adoptSample_third (hadopt : s.rst.adopt = some a) (hsamples : a.samples = [x, y]) (hover : a.since + 40 ≤ s.ticks) :
    exec .adoptSample s = .next ((s.adoptExit [x, y]).watch s) := by
  have hexec : exec .adoptSample s = execAdoptSample s := rfl
  simp only [hexec, execAdoptSample, hadopt, hsamples]
  exact if_pos (by simpa [State.passed] using hover)

/-- Without a source pair the second sample is only taken. -/
theorem State.adoptBoth_of_noPair (h : s.hasPair = false) : s.adoptBoth l = s := by
  have hmains : s.railOf .mains = none := by simpa [State.hasPair] using h
  rw [State.adoptBoth, hmains]

/-- With both source rails found on SOURCE_BATT is at fault (R154). -/
theorem State.adoptBoth_of_both {b : Nat} (hm : s.railOf .mains = some m) (hb : s.railOf .batt = some b)
    (hmOn : (l.any fun x => x.1.getLsbD m) = true) (hbOn : (l.any fun x => x.1.getLsbD b) = true) :
    s.adoptBoth l = s.adoptFault b := by
  rw [State.adoptBoth, hm, hb]
  exact if_pos (by simp [sampled, hmOn, hbOn])

theorem adoptSample_first_answers (hadopt : s.rst.adopt = some a) (hsamples : a.samples = []) (hover : a.since + 20 ≤ s.ticks) :
    Answers .adoptSample s fun t => t = { s with rst := { s.rst with adopt := some { a with samples := [s.adoptRead] } } } :=
  .of_exec (exec_adoptSample_first hadopt hsamples hover) rfl rfl

theorem adoptSample_second_answers (hadopt : s.rst.adopt = some a) (hsamples : a.samples.length = 1) (hover : a.since + 30 ≤ s.ticks)
    (hpair : s.hasPair = false) :
    Answers .adoptSample s fun t =>
      t = { s with rst := { s.rst with adopt := some { a with samples := a.samples ++ [s.adoptRead] } } } := by
  obtain ⟨x, hx⟩ := List.length_eq_one_iff.mp hsamples
  have hnoPair : (s.sampledAs a [x, s.adoptRead]).hasPair = false := hpair
  refine .of_exec (exec_adoptSample_second hadopt hx hover) (State.adoptBoth_of_noPair hnoPair) ?_
  rw [hx]
  rfl

theorem adoptSample_both_answers {b : Nat} (hm : s.railOf .mains = some m) (hb : s.railOf .batt = some b) (hadopt : s.rst.adopt = some a)
    (hlists : ListsWf s) (hsamples : a.samples.length = 1) (hover : a.since + 30 ≤ s.ticks)
    (hmOn : (a.samples.any fun x => x.1.getLsbD m) = true) (hbOn : (a.samples.any fun x => x.1.getLsbD b) = true) :
    Answers .adoptSample s fun t =>
      t.rstate b = .faulted ∧ (t.railAt b).en = false ∧ t.rst.adopt = some { a with samples := a.samples ++ [s.adoptRead] } ∧
      ∀ n, n ≠ b → t.railAt n = s.railAt n := by
  obtain ⟨-, -, -, hlength, -⟩ := hlists
  obtain ⟨hb24, hkind⟩ := State.railOf_eq_some hb
  obtain ⟨x, hx⟩ := List.length_eq_one_iff.mp hsamples
  have hen : (s.sampledAs a [x, s.adoptRead]).hasEn b = true := State.hasEn_of_batt hkind
  have hlen : b < (s.sampledAs a [x, s.adoptRead]).seq.rails.length := hb24.trans_eq hlength.symm
  have hboth : (s.sampledAs a [x, s.adoptRead]).adoptBoth [x, s.adoptRead] = (s.sampledAs a [x, s.adoptRead]).adoptFault b :=
    State.adoptBoth_of_both hm hb (by simp_all) (by simp_all)
  obtain ⟨hstate, hoff, hothers⟩ := State.adoptFault_spec hen hlen
  have hw : Within [.pins, .seq, .mrg, .sched] (s.sampledAs a [x, s.adoptRead]) ((s.sampledAs a [x, s.adoptRead]).adoptFault b) :=
    Within.refl.adoptFault
  exact .of_exec (exec_adoptSample_second hadopt hx hover) hboth
    ⟨hstate, hoff, by rw [hx]; exact congrArg RstRec.adopt (hw.same .rst), hothers⟩

/-! ### The exit without a rail (R155) -/

theorem State.rkind_of_regs (h : t.regs = s.regs) : t.rkind n = s.rkind n := by
  rw [State.rkind, State.regFld, State.reg, h]
  rfl

theorem State.deferred_adoptRail_none (hkind : s.rkind n = .none) :
    ((s.adoptRail l n).railAt m).deferred = if m = n then none else (s.railAt m).deferred := by
  have hrail : s.adoptRail l n = (s.goRail n .off).modRail n fun r => { r with en := false, deferred := none } := by
    rw [State.adoptRail, hkind]
  have hoff : ((s.goRail n .off).railAt m).deferred = (s.railAt m).deferred := by
    rw [State.railAt_goRail]
    split <;> rfl
  rw [hrail, State.railAt_modRail]
  split
  next hin => rw [if_pos hin.1]
  next hout =>
    split
    next hmn =>
      have hbeyond : (s.goRail n .off).seq.rails.length ≤ m := Nat.not_lt.mp fun hlt => hout ⟨hmn, hmn ▸ hlt⟩
      simp [State.railAt, hbeyond, Rail.init]
    next => exact hoff

/-- Where no rail is under the sequencer, the classification takes every fault's mark away. -/
theorem State.deferred_adoptRails_none (hkinds : ∀ n, s.rkind n = .none) (ks : List Nat)
    (hm : m ∈ ks ∨ (s.railAt m).deferred = none) : ((ks.foldl (State.adoptRail l) s).railAt m).deferred = none := by
  induction ks generalizing s with
  | nil => simpa using hm
  | cons k ks ih =>
    have hregs : (s.adoptRail l k).regs = s.regs := (Within.refl (bs := [.pins, .seq, .mrg, .sched])).adoptRail.same .regs
    refine ih (fun n => (State.rkind_of_regs hregs).trans (hkinds n)) ?_
    rw [State.deferred_adoptRail_none (hkinds k)]
    by_cases hmk : m = k
    · simp [hmk]
    · simpa [hmk] using hm

theorem State.railOf_of_noRails {k : RKind} (hkinds : ∀ n, s.rkind n = .none) (hk : k ≠ .none) : s.railOf k = none := by
  simp [State.railOf, hkinds, hk.symm]

theorem State.srcRail_of_noRails (hkinds : ∀ n, s.rkind n = .none) : s.srcRail = none := by
  have hmains : s.railOf .mains = none := State.railOf_of_noRails hkinds nofun
  have hbatt : s.railOf .batt = none := State.railOf_of_noRails hkinds nofun
  unfold State.srcRail
  split
  · exact hmains
  · exact hbatt
  all_goals rfl

theorem State.someAdopted_of_noRails (hkinds : ∀ n, s.rkind n = .none) : s.someAdopted = false := by
  simp [State.someAdopted, State.slotted, hkinds, State.srcRail_of_noRails hkinds]

theorem State.adoptLeft_of_noRails (hkinds : ∀ n, s.rkind n = .none) : s.adoptLeft = s.enterIdle := by
  rw [State.adoptLeft, State.someAdopted_of_noRails hkinds, Bool.and_false]
  rfl

/-- Without a rail the classification changes rails alone, and leaves none with a fault. -/
theorem State.classified_of_noRails (hkinds : ∀ n, s.rkind n = .none) :
    RailsOnly s (s.classified l) ∧ (∀ n, (s.classified l).rkind n = .none) ∧
      ∀ n < 24, ((s.classified l).railAt n).deferred = none := by
  have hrails : RailsOnly s (railNums.foldl (State.adoptRail l) s) := RailsOnly.refl.foldl fun _ _ h => h.adoptRail
  have hw : Within [.pins, .seq, .mrg, .sched] s (railNums.foldl (State.adoptRail l) s) := Within.refl.foldl fun _ _ h => h.adoptRail
  have hmarks : ∀ n < 24, ((railNums.foldl (State.adoptRail l) s).railAt n).deferred = none := fun n hn =>
    State.deferred_adoptRails_none hkinds railNums (.inl (List.mem_range.mpr hn))
  have hsame : ∀ n, (railNums.foldl (State.adoptRail l) s).rkind n = .none := fun n =>
    (State.rkind_of_regs (hw.same .regs)).trans (hkinds n)
  rw [State.classified]
  generalize railNums.foldl (State.adoptRail l) s = u at hrails hmarks hsame ⊢
  have hpair : u.adoptPair l = u := by
    rw [State.adoptPair, State.railOf_of_noRails (k := .mains) hsame nofun]
  rw [hpair]
  exact ⟨hrails, hsame, hmarks⟩

/-- IDLE with no command held. -/
structure Seq.Rests (q : Seq) : Prop where
  state : q.state = .idle
  start : q.heldStart = none
  stop : q.heldStop = false
  grp : q.heldGrp = []

theorem Seq.Rests.of_eq {q q' : Seq} (h : q.Rests) (hstate : q'.state = q.state) (hstart : q'.heldStart = q.heldStart)
    (hstop : q'.heldStop = q.heldStop) (hgrp : q'.heldGrp = q.heldGrp) : q'.Rests :=
  ⟨hstate.trans h.state, hstart.trans h.start, hstop.trans h.stop, hgrp.trans h.grp⟩

theorem RailsOnly.held (h : RailsOnly s t) :
    t.seq.heldStart = s.seq.heldStart ∧ t.seq.heldStop = s.seq.heldStop ∧ t.seq.heldGrp = s.seq.heldGrp := by
  have hseq : t.seq.sansRails = s.seq.sansRails := h
  exact ⟨by simpa [Seq.sansRails] using congrArg Seq.heldStart hseq, by simpa [Seq.sansRails] using congrArg Seq.heldStop hseq,
    by simpa [Seq.sansRails] using congrArg Seq.heldGrp hseq⟩

theorem RailsOnly.rests (h : RailsOnly s t) (hs : s.seq.Rests) : t.seq.Rests := by
  obtain ⟨hstart, hstop, hgrp⟩ := h.held
  exact hs.of_eq h.state hstart hstop hgrp

theorem State.settleGroups_rests (h : s.seq.Rests) : s.settleGroups.seq.Rests := by
  refine List.foldlRecOn (motive := fun t : State => t.seq.Rests) _ _ h fun t ht g _ => ?_
  split
  · exact ht.of_eq rfl rfl rfl rfl
  · exact ht

theorem State.settle_rests (h : s.seq.Rests) : s.settle.seq.Rests := by
  have hgroups := State.settleGroups_rests h
  unfold State.settle
  simp only [hgroups.state]
  exact hgroups

theorem State.srcLeave_rests (toBatt : Bool) (h : s.seq.Rests) : (s.srcLeave toBatt).seq.Rests := by
  unfold State.srcLeave
  split
  next n _ =>
    have hoff : ((s.offRail n .off).modRail n fun r => { r with deferred := none }).seq.Rests :=
      RailsOnly.rests RailsOnly.refl.offRail.modRail h
    exact hoff.of_eq rfl rfl rfl rfl
  next => exact h.of_eq rfl rfl rfl rfl

theorem State.dwellJudge_rests (h : s.seq.Rests) : s.dwellJudge.seq.Rests := by
  unfold State.dwellJudge
  split
  · exact h.of_eq rfl rfl rfl rfl
  · split
    · split
      · exact h.of_eq rfl rfl rfl rfl
      · exact h
    · split
      · exact h
      · exact h.of_eq rfl rfl rfl rfl

theorem State.srcJudge_rests (h : s.seq.Rests) : s.srcJudge.seq.Rests := by
  unfold State.srcJudge
  split
  · exact h
  · split
    · split
      · exact State.srcLeave_rests true h
      · exact h
    · exact State.dwellJudge_rests h
    · exact h

/-- No reaction is due where no rail is at fault and no edge has come. -/
theorem State.runReactions_nil (late : Bool) : s.runReactions [] [] false late = s := by
  simp [State.runReactions, State.srcAct]

theorem State.runDeferred_of_none {pre : State} {late : Bool} (h : ∀ n < 24, (s.railAt n).deferred = none) :
    s.runDeferred pre late = s.settle := by
  unfold State.runDeferred
  extract_lets codeOf evs marked counted due ignored
  have hevs : evs = [] := List.filterMap_eq_nil_iff.mpr fun n hn => by rw [h n (List.mem_range.mp hn)]
  clear_value evs
  subst hevs
  exact congrArg State.settle (State.runReactions_nil late)

theorem State.runHeld_rests (h : s.seq.Rests) : s.runHeld.seq.state = .idle := by
  simp [State.runHeld, h.start, h.stop, h.grp, h.state]

theorem State.cancelOwn_state (c : RidgeCmd) : (s.cancelOwn c).seq.state = s.seq.state := by
  unfold State.cancelOwn
  split
  · rfl
  · rw [State.modSeq_seq]
    split <;> rfl

theorem State.dropCmd_state (q : QueueCmd) : (s.dropCmd q).seq.state = s.seq.state := by
  unfold State.dropCmd
  extract_lets noted own event host polled
  have hown : own.seq.state = s.seq.state := by
    have hcancel : (noted.cancelOwn q.cmd).seq.state = noted.seq.state := State.cancelOwn_state q.cmd
    unfold own
    split
    · exact hcancel
    · rfl
  have hevent : Within [.regs, .sched, .ridge] own event := .either Within.refl.count.raise .refl
  have hhost : Within [.regs, .sched, .ridge] own host := .either hevent.setRegFld.setRegBit hevent
  have hpolled : Within [.regs, .sched, .ridge] own polled := .either hhost.modSched hhost
  exact (congrArg Seq.state (Within.same (.either hpolled.setRegFld.setRegBit.modRidge hpolled) .seq)).trans hown

theorem State.cascade_state (op : Nat) (o : Option (BitVec 32)) (w : Word) : (s.cascade op o w).seq.state = s.seq.state := by
  unfold State.cascade State.offerCmd
  split
  · exact State.dropCmd_state _
  · rfl

theorem State.armRestart_state : s.armRestart.seq.state = s.seq.state := by
  unfold State.armRestart
  extract_lets t0 armed
  split
  · rfl
  · split
    · exact State.cascade_state _ _ _
    · rfl

/-- Without a rail under the sequencer, and with no command held, the exit is IDLE (R155, log entry 10). -/
theorem State.adoptExit_watch_idle (hkinds : ∀ n < 24, s.rkind n = .none) (hstart : s.seq.heldStart = none)
    (hstop : s.seq.heldStop = false) (hgrp : s.seq.heldGrp = []) :
    ((s.adoptExit l).watch s).seq.state = .idle := by
  have hnone : ∀ n, s.rkind n = .none := fun n => by
    by_cases hn : n < 24
    · exact hkinds n hn
    · exact if_neg hn
  obtain ⟨hrails, hkinds', hmarks⟩ := State.classified_of_noRails (l := l) hnone
  obtain ⟨hstart', hstop', hgrp'⟩ := hrails.held
  have hrests : (s.classified l).enterIdle.seq.Rests := ⟨rfl, hstart'.trans hstart, hstop'.trans hstop, hgrp'.trans hgrp⟩
  have hmarks' : ∀ n < 24, ((s.classified l).enterIdle.railAt n).deferred = none := hmarks
  have hidle : (s.adoptExit l).seq.state = .idle := by
    rw [State.adoptExit_eq, State.adoptLeft_of_noRails hkinds', State.runDeferred_of_none hmarks', State.armRestart_state]
    exact State.runHeld_rests (State.srcJudge_rests (State.settle_rests hrests))
  have hout : (s.adoptExit l).seq.state ≠ .hold := by simp [hidle]
  exact (State.watch_of_not_hold hout).1.trans hidle

theorem adoptSample_third_answers (hadopt : s.rst.adopt = some a) (hsamples : a.samples.length = 2) (hover : a.since + 40 ≤ s.ticks) :
    Answers .adoptSample s fun t =>
      t.rst.adopt = none ∧ t.boot = s.boot ∧ t.role = s.role ∧ t.seq.state ≠ .adopt ∧
      ((∀ n, n < 24 → s.rkind n = .none) →
        s.seq.heldStart = none → s.seq.heldStop = false → s.seq.heldGrp = [] → t.seq.state = .idle) := by
  obtain ⟨x, y, hxy⟩ := List.length_eq_two.mp hsamples
  obtain ⟨hsampled, hboot, hrole, hout⟩ := s.adoptExit_watch_spec [x, y]
  exact .of_exec (exec_adoptSample_third hadopt hxy hover) rfl ⟨hsampled, hboot, hrole, hout, State.adoptExit_watch_idle⟩

/-! ### The restart after a SYSTEM reaction (R158) -/

theorem State.settleGroups_state (s : State) : s.settleGroups.seq.state = s.seq.state := by
  refine List.foldlRecOn (motive := fun t : State => t.seq.state = s.seq.state) _ _ rfl fun t ht g _ => ?_
  split
  · exact ht
  · exact ht

/-- The rails of RISING settle into RISING or UP. -/
theorem State.settle_of_rising (h : s.seq.state = .rising) :
    s.settle.rst = s.rst ∧ s.settle.seq.startReq = s.seq.startReq ∧ (s.settle.seq.state = .rising ∨ s.settle.seq.state = .up) := by
  have hgroups : s.settleGroups.seq.state = .rising := s.settleGroups_state.trans h
  have hw : Within [.seq] s s.settleGroups := Within.refl.foldl fun _ _ h => .either h.modSeq h
  have hsettle : s.settle = if s.settleGroups.allUp then s.settleGroups.enterUp else s.settleGroups := by
    unfold State.settle
    simp only [hgroups]
  refine ⟨?_, StartKept.refl.settle.startReq, ?_⟩
  all_goals
    rw [hsettle]
    split
  · exact hw.same .rst
  · exact hw.same .rst
  · exact .inr rfl
  · exact .inl hgroups

/-- A START from IDLE raises the rails and keeps its request. -/
theorem State.enterRising_of_idle (h : s.seq.state = .idle) (t0 : BitVec 32) :
    (s.enterRising t0).rst = s.rst ∧ (s.enterRising t0).seq.startReq = s.seq.startReq ∧
      ((s.enterRising t0).seq.state = .rising ∨ (s.enterRising t0).seq.state = .up) := by
  unfold State.enterRising
  extract_lets left zeroed pairOn rails
  have hleft : Within [.regs, .meas, .cmp, .pins, .seq, .mrg, .sched] s left := by
    unfold left State.leaveState
    rw [h]
    exact Within.refl.wetAbort
  have hrails : Within [.regs, .meas, .cmp, .pins, .seq, .mrg, .sched] s rails :=
    hleft.setReg.setReg.setReg.foldl fun _ _ h => .either h.offRail.modRail h
  have hreq : StartKept s rails := StartKept.refl.leaveState.setReg.setReg.setReg.foldl fun _ _ h => .either h.offRail.modRail h
  obtain ⟨hrst, hsettled, hstate⟩ := State.settle_of_rising (s := rails.modSeq fun q =>
    { q with state := .rising, src := .none, srcFirst := false, srcOff := none, restartT := none }) rfl
  exact ⟨hrst.trans (hrails.same .rst), hsettled.trans hreq.startReq, hstate⟩

/-- A START that is no first one of a slave raises the rails out of IDLE (R277, Table 8-6). -/
theorem State.startAt_of_idle (hslv : s.isRole .slv = false) (hidle : s.seq.state = .idle) (t0 : BitVec 32) :
    s.startAt t0 true false = (s.modSeq fun q => { q with startReq := true }).enterRising t0 := by
  unfold State.startAt
  rw [if_neg (by simp [State.unjoined, hslv])]
  simp only [hidle, Bool.true_or, if_true]

/-- The state with the restart taken up. -/
def State.restartTaken (s : State) : State := s.modRst fun r => { r with sysRestart := none }

theorem exec_sysreactRestart {k : BitVec 32} (hrestart : s.rst.sysRestart = some k) (hdue : s.due k = true) (hruns : s.seqRuns = true) :
    exec .sysreactRestart s = .next (s.restartTaken.startAt k true false) := by
  have hexec : exec .sysreactRestart s = execSysreactRestart s := rfl
  rw [hexec, execSysreactRestart, hrestart]
  exact (if_neg (by simp [hdue])).trans (if_pos hruns)

theorem sysreactRestart_answers {k : BitVec 32} (hrestart : s.rst.sysRestart = some k) (hdue : s.due k = true) (hruns : s.seqRuns = true)
    (hidle : s.seq.state = .idle) (hslv : s.isRole .slv = false) :
    Answers .sysreactRestart s fun t =>
      t.rst.sysRestart = none ∧ t.seq.startReq = true ∧ (t.seq.state = .rising ∨ t.seq.state = .up) := by
  obtain ⟨hrst, hreq, hstate⟩ :=
    State.enterRising_of_idle (s := s.restartTaken.modSeq fun q => { q with startReq := true }) hidle k
  exact .of_exec (exec_sysreactRestart hrestart hdue hruns) (State.startAt_of_idle (s := s.restartTaken) hslv hidle k)
    ⟨congrArg RstRec.sysRestart hrst, hreq, hstate⟩

/-- Settles O17. The second sample acts on the source pair alone (log entry 11), no operation of the exit begins ADOPT again, and without a
rail the classification leaves nothing for the reactions to act on. -/
theorem adoptCompletes : Obligations.AdoptCompletes :=
  ⟨fun _ _ => adoptSample_first_answers, fun _ _ => adoptSample_second_answers,
    fun _ _ hm _ hb _ hadopt hlists => adoptSample_both_answers hm hb hadopt hlists, fun _ _ => adoptSample_third_answers,
    fun _ _ => sysreactRestart_answers⟩

end Sys2Proof.Machine
end

section
/-! SUPPORT. Stops of a group in UP, and what they leave of a rail that is off already (spec/08_rail_sequencer.md R282). -/

-- A lemma's default argument is ready only once its proof is: taken up all at once, the lemmas below would wait in a thread each.
set_option Elab.async false

namespace Sys2Proof.Machine

variable {s₀ s t u : State} {n m g : Nat} {o : BitVec 32} {all : Bool}

/-! ### The groups -/

theorem RailsOnly.stopRail (h : RailsOnly s₀ s) : RailsOnly s₀ (s.stopRail o all n) := by
  unfold State.stopRail
  dsimp only
  split
  · split
    · exact h.offRail
    · exact h.goRail
    · exact h
  · split
    · exact h.goRail
    · exact h.goRail
    · exact h.goRail.modRail
    · exact h.goRail.modRail
    · exact either h.modRail h
    · exact h

/-- The group is stopping or DOWN. -/
def State.groupLeft (s : State) (g : Nat) : Bool := s.seq.grpStop.getLsbD g || s.seq.grpDown.getLsbD g

theorem RailsOnly.groupLeft (h : RailsOnly s t) : t.groupLeft g = s.groupLeft g := by
  have hstop : t.seq.grpStop = s.seq.grpStop := by simpa [Seq.sansRails] using congrArg Seq.grpStop h
  have hdown : t.seq.grpDown = s.seq.grpDown := by simpa [Seq.sansRails] using congrArg Seq.grpDown h
  rw [State.groupLeft, hstop, hdown, State.groupLeft]

theorem getLsbD_groupBit (hg : g < 8) : (BitVec.ofNat 8 (2 ^ g)).getLsbD g = true := by
  rw [BitVec.getLsbD_ofNat, Nat.testBit_two_pow_self, Bool.and_true, decide_eq_true hg]

/-- A group that is stopping stays so or is DOWN. -/
theorem State.settleGroups_groupLeft (hg : g < 8) (h : s.groupLeft g = true) : s.settleGroups.groupLeft g = true := by
  refine List.foldlRecOn (motive := fun t : State => t.groupLeft g = true) _ _ h fun t ht k _ => ?_
  split
  · have hmarks : (t.seq.grpStop.getLsbD g || t.seq.grpDown.getLsbD g) = true := ht
    simp only [State.groupLeft, State.modSeq_seq, BitVec.getLsbD_and, BitVec.getLsbD_or, BitVec.getLsbD_not, hg, decide_true,
      Bool.true_and]
    revert hmarks
    cases t.seq.grpStop.getLsbD g <;> cases (BitVec.ofNat 8 (2 ^ k)).getLsbD g <;> simp
  · exact ht

/-- Outside RISING and FALLING the settling moves groups alone. -/
theorem State.settle_of_up (h : s.seq.state = .up) : s.settle = s.settleGroups := by
  have hstate : s.settleGroups.seq.state = .up := (State.settleGroups_state s).trans h
  unfold State.settle
  simp only [hstate]

/-- The state with the group marked as stopping. -/
def State.groupMarked (s : State) (g : Nat) : State := s.modSeq fun q => { q with grpStop := q.grpStop ||| BitVec.ofNat 8 (2 ^ g) }

theorem State.groupMarked_groupLeft (hg : g < 8) : (s.groupMarked g).groupLeft g = true := by
  rw [State.groupLeft, State.groupMarked, State.modSeq_seq, BitVec.getLsbD_or, getLsbD_groupBit hg, Bool.or_true, Bool.true_or]

/-- The rails of a group take their stop. -/
def State.stopRails (s : State) (o : BitVec 32) (g : Nat) : State :=
  railNums.foldl (fun t n => if t.grouped n ∧ t.group n = g then t.stopRail o false n else t) s

/-- The group stop of a group that is up. -/
theorem State.groupStop_of_up (hleft : s.groupLeft g = false) :
    s.groupStop o g = ((s.groupMarked g).stopRails o g).settle := by
  unfold State.groupStop
  exact if_neg (by simpa [State.groupLeft] using hleft)

theorem State.groupStop_of_left (hleft : s.groupLeft g = true) : s.groupStop o g = s := if_pos hleft

theorem State.stopRails_railsOnly : RailsOnly s (s.stopRails o g) := RailsOnly.refl.foldl fun _ _ h => .either h.stopRail h

/-- After a group stop in UP the group is stopping or DOWN, and the device is in UP. -/
theorem State.groupStop_spec (hg : g < 8) (hup : s.seq.state = .up) :
    (s.groupStop o g).groupLeft g = true ∧ (s.groupStop o g).seq.state = .up := by
  cases hleft : s.groupLeft g with
  | true => rw [State.groupStop_of_left hleft]; exact ⟨hleft, hup⟩
  | false =>
    rw [State.groupStop_of_up hleft]
    have hrails : RailsOnly (s.groupMarked g) ((s.groupMarked g).stopRails o g) := State.stopRails_railsOnly
    have hstate : ((s.groupMarked g).stopRails o g).seq.state = .up := hrails.state.trans hup
    rw [State.settle_of_up hstate]
    exact ⟨State.settleGroups_groupLeft hg (hrails.groupLeft.trans (State.groupMarked_groupLeft hg)),
      (State.settleGroups_state _).trans hstate⟩

/-! ### One rail and its pin -/

/-- Rail n and its EN pin stay. -/
structure RailKept (n : Nat) (s t : State) : Prop where
  rail : t.railAt n = s.railAt n
  pin : t.pins.en.getD n .highZ = s.pins.en.getD n .highZ

namespace RailKept

theorem refl : RailKept n s s := ⟨rfl, rfl⟩

theorem trans (h : RailKept n s t) (h' : RailKept n t u) : RailKept n s u := ⟨h'.rail.trans h.rail, h'.pin.trans h.pin⟩

theorem of_eq (hrails : t.seq.rails = s.seq.rails) (hpins : t.pins = s.pins) : RailKept n s t :=
  ⟨by rw [State.railAt, hrails, State.railAt], by rw [hpins]⟩

theorem modRail {f} (h : RailKept n s₀ s) (hm : n ≠ m) : RailKept n s₀ (s.modRail m f) :=
  h.trans ⟨by rw [State.railAt_modRail, if_neg fun hin => hm hin.1], rfl⟩

theorem goRail {st : RailState} (h : RailKept n s₀ s) (hm : n ≠ m) : RailKept n s₀ (s.goRail m st) := by
  have hpins : (s.goRail m st).pins = s.pins := (Within.refl (bs := [.seq, .mrg, .sched])).goRail.same .pins
  exact h.trans ⟨by rw [State.railAt_goRail, if_neg fun hin => hm hin.1], by rw [hpins]⟩

theorem setEn {b : Bool} (h : RailKept n s₀ s) (hm : n ≠ m) : RailKept n s₀ (s.setEn m b) := by
  unfold State.setEn
  split
  · exact (h.modRail hm).trans ⟨rfl, by simp [List.getD, List.getElem?_set_ne hm.symm, State.modRail]⟩
  · exact h

theorem offRail {st : RailState} (h : RailKept n s₀ s) (hm : n ≠ m) : RailKept n s₀ (s.offRail m st) := (h.setEn hm).goRail hm

/-- A stop of another rail. -/
theorem stopRail (h : RailKept n s₀ s) (hm : n ≠ m) : RailKept n s₀ (s.stopRail o all m) := by
  unfold State.stopRail
  dsimp only
  split
  · split
    · exact h.offRail hm
    · exact h.goRail hm
    · exact h
  · split
    · exact h.goRail hm
    · exact h.goRail hm
    · exact (h.goRail hm).modRail hm
    · exact (h.goRail hm).modRail hm
    · split
      · exact h.modRail hm
      · exact h
    · exact h

theorem settleGroups (h : RailKept n s₀ s) : RailKept n s₀ s.settleGroups := by
  refine List.foldlRecOn (motive := RailKept n s₀) _ _ h fun t ht g _ => ?_
  split
  · exact ht.trans (.of_eq rfl rfl)
  · exact ht

end RailKept

/-- A stop leaves a FAULTED rail as it is (R282). -/
theorem State.stopRail_of_faulted (h : s.rstate n = .faulted) : s.stopRail o all n = s := by
  unfold State.stopRail
  simp only [h, ite_self]

/-- A group stop in UP leaves a FAULTED rail and its pin. -/
theorem RailKept.groupStop (hup : s.seq.state = .up) (hfaulted : s.rstate n = .faulted) : RailKept n s (s.groupStop o g) := by
  cases hleft : s.groupLeft g with
  | true => rw [State.groupStop_of_left hleft]; exact .refl
  | false =>
    rw [State.groupStop_of_up hleft]
    have hstopped : RailKept n s ((s.groupMarked g).stopRails o g) := by
      refine List.foldlRecOn (motive := RailKept n s) _ _ (.of_eq rfl rfl) fun t ht k _ => ?_
      split
      · by_cases hk : n = k
        · have hrail : t.rstate k = .faulted := by rw [← hk, State.rstate, ht.rail]; exact hfaulted
          rw [State.stopRail_of_faulted hrail]
          exact ht
        · exact ht.stopRail hk
      · exact ht
    have hstate : ((s.groupMarked g).stopRails o g).seq.state = .up := State.stopRails_railsOnly.state.trans hup
    rw [State.settle_of_up hstate]
    exact hstopped.settleGroups

end Sys2Proof.Machine
end

section
/-! SUPPORT. Obligation settled: a REACT edge of a rail that is ON (spec/05_configuration_image_and_thatch_fabric.md R191;
spec/09_fault_reactions_and_margining.md R299 to R306). -/

-- A lemma's default argument is ready only once its proof is: taken up all at once, the lemmas below would wait in a thread each.
set_option Elab.async false

namespace Sys2Proof.Machine

variable {bs : List Block} {s₀ s t u pre : State} {n op : Nat} {c : Option (BitVec 32)} {w : Word} {e : FaultEv}

/-! ### What a reaction leaves before it stops a group -/

/-- The rails, the device state and the pins stay, and the registers give rail n its group and its reaction as before. -/
structure RailStands (n : Nat) (s t : State) : Prop where
  rails : t.seq.rails = s.seq.rails
  state : t.seq.state = s.seq.state
  pins : t.pins = s.pins
  group : t.group n = s.group n
  reaction : t.reaction n = s.reaction n

/-- The registers of events and of the first fault configure no rail. -/
theorem eventReg_ne_railCfg (hn : n < 24) {a : Nat} (ha : a ∈ [Reg.reactEvt, Reg.reactFirst, Reg.reactFirstT, Reg.ridgeEvt]) :
    a ≠ Reg.chRailCfg n ∧ a ≠ Reg.reactRailCfg n := by
  simp only [List.mem_cons, List.not_mem_nil, or_false, Reg.reactEvt, Reg.reactFirst, Reg.reactFirstT, Reg.ridgeEvt] at ha
  simp only [Reg.chRailCfg, Reg.reactRailCfg]
  omega

namespace RailStands

theorem refl : RailStands n s s := ⟨rfl, rfl, rfl, rfl, rfl⟩

theorem trans (h : RailStands n s t) (h' : RailStands n t u) : RailStands n s u :=
  ⟨h'.rails.trans h.rails, h'.state.trans h.state, h'.pins.trans h.pins, h'.group.trans h.group, h'.reaction.trans h.reaction⟩

theorem kept (h : RailStands n s t) : RailKept n s t := .of_eq h.rails h.pins

/-- A change of other blocks. -/
theorem also (h : RailStands n s₀ s) (hw : Within bs s t) (hb : ∀ b ∈ [Block.seq, .pins, .regs], b ∉ bs := by decide) :
    RailStands n s₀ t := by
  have hseq : t.seq = s.seq := hw .seq (hb _ (by simp))
  have hregs : t.regs = s.regs := hw .regs (hb _ (by simp))
  exact h.trans ⟨by rw [hseq], by rw [hseq], hw .pins (hb _ (by simp)), by simp only [State.group, State.regFld, State.reg, hregs],
    by simp only [State.reaction, State.regFld, State.reg, hregs]⟩

theorem modSeq {f : Seq → Seq} (h : RailStands n s₀ s) (hrails : ∀ q, (f q).rails = q.rails := by exact fun _ => rfl)
    (hstate : ∀ q, (f q).state = q.state := by exact fun _ => rfl) : RailStands n s₀ (s.modSeq f) :=
  h.trans ⟨hrails _, hstate _, rfl, rfl, rfl⟩

theorem setReg {a : Nat} {v : Word} (h : RailStands n s₀ s) (hn : n < 24)
    (ha : a ∈ [Reg.reactEvt, Reg.reactFirst, Reg.reactFirstT, Reg.ridgeEvt] := by decide) : RailStands n s₀ (s.setReg a v) := by
  obtain ⟨hcfg, hreact⟩ := eventReg_ne_railCfg hn ha
  exact h.trans ⟨rfl, rfl, rfl, by simp only [State.group, State.regFld, State.reg_setReg_ne s hcfg],
    by simp only [State.reaction, State.regFld, State.reg_setReg_ne s hreact]⟩

theorem either {p : Prop} [Decidable p] (ht : RailStands n s t) (hu : RailStands n s u) : RailStands n s (if p then t else u) := by
  split
  · exact ht
  · exact hu

theorem setFirst (h : RailStands n s₀ s) (hn : n < 24) : RailStands n s₀ (s.setFirst e) :=
  ((h.setReg hn).setReg hn).also (bs := [.react]) Within.refl.modReact

/-- The count and the capture of one fault. -/
theorem countFault (h : RailStands n s₀ s) (hn : n < 24) : RailStands n s₀ (s.countFaults pre [e]) := by
  have hcount : RailStands n s₀ (s.countEvent e.rail .fault) := h.also (bs := [.nvm]) Within.refl.countEvent
  exact either ((either (hcount.setFirst hn) hcount).also (bs := [.nvm]) Within.refl.captureHistory)
    ((hcount.setFirst hn).also (bs := [.nvm]) Within.refl.captureRecord)

theorem cancelOwn {cmd : RidgeCmd} (h : RailStands n s₀ s) : RailStands n s₀ (s.cancelOwn cmd) := by
  unfold State.cancelOwn
  split
  · exact h
  · exact h.modSeq (fun q => by split <;> rfl) (fun q => by split <;> rfl)

/-- A sequence command to every node, whether it finds a place in the queue or not (R374). -/
theorem cascade (h : RailStands n s₀ s) (hn : n < 24) (hop : 1 ≤ op ∧ op ≤ 4) : RailStands n s₀ (s.cascade op c w) := by
  unfold State.cascade State.offerCmd
  split
  · have h5 : op ≠ 5 := by omega
    have h23 : op ≠ 0x23 := by omega
    simp only [State.dropCmd, hop, h5, h23, and_self, false_and, Bool.false_eq_true, if_true, if_false]
    exact (h.setReg hn).cancelOwn.modSeq
  · exact h.also (bs := [.ridge]) Within.refl.modRidge

theorem reportGroup {g : Nat} (h : RailStands n s₀ s) (hn : n < 24) : RailStands n s₀ (s.reportGroup g) := by
  unfold State.reportGroup
  extract_lets noted toggled
  have htoggled : RailStands n s₀ toggled := (h.setReg hn).also (bs := [.ridge]) Within.refl.modRidge.modRidge
  exact either ((htoggled.cascade hn (by decide)).setReg hn) htoggled

end RailStands

/-! ### The fault of a rail that is ON -/

theorem State.takeFault_group (hkind : s.rkind e.rail ≠ .none) (hreact : s.reaction e.rail = .group) (hon : s.rstate e.rail = .on)
    (hup : s.seq.state = .up) : s.takeFault e = (s.offRail e.rail .faulted, true, true) := by
  simp [State.takeFault, hkind, hreact, hon, hup]

theorem State.takeFault_ignore (hkind : s.rkind e.rail ≠ .none) (hreact : s.reaction e.rail = .ignore) (hon : s.rstate e.rail = .on) :
    s.takeFault e = ((s.reactEvt 0).setLast e.rail 0, true, false) := by
  simp [State.takeFault, hkind, hreact, hon]

/-- A rail off: its state, its EN and its pin. -/
theorem State.offRail_spec (hen : s.hasEn n = true) (hrails : n < s.seq.rails.length) (hpins : n < s.pins.en.length) (st : RailState) :
    (s.offRail n st).rstate n = st ∧ ((s.offRail n st).railAt n).en = false ∧
      (s.offRail n st).pins.en.getD n .highZ = s.enDrive n false := by
  have hlen : n < (s.setEn n false).seq.rails.length := by rw [State.setEn_seq false hen, State.modRail_length]; exact hrails
  have hpin : (s.offRail n st).pins = (s.setEn n false).pins := (Within.refl (bs := [.seq, .mrg, .sched])).goRail.same .pins
  refine ⟨?_, ?_, ?_⟩
  · rw [State.rstate, State.offRail, State.railAt_goRail, if_pos ⟨rfl, hlen⟩]
  · rw [State.offRail, State.railAt_goRail, if_pos ⟨rfl, hlen⟩, State.railAt_setEn false hen, if_pos ⟨rfl, hrails⟩]
  · rw [hpin, State.setEn, if_pos hen]
    simp [List.getD, State.modRail, hpins]

/-- Of the eight groups, a group number picks its own. -/
theorem filter_group_eq : ∀ g < 8, (List.range 8).filter (fun k => decide (g = k)) = [g] := by decide

theorem State.group_lt (s : State) (n : Nat) : s.group n < 8 := Nat.mod_lt _ (by decide)

/-- A GROUP reaction in UP: it is noted and reported, and the group of the rail stops (R306, R311). -/
theorem State.runReactions_group (hn : n < 24) (hreact : s.reaction n = .group) (hup : s.seq.state = .up) :
    s.runReactions [n] [] false false =
      ((s.setLast n 2).reportGroup (s.group n)).groupStop ((s.setLast n 2).reportGroup (s.group n)).tb.now (s.group n) := by
  have hdec : s.decided n = (.group, false) := by rw [State.decided, hreact]
  have hkeep : RailStands n s ((s.setLast n 2).reportGroup (s.group n)) :=
    (RailStands.refl.also (bs := [.react]) Within.refl.setLast).reportGroup hn
  simp only [State.runReactions, List.map, hdec]
  simp [State.srcAct, hkeep.group, filter_group_eq _ (s.group_lt n), hkeep.state, hup]

/-- A GROUP reaction of a FAULTED rail in UP: its group is stopping or DOWN, and the rail and its pin stay. -/
theorem State.runReactions_group_spec (hn : n < 24) (hreact : s.reaction n = .group) (hup : s.seq.state = .up)
    (hoff : s.rstate n = .faulted) :
    RailKept n s (s.runReactions [n] [] false false) ∧ (s.runReactions [n] [] false false).groupLeft (s.group n) = true ∧
      (s.runReactions [n] [] false false).seq.state = .up := by
  have hreported : RailStands n s ((s.setLast n 2).reportGroup (s.group n)) :=
    (RailStands.refl.also (bs := [.react]) Within.refl.setLast).reportGroup hn
  rw [State.runReactions_group hn hreact hup]
  generalize (s.setLast n 2).reportGroup (s.group n) = x at hreported ⊢
  have hxup : x.seq.state = .up := hreported.state.trans hup
  have hxoff : x.rstate n = .faulted := by rw [State.rstate, hreported.kept.rail]; exact hoff
  exact ⟨hreported.kept.trans (.groupStop hxup hxoff), State.groupStop_spec (s.group_lt n) hxup⟩

/-! ### The edge -/

/-- The fault event of a REACT edge of rail n. -/
def edgeFault (n : Nat) (st : RailState) : FaultEv := { rail := n, code := .edge, st := st }

theorem State.faultsOf_edge (hn : n < 24) : s.faultsOf [n] false = [edgeFault n .off] := by
  have hone : ∀ n < 24, railNums.filterMap (fun k => if [n].contains k then some (edgeFault k .off) else none) = [edgeFault n .off] := by
    decide
  rw [← hone n hn]
  simp [State.faultsOf, edgeFault]

theorem grpdnOf_edge (hn : n < 24) : grpdnOf [n] = [] := by
  have hout : within n 0x18 0x1F = false := by simp [within, hn]
  simp [grpdnOf, hout]

/-- A REACT edge outside ADOPT is the set of one fault (R311). -/
theorem exec_reactEdge (hn : n < 24) (htake : s.takeEdges (· < 0x20) = some ([n], u)) (hshadow : s.isShadow = false)
    (hruns : s.seqRuns = true) (hup : s.seq.state = .up) : exec .reactEdge s = .next (u.faultSet [edgeFault n .off] [] false) := by
  obtain ⟨es, rfl⟩ := State.takeEdges_eq htake
  have hexec : exec .reactEdge s = execReactEdge s := rfl
  rw [hexec, execReactEdge, htake]
  refine (if_neg (ne_true_of_eq_false hshadow)).trans ((if_pos hruns).trans (congrArg ok ?_))
  rw [State.reactEdges, if_neg (by simp [hup]), State.faultsOf_edge hn, grpdnOf_edge hn]

theorem State.hasEn_rkind (h : s.hasEn n = true) : s.rkind n ≠ .none := by
  intro hkind
  simp [State.hasEn, hkind] at h

theorem State.faultSet_group_eq (hup : s.seq.state = .up) (hon : s.rstate n = .on) (hen : s.hasEn n = true)
    (hreact : s.reaction n = .group) :
    s.faultSet [edgeFault n .off] [] false =
      (((s.offRail n .faulted).countFaults s [edgeFault n .on]).runReactions [n] [] false false).settle := by
  have htake : s.takeFault (edgeFault n .on) = (s.offRail n .faulted, true, true) :=
    State.takeFault_group (State.hasEn_rkind hen) hreact hon hup
  simp only [edgeFault] at htake
  simp [State.faultSet, edgeFault, hon, htake]

theorem State.faultSet_ignore_eq (hon : s.rstate n = .on) (hen : s.hasEn n = true) (hreact : s.reaction n = .ignore) :
    s.faultSet [edgeFault n .off] [] false = (((s.reactEvt 0).setLast n 0).countFaults s [edgeFault n .on]).settle := by
  have htake : s.takeFault (edgeFault n .on) = ((s.reactEvt 0).setLast n 0, true, false) :=
    State.takeFault_ignore (State.hasEn_rkind hen) hreact hon
  simp only [edgeFault] at htake
  simp [State.faultSet, edgeFault, hon, htake, State.runReactions_nil]

/-- A fault of reaction GROUP turns the rail off and stops its group (R300, R306). -/
theorem State.faultSet_group (hn : n < 24) (hlists : ListsWf s) (hup : s.seq.state = .up) (hon : s.rstate n = .on)
    (hen : s.hasEn n = true) (hreact : s.reaction n = .group) :
    let t := s.faultSet [edgeFault n .off] [] false
    t.rstate n = .faulted ∧ (t.railAt n).en = false ∧ t.pins.en.getD n .highZ = s.enDrive n false ∧
      t.groupLeft (s.group n) = true ∧ t.seq.state = .up := by
  obtain ⟨hpins, -, -, hrails, -⟩ := hlists
  have hregs : (s.offRail n .faulted).regs = s.regs := (Within.refl (bs := [.pins, .seq, .mrg, .sched])).offRail.same .regs
  have hcfg : (s.offRail n .faulted).group n = s.group n ∧ (s.offRail n .faulted).reaction n = s.reaction n := by
    simp only [State.group, State.reaction, State.regFld, State.reg, hregs, and_self]
  obtain ⟨hoff, hnoEn, hpin⟩ := State.offRail_spec hen (hrails ▸ hn) (hpins ▸ hn) .faulted
  have hcounted : RailStands n (s.offRail n .faulted) ((s.offRail n .faulted).countFaults s [edgeFault n .on]) :=
    RailStands.refl.countFault hn
  rw [State.faultSet_group_eq hup hon hen hreact]
  generalize (s.offRail n .faulted).countFaults s [edgeFault n .on] = v at hcounted ⊢
  have hvoff : v.rstate n = .faulted := by rw [State.rstate, hcounted.kept.rail]; exact hoff
  have hvup : v.seq.state = .up := hcounted.state.trans (RailsOnly.refl.offRail.state.trans hup)
  obtain ⟨hreacted, hleft, hstate⟩ :=
    State.runReactions_group_spec hn (hcounted.reaction.trans (hcfg.2.trans hreact)) hvup hvoff
  rw [hcounted.group, hcfg.1] at hleft
  have hkept := (hcounted.kept.trans hreacted).settleGroups
  rw [State.settle_of_up hstate]
  exact ⟨by rw [State.rstate, hkept.rail]; exact hoff, by rw [hkept.rail]; exact hnoEn, hkept.pin.trans hpin,
    State.settleGroups_groupLeft (s.group_lt n) hleft, (State.settleGroups_state _).trans hstate⟩

/-- A fault of reaction IGNORE is noted and counted, and moves no rail (R300). -/
theorem State.faultSet_ignore (hn : n < 24) (hup : s.seq.state = .up) (hon : s.rstate n = .on) (hen : s.hasEn n = true)
    (hreact : s.reaction n = .ignore) :
    let t := s.faultSet [edgeFault n .off] [] false
    RailKept n s t ∧ t.seq.state = .up := by
  have hcounted : RailStands n s (((s.reactEvt 0).setLast n 0).countFaults s [edgeFault n .on]) :=
    ((RailStands.refl.setReg hn).also (bs := [.react]) Within.refl.setLast).countFault hn
  have hstate := hcounted.state.trans hup
  rw [State.faultSet_ignore_eq hon hen hreact, State.settle_of_up hstate]
  exact ⟨hcounted.kept.settleGroups, (State.settleGroups_state _).trans hstate⟩

/-- Settles O22: the edge is the set of one fault. The rail is off before the reaction begins, and a stop of its group leaves a FAULTED
rail as it is. -/
theorem reactEdgeTurnsOff : Obligations.ReactEdgeTurnsOff := by
  intro s n hn u htake hlists hshadow hruns hup hon hen
  have hexec := exec_reactEdge hn htake hshadow hruns hup
  obtain ⟨es, rfl⟩ := State.takeEdges_eq htake
  refine ⟨fun hgroup => .of_exec hexec rfl (State.faultSet_group hn hlists hup hon hen hgroup), fun hignore => ?_⟩
  obtain ⟨hkept, hstate⟩ := State.faultSet_ignore (s := s.modFab fun f => { f with edges := es }) hn hup hon hen hignore
  exact .of_exec hexec rfl ⟨(congrArg Rail.state hkept.rail).trans hon, congrArg Rail.en hkept.rail, hstate⟩

end Sys2Proof.Machine
end

section
/-! SUPPORT. Obligation settled: a cell's timer and the edges of the fabric's sinks
(spec/05_configuration_image_and_thatch_fabric.md R185 to R193). -/

-- A lemma's default argument is ready only once its proof is: taken up all at once, the lemmas below would wait in a thread each.
set_option Elab.async false

namespace Sys2Proof.Machine

variable {bs : List Block} {s₀ s t u : State} {n m k op g : Nat} {c : Option (BitVec 32)} {w : Word} {l : List Nat}

/-! ### The timer of a cell (R185) -/

/-- A timer that has counted its N ticks. -/
def timerEnd (mode : Nat) (c : Cell) : Cell :=
  match mode with
  | 1 => { c with tout := true }
  | 2 | 3 => { c with tout := false, tcnt := 0 }
  | _ => c

theorem timerEnd_delayOn (x : Cell) : (timerEnd 1 x).tout = true := rfl

theorem timerEnd_release {mode : Nat} (h : mode = 2 ∨ mode = 3) (x : Cell) :
    (timerEnd mode x).tout = false ∧ (timerEnd mode x).tcnt = 0 := by
  rcases h with rfl | rfl <;> exact ⟨rfl, rfl⟩

/-- The state with the timer of cell k at its end. -/
def State.timerEnded (s : State) (k : Nat) : State := s.modFab fun f => { f with cells := modAt f.cells k (timerEnd (s.cellMode k)) }

theorem exec_fabTimerExpiry (hk : k < 64) (hruns : s.fabRuns = true) (hn : s.cellN k ≠ 0) (htime : (s.cell k).tcnt = s.cellN k) :
    exec (.fabTimerExpiry k) s = .next (s.timerEnded k) := by
  have hexec : exec (.fabTimerExpiry k) s = execFabTimerExpiry k s := rfl
  rw [hexec, execFabTimerExpiry]
  exact if_neg (by simp [hk, hruns, hn, htime])

theorem State.cell_timerEnded_same (hk : k < s.fab.cells.length) : (s.timerEnded k).cell k = timerEnd (s.cellMode k) (s.cell k) := by
  simp [State.cell, State.timerEnded, modAt, hk]

theorem State.cell_timerEnded_ne (h : m ≠ k) : (s.timerEnded k).cell m = s.cell m := by
  simp [State.cell, State.timerEnded, modAt, h.symm]

theorem fabTimerExpiry_answers (hk : k < 64) (hlists : ListsWf s) (hruns : s.fabRuns = true) (hn : s.cellN k ≠ 0)
    (htime : (s.cell k).tcnt = s.cellN k) :
    Answers (.fabTimerExpiry k) s fun t =>
      ((s.cellMode k = 1 → (t.cell k).tout = true) ∧
        (s.cellMode k = 2 ∨ s.cellMode k = 3 → (t.cell k).tout = false ∧ (t.cell k).tcnt = 0)) ∧
      (∀ j, j ≠ k → t.cell j = s.cell j) ∧ t = { s with fab := { s.fab with cells := t.fab.cells } } := by
  obtain ⟨-, -, -, -, -, -, hcells, -⟩ := hlists
  have hcell := State.cell_timerEnded_same (s := s) (hcells ▸ hk)
  refine .of_exec (exec_fabTimerExpiry hk hruns hn htime) rfl
    ⟨⟨fun hmode => ?_, fun hmode => ?_⟩, fun j hj => State.cell_timerEnded_ne hj, rfl⟩
  · rw [hcell, hmode, timerEnd_delayOn]
  · rw [hcell]
    exact timerEnd_release hmode _

/-! ### FAB_IRQ (R189) -/

theorem fabIrqEdge_answers (hn : n < 8) (htake : s.takeEdges (· = 0x30 + n % 8) = some (l, u)) (hwf : Store.wf regDflt s.regs = true) :
    Answers (.fabIrqEdge n) s fun t =>
      t.reg Reg.sysFabirq = s.reg Reg.sysFabirq ||| w32 (2 ^ n) ∧ t.fab = u.fab ∧ ∀ a, a ≠ Reg.sysFabirq → t.reg a = s.reg a := by
  have hexec : exec (.fabIrqEdge n) s = .next (u.raise Reg.sysFabirq n) := by
    have hfab : exec (.fabIrqEdge n) s = execFabIrqEdge n s := rfl
    rw [hfab, execFabIrqEdge, htake, Nat.mod_eq_of_lt hn]
    rfl
  obtain ⟨es, rfl⟩ := State.takeEdges_eq htake
  obtain ⟨hirq, hother, -⟩ :=
    State.setReg_spec (s.modFab fun f => { f with edges := es }) Reg.sysFabirq (s.reg Reg.sysFabirq ||| w32 (2 ^ n)) hwf
  exact .of_exec hexec rfl ⟨hirq, rfl, hother⟩

/-! ### SEQ_START and SEQ_STOP (R192) -/

/-- A command to every node that finds a place in the queue changes the link alone (R374). -/
theorem Within.cascade (h : Within bs s₀ s) (hroom : s.ridge.m.queue.length < 64) (hl : [.ridge] ⊆ bs := by decide) :
    Within bs s₀ (s.cascade op c w) := h.also hl <| by
  rw [State.cascade, State.offerCmd, if_neg (by omega)]
  exact refl.modRidge

theorem State.length_unqueue_le : (s.unqueue op).ridge.m.queue.length ≤ s.ridge.m.queue.length := List.length_filter_le _ _

/-- A START that is accepted is pending, and on a master with room in its queue goes to the cascade. -/
theorem State.acceptStart_spec {t0 : BitVec 32} {fab : Bool} (hroom : s.ridge.m.queue.length < 64) :
    (s.acceptStart t0 fab).seq.pendStart = some (t0, fab) ∧ (s.acceptStart t0 fab).seq.cmdErr = 0 ∧
      Within [.seq, .ridge] s (s.acceptStart t0 fab) := by
  unfold State.acceptStart
  extract_lets accepted
  have haccepted : Within [.seq, .ridge] s accepted := Within.refl.modSeq.modRidge.modSeq
  have hlink : Within [.ridge] accepted (if accepted.isRole .mst then (accepted.unqueue 1).cascade 1 (some t0) 0 else accepted) :=
    .either (Within.refl.modRidge.cascade (State.length_unqueue_le.trans_lt hroom)) .refl
  have hseq := hlink.same .seq
  exact ⟨congrArg Seq.pendStart hseq, congrArg Seq.cmdErr hseq, haccepted.also (by decide) hlink⟩

theorem State.acceptStop_spec {t0 : BitVec 32} (hroom : s.ridge.m.queue.length < 64) :
    (s.acceptStop t0).seq.pendStop = some t0 ∧ (s.acceptStop t0).seq.cmdErr = 0 ∧ Within [.seq, .ridge] s (s.acceptStop t0) := by
  unfold State.acceptStop
  extract_lets accepted
  have haccepted : Within [.seq, .ridge] s accepted := Within.refl.modSeq.modRidge.modSeq
  have hlink : Within [.ridge] accepted (if accepted.isRole .mst then (accepted.unqueue 2).cascade 2 (some t0) 0 else accepted) :=
    .either (Within.refl.modRidge.cascade (State.length_unqueue_le.trans_lt hroom)) .refl
  have hseq := hlink.same .seq
  exact ⟨congrArg Seq.pendStop hseq, congrArg Seq.cmdErr hseq, haccepted.also (by decide) hlink⟩

theorem fabSeqStart_answers (htake : s.takeEdges (· = 0x21) = some (l, u)) (hruns : s.seqRuns = true) (hlock : s.react.lockout = false)
    (hroom : s.ridge.m.queue.length < 64) (hhold : s.seq.state ≠ .hold) :
    Answers .fabSeqStart s fun t =>
      t.seq.pendStart = some (s.fabLaunch, true) ∧ t.seq.cmdErr = 0 ∧ t.fab = u.fab ∧ t.pins = s.pins := by
  have hexec : exec .fabSeqStart s = execFabSeqStart s := rfl
  rw [execFabSeqStart, htake] at hexec
  obtain ⟨es, rfl⟩ := State.takeEdges_eq htake
  obtain ⟨hpend, herr, hw⟩ :=
    State.acceptStart_spec (s := s.modFab fun f => { f with edges := es }) (t0 := s.fabLaunch) (fab := true) hroom
  exact .of_exec (hexec.trans ((if_neg (show ¬(!s.seqRuns) = true by simp [hruns])).trans (if_neg (by simp [hlock, hhold])))) rfl
    ⟨hpend, herr, hw.same .fab, hw.same .pins⟩

theorem fabSeqStart_lockout_answers (htake : s.takeEdges (· = 0x21) = some (l, u)) (hruns : s.seqRuns = true)
    (hlock : s.react.lockout = true) : Answers .fabSeqStart s fun t => t = { u with seq := { s.seq with cmdErr := 2 } } := by
  have hexec : exec .fabSeqStart s = execFabSeqStart s := rfl
  rw [execFabSeqStart, htake] at hexec
  obtain ⟨es, rfl⟩ := State.takeEdges_eq htake
  exact .of_exec (hexec.trans ((if_neg (show ¬(!s.seqRuns) = true by simp [hruns])).trans (if_pos (by simp [hlock])))) rfl rfl

theorem fabSeqStop_answers (htake : s.takeEdges (· = 0x22) = some (l, u)) (hruns : s.seqRuns = true)
    (hroom : s.ridge.m.queue.length < 64) :
    Answers .fabSeqStop s fun t => t.seq.pendStop = some s.fabLaunch ∧ t.seq.cmdErr = 0 ∧ t.pins = s.pins := by
  have hexec : exec .fabSeqStop s = execFabSeqStop s := rfl
  rw [execFabSeqStop, htake] at hexec
  obtain ⟨es, rfl⟩ := State.takeEdges_eq htake
  obtain ⟨hpend, herr, hw⟩ := State.acceptStop_spec (s := s.modFab fun f => { f with edges := es }) (t0 := s.fabLaunch) hroom
  exact .of_exec (hexec.trans (if_pos hruns)) rfl ⟨hpend, herr, hw.same .pins⟩

/-! ### GRPDN and RIDGE_TX (R189) -/

theorem grpdnEdge_answers (hg : g < 8) (htake : s.takeEdges (· = 0x18 + g % 8) = some (l, u)) (hruns : s.seqRuns = true)
    (hup : s.seq.state = .up) :
    Answers (.grpdnEdge g) s fun t => (t.seq.grpStop.getLsbD g || t.seq.grpDown.getLsbD g) = true ∧ t.seq.state = .up := by
  have hexec : exec (.grpdnEdge g) s = execGrpdnEdge g s := rfl
  rw [execGrpdnEdge, htake, Nat.mod_eq_of_lt hg] at hexec
  obtain ⟨es, rfl⟩ := State.takeEdges_eq htake
  refine .of_exec (hexec.trans (if_pos hruns)) ?_
    (State.groupStop_spec (s := s.modFab fun f => { f with edges := es }) (o := s.tb.now) hg hup)
  unfold State.grpdnAt
  rw [State.modFab_seq, hup]
  rfl

theorem ridgeTxEdge_answers (hn : n < 16) (htake : s.takeEdges (· = 0x38 + n % 16) = some (l, u)) (hshadow : s.isShadow = false)
    (hslv : s.isRole .slv = true) :
    Answers (.ridgeTxEdge n) s fun t =>
      t.ridge.s.evt = s.ridge.s.evt ^^^ BitVec.ofNat 16 (2 ^ n) ∧ t.regs = s.regs ∧ t.seq = s.seq := by
  have hexec : exec (.ridgeTxEdge n) s = execRidgeTxEdge n s := rfl
  rw [execRidgeTxEdge, htake, Nat.mod_eq_of_lt hn] at hexec
  obtain ⟨es, rfl⟩ := State.takeEdges_eq htake
  exact .of_exec (hexec.trans ((if_neg (ne_true_of_eq_false hshadow)).trans (if_pos hslv))) rfl ⟨rfl, rfl, rfl⟩

/-! ### MARGIN_ABORT (R322) -/

/-- A DAC that is nominal or on its way there. -/
def Dac.Returns (d : Dac) : Prop := d.state = .nominal ∨ d.state = .slewBack

theorem State.dac_modDac (f : Dac → Dac) :
    (s.modDac k f).dac m = if m = k ∧ k < s.mrg.dacs.length then f (s.dac m) else s.dac m := by
  by_cases hmk : k = m
  · subst hmk
    by_cases hlen : k < s.mrg.dacs.length <;> simp [State.dac, State.modDac, modAt, hlen]
  · simp [State.dac, State.modDac, modAt, hmk, Ne.symm hmk]

/-- The step of one DAC brings that DAC back, and no other one away. -/
theorem State.returns_mrgBack (h : m = k ∨ (s.dac m).Returns) : ((s.mrgBack k).dac m).Returns := by
  rw [State.mrgBack, State.dac_modDac]
  split
  · split
    · exact .inl ‹_›
    · split
      · exact .inl rfl
      · exact .inr rfl
  next hout =>
    rcases h with rfl | hback
    · have hbeyond : s.mrg.dacs.length ≤ m := by simpa using hout
      exact .inl (by simp [State.dac, hbeyond])
    · exact hback

theorem State.returns_foldl_mrgBack (ks : List Nat) (h : m ∈ ks ∨ (s.dac m).Returns) : ((ks.foldl State.mrgBack s).dac m).Returns := by
  induction ks generalizing s with
  | nil => simpa using h
  | cons k ks ih =>
    rcases h with hmem | hback
    · rcases List.mem_cons.mp hmem with heq | hmem
      · exact ih (.inr (State.returns_mrgBack (.inl heq)))
      · exact ih (.inl hmem)
    · exact ih (.inr (State.returns_mrgBack (.inr hback)))

theorem marginAbortEdge_answers (htake : s.takeEdges (· = 0x49) = some (l, u)) (hruns : s.seqRuns = true) :
    Answers .marginAbortEdge s fun t => ∀ m, m < 8 → (t.dac m).state = .nominal ∨ (t.dac m).state = .slewBack := by
  have hexec : exec .marginAbortEdge s = execMarginAbortEdge s := rfl
  rw [execMarginAbortEdge, htake] at hexec
  obtain ⟨es, rfl⟩ := State.takeEdges_eq htake
  exact .of_exec (hexec.trans (if_pos hruns)) rfl fun m hm => State.returns_foldl_mrgBack _ (.inl (List.mem_range.mpr hm))

/-- Settles O21: each row takes its edge out of the fabric's record, and acts where the sequencer, or the slave's link, runs. -/
theorem fabricEventsComplete : Obligations.FabricEventsComplete :=
  ⟨fun _ _ hk hlists => fabTimerExpiry_answers hk hlists, fun _ _ hn _ _ => fabIrqEdge_answers hn, fun _ _ _ => fabSeqStart_answers,
    fun _ _ _ => fabSeqStart_lockout_answers, fun _ _ _ => fabSeqStop_answers, fun _ _ hg _ _ => grpdnEdge_answers hg,
    fun _ _ hn _ _ => ridgeTxEdge_answers hn, fun _ _ _ => marginAbortEdge_answers⟩

end Sys2Proof.Machine
end

section
/-! SUPPORT. Obligation settled: the commands of `IMG_CTRL`, and the reload guard over a comparator that stands asserted
(spec/05_configuration_image_and_thatch_fabric.md R182, R183). -/

namespace Sys2Proof.Machine

variable {s : State} {p : Port} {v : Word} {g : ImageInfo}

/-- A full reload accepted: the fabric stands, the guard is engaged, and the comparators are judged (R182 step 1). -/
def State.guardEngaged (s : State) : State :=
  ((s.modImg fun i => { i with err := 0, op := .full, reload := 1 }).chkAbortNow.fabStop.modFab fun f => { f with guard := true }).watch s

/-- An ACTIVATE_FULL of the verified image that nothing refuses (R181). -/
theorem State.access_activateFull (hcheck : (s.checkSlot (bit v 0)).2 = some g) (h : Reaches s p Reg.imgCtrl)
    (hkey : fld v 16 16 = 0x1A6E) (haction : fld v 8 2 = 3) (hop : s.img.op = .none) (hruns : s.running = true)
    (hverified : s.img.verified = true) (hslot : s.img.vslot = bit v 0) (hrefuses : s.fullRefuses g = 0) :
    s.access p Reg.imgCtrl v = s.guardEngaged := by
  have hwrite : s.access p Reg.imgCtrl v = s.imgCtrlWrite v := State.access_wo h acc_imgCtrl
  simp [hwrite, State.imgCtrlWrite, hkey, haction, hop, hruns, State.activateFull, hverified, hslot, hcheck, hrefuses, State.guardEngaged]

/-- The words of an SGL image, signed under a key that an OPEN device accepts (Tables 5-1 to 5-4): channel 0 is the SRC channel, and rail
0 is SEQUENCED with channel 1 as its sense and the reaction GROUP. No sink of the fabric is used. -/
def guardWords : List Nat :=
  [0x5A574931, 0x10000, 0x168, 0x5, 0x1, 0x7, 0x77, 0x24501228, 0x1, 0x10, 0x10010, 0x1, 0x1002C, 0x0, 0x472A3319, 0x2, 0x38,
   0x10800, 0x1, 0x10820, 0x1, 0x10830, 0x10100, 0x10840, 0x1, 0x10860, 0x4, 0x10E00, 0x3E8, 0x10E08, 0x10000, 0x5C98350D, 0x3,
   0x8, 0x11174, 0x0, 0xE19052EC, 0x4, 0x8, 0x11218, 0x7D0, 0x89DEAAEC, 0x5, 0x8, 0x11400, 0x2, 0x622A434E, 0x7, 0x8, 0x12540,
   0x7D0, 0x4B116DB1, 0x10010, 0x8, 0x1083C, 0x640000, 0xBADF9710, 0x53494730, 0x183FFA87, 0x6BC8F19A, 0x5D085949, 0x96FD2EBC,
   0x1E39FA36, 0x2FD4E668, 0xF2BB2734, 0x76062651, 0xC0A7185C, 0x5D69BA4E, 0xC3C2E9AF, 0x5209558C, 0x6B9C50F6, 0xCC7CD5ED,
   0x4284E4E7, 0x29E96BD4, 0xF763B103, 0x6354350C, 0xFBBEE7A1, 0xBFE8CCE3, 0x8E4B9DC4, 0x9520DA45, 0xE3EB15, 0xF9592C47,
   0x6C31AECE, 0x2DBC8125, 0x6FB997E9, 0xC1C8FB17, 0x1A346E76, 0xFD4A51C4, 0x78E965EA, 0x1F362412]

/-- What a device keeps of that image. -/
def guardImage : ImageInfo :=
  { role := .sgl, pair := false, version := 5, svn := 0, oemTag := 0x77, imgTag := 0xF2707EA4, devKey := true,
    secs :=
      [{ tag := 1, live := false, len := 16, crc := 0x472A3319 }, { tag := 2, live := false, len := 56, crc := 0x5C98350D },
       { tag := 3, live := false, len := 8, crc := 0xE19052EC }, { tag := 4, live := false, len := 8, crc := 0x89DEAAEC },
       { tag := 5, live := false, len := 8, crc := 0x622A434E }, { tag := 7, live := false, len := 8, crc := 0x4B116DB1 },
       { tag := 16, live := true, len := 8, crc := 0xBADF9710 }],
    vals :=
      [(Reg.sysEnmode0, 1), (Reg.sysSrcCfg, 0), (Reg.chCfg 0, 1), (Reg.chCmpCfg 0, 1), (Reg.chRailCfg 0, 0x00010100),
       (Reg.chRamp 0, 0x00640000), (Reg.chCfg 1, 1), (Reg.chCmpCfg 1, 4), (Reg.chScanCfg, 1000), (Reg.chWetCfg, 0x00010000),
       (Reg.reactRailCfg 0, 2)] }

/-- A device in HOLD that runs the image, with rail 0 ON and its EN pin high. The FH comparator of the rail's sense stands asserted,
which no sink of the fabric acts on. The image stands verified in slot A. The other blocks are those of the reset state. -/
def guardedHold : State :=
  { State.reset with
      role := { RoleRec.init with role := .sgl, state := .running }, boot := { Boot.init with stage := 7, shadowOk := true },
      rst := { RstRec.init with run := none, domains := 6, hifUp := true }, regs := guardImage.vals,
      img := { Img.init with running := some guardImage, runSlot := true, verified := true, vrej := 0 },
      nvm := { Nvm.init with mram := (guardWords.zipIdx.filter fun e => decide (e.1 ≠ 0)).map fun e => (4 * e.2, w32 e.1) },
      cmp :=
        { Cmp.init with
            armed := true,
            ch := Cmp.init.ch.set 1 { CmpCh.init with fh := { Comp.init with out := true, q := true, live := true } } },
      seq := { Seq.init with state := .hold, holdFrom := .up, rails := Seq.init.rails.set 0 { Rail.init with state := .on, en := true } },
      pins := { Pins.init with en := Pins.init.en.set 0 (.role 1 true) } }

/-- The write of `IMG_CTRL` that asks for ACTIVATE_FULL of slot A. -/
def activateFullA : Word := 0x1A6E0300#32

theorem checkSlot_guardedHold : (guardedHold.checkSlot false).2 = some guardImage := by decide +kernel

theorem reaches_guardedHold : Reaches guardedHold .host Reg.imgCtrl := by
  unfold Reaches
  decide +kernel

theorem fullRefuses_guardedHold : guardedHold.fullRefuses guardImage = 0 := by decide +kernel

/-- The guard turns the rail off in the cycle in which it engages (R182). -/
theorem pin_guardEngaged_guardedHold : guardedHold.guardEngaged.pins.en.getD 0 .highZ = .role 1 false := by
  decide +kernel

theorem exec_imgActivateFull_guardedHold : exec (.imgActivateFull .host activateFullA) guardedHold = .next guardedHold.guardEngaged :=
  congrArg ok (State.access_activateFull checkSlot_guardedHold reaches_guardedHold (by decide) (by decide) rfl rfl rfl rfl
    fullRefuses_guardedHold)

/-- Refutes O18: the reload guard of an ACTIVATE_FULL acts on levels, and turns off at once a rail in ON whose sense stands asserted and
whose reaction is not IGNORE (R182, R183). In such a HOLD the pins do not stay as they were. -/
theorem not_imageCommandsComplete : ¬ Obligations.ImageCommandsComplete := by
  rintro ⟨⟨-, -, -, hfull, -⟩, -⟩
  obtain ⟨t, hexec, -, -, -, -, -, hpins⟩ :=
    hfull guardedHold .host activateFullA guardImage checkSlot_guardedHold reaches_guardedHold (by decide) (by decide) rfl rfl rfl rfl
      fullRefuses_guardedHold
  obtain rfl : guardedHold.guardEngaged = t := by simpa [exec_imgActivateFull_guardedHold] using hexec
  have hmoved := pin_guardEngaged_guardedHold
  rw [hpins] at hmoved
  exact absurd hmoved (by decide)

end Sys2Proof.Machine
end

section
/-! SUPPORT. What the engines behind a publication, and the comparators of a channel, leave of the measurement: the scan, the fabric, the
pending LIVE writes, and the registers up to the end of the result bank (spec/06_ladder_front_end_and_measurement.md R205 to R228). -/

-- A lemma's default argument is ready only once its proof is: taken up all at once, the lemmas below would wait in a thread each.
set_option Elab.async false

namespace Sys2Proof.Machine

variable {bs : List Block} {s₀ s t u : State} {n a : Nat} {v : Word}

/-- First address above the channel, wet-check, scan, result and snapshot registers (chapter 6); the latches, the sequencer, the scheduler
and the link follow. -/
def resultsEnd : Nat := 0x1100

/-- The measurement, the fabric, the pending LIVE writes and the registers up to the result bank stay as they were. -/
structure ResultsKept (s t : State) : Prop where
  meas : t.meas = s.meas
  fab : t.fab = s.fab
  live : t.live = s.live
  liveImg : t.liveImg = s.liveImg
  reg : ∀ a < resultsEnd, t.reg a = s.reg a

namespace ResultsKept

theorem refl : ResultsKept s s := ⟨rfl, rfl, rfl, rfl, fun _ _ => rfl⟩

theorem trans (h : ResultsKept s t) (h' : ResultsKept t u) : ResultsKept s u :=
  ⟨h'.meas.trans h.meas, h'.fab.trans h.fab, h'.live.trans h.live, h'.liveImg.trans h.liveImg,
    fun a ha => (h'.reg a ha).trans (h.reg a ha)⟩

/-- A change of other blocks. -/
theorem also (h : ResultsKept s₀ s) (hw : Within bs s t)
    (hb : ∀ b ∈ [Block.meas, .fab, .live, .liveImg, .regs], b ∉ bs := by decide) : ResultsKept s₀ t := by
  have hregs : t.regs = s.regs := hw .regs (hb _ (by simp))
  exact h.trans ⟨hw .meas (hb _ (by simp)), hw .fab (hb _ (by simp)), hw .live (hb _ (by simp)), hw .liveImg (hb _ (by simp)),
    fun a _ => by rw [State.reg, hregs, State.reg]⟩

/-- A register above the result bank. -/
theorem setReg (h : ResultsKept s₀ s) (ha : resultsEnd ≤ a := by decide) : ResultsKept s₀ (s.setReg a v) :=
  h.trans ⟨rfl, rfl, rfl, rfl, fun _ hb => State.reg_setReg_ne s (by omega)⟩

theorem either {c : Prop} [Decidable c] (ht : ResultsKept s t) (hu : ResultsKept s u) : ResultsKept s (if c then t else u) := by
  split
  · exact ht
  · exact hu

theorem foldl {α : Type} {f : State → α → State} {xs : List α} (h : ResultsKept s t)
    (hf : ∀ t x, ResultsKept s t → ResultsKept s (f t x)) : ResultsKept s (xs.foldl f t) :=
  List.foldlRecOn xs f h fun t h x _ => hf t x h

theorem modSeq {f : Seq → Seq} (h : ResultsKept s₀ s) : ResultsKept s₀ (s.modSeq f) := h.also (bs := [.seq]) Within.refl.modSeq

/-! ### Comparators of a channel -/

theorem setLat {high b : Bool} (h : ResultsKept s₀ s) : ResultsKept s₀ (s.setLat n high b) :=
  h.setReg (by cases high <;> decide)

theorem setQ {high b : Bool} (h : ResultsKept s₀ s) : ResultsKept s₀ (s.setQ n high b) := by
  have hq (f : Comp → Comp) : ResultsKept s₀ (s.modComp n high f) := h.also (bs := [.cmp]) Within.refl.modComp
  exact either (hq _).setLat (hq _)

theorem setOut {high b : Bool} (h : ResultsKept s₀ s) : ResultsKept s₀ (s.setOut n high b) := by
  have hout (f : Comp → Comp) : ResultsKept s₀ (s.modComp n high f) := h.also (bs := [.cmp]) Within.refl.modComp
  exact either (hout _) (hout _).setQ

theorem follow {high : Bool} (h : ResultsKept s₀ s) : ResultsKept s₀ (s.follow n high) := by
  have hown (lvl : Bool) : ResultsKept s₀ (if (s.comp n high).out = lvl then s else s.setOut n high lvl) := either h h.setOut
  exact either h (either (hown _).setOut (hown _))

theorem followCh (h : ResultsKept s₀ s) : ResultsKept s₀ (s.followCh n) := h.follow.follow

/-! ### Warnings -/

theorem countMasked {high : Bool} (h : ResultsKept s₀ s) : ResultsKept s₀ (s.countMasked n high) := by
  unfold State.countMasked
  split
  · exact h.also (bs := [.mrg]) Within.refl.modDac
  · exact h

theorem countEvent {k : CounterKind} (h : ResultsKept s₀ s) : ResultsKept s₀ (s.countEvent n k) :=
  h.also (bs := [.nvm]) Within.refl.countEvent

/-- The count of a warning asserted, masked by a margin or not. -/
theorem warned {up masked high : Bool} (h : ResultsKept s₀ s) :
    ResultsKept s₀ (if up then (if masked then s.countMasked n high else s.countEvent n .warn) else s) :=
  either (either h.countMasked h.countEvent) h

theorem warnEval {r : ScanRun} (h : ResultsKept s₀ s) : ResultsKept s₀ (State.warnEval r s n) := by
  unfold State.warnEval
  extract_lets
  refine either h ?_
  split
  split
  extract_lets
  exact (h.also (bs := [.cmp]) Within.refl.modCmpCh).warned.warned

/-! ### Settling of the sequencer -/

theorem goRail {st : RailState} (h : ResultsKept s₀ s) : ResultsKept s₀ (s.goRail n st) :=
  h.also (bs := [.seq, .mrg, .sched]) Within.refl.goRail

theorem cancelOwn {c : RidgeCmd} (h : ResultsKept s₀ s) : ResultsKept s₀ (s.cancelOwn c) :=
  h.also (bs := [.seq]) Within.refl.cancelOwn

theorem modRidge {f : Ridge → Ridge} (h : ResultsKept s₀ s) : ResultsKept s₀ (s.modRidge f) :=
  h.also (bs := [.ridge]) Within.refl.modRidge

theorem dropCmd {q : QueueCmd} (h : ResultsKept s₀ s) : ResultsKept s₀ (s.dropCmd q) := by
  unfold State.dropCmd
  extract_lets noted own event host polled
  have hnoted : ResultsKept s₀ noted := h.setReg
  have hown : ResultsKept s₀ own := either hnoted.cancelOwn.modSeq hnoted
  have hevent : ResultsKept s₀ event := either hown.setReg.setReg hown
  have hhost : ResultsKept s₀ host := either hevent.setReg.setReg hevent
  have hpolled : ResultsKept s₀ polled := either (hhost.also (bs := [.sched]) Within.refl.modSched) hhost
  exact either hpolled.setReg.setReg.modRidge hpolled

theorem cascade {op : Nat} {o : Option (BitVec 32)} {w : Word} (h : ResultsKept s₀ s) : ResultsKept s₀ (s.cascade op o w) :=
  either h.dropCmd h.modRidge

theorem settleGroups (h : ResultsKept s₀ s) : ResultsKept s₀ s.settleGroups := h.foldl fun _ _ h => either h.modSeq h

theorem enterUp (h : ResultsKept s₀ s) : ResultsKept s₀ s.enterUp := h.modSeq.setReg

theorem enterDownHold (h : ResultsKept s₀ s) : ResultsKept s₀ s.enterDownHold := by
  unfold State.enterDownHold
  have hrails : ResultsKept s₀ (railNums.foldl (fun t n => if t.rstate n = .faulted then t.offRail n .off else t) s) :=
    h.foldl fun _ _ h => either (h.also (bs := [.pins, .seq, .mrg, .sched]) Within.refl.offRail) h
  exact ResultsKept.modSeq (ResultsKept.setReg (hrails.also (bs := [.react]) Within.refl.modReact))

theorem masterRestart (h : ResultsKept s₀ s) : ResultsKept s₀ s.masterRestart := by
  unfold State.masterRestart
  extract_lets noted
  have hnoted : ResultsKept s₀ noted := either h.modSeq h
  refine either h ?_
  split
  · exact either hnoted (either hnoted.modSeq.cascade hnoted.cascade)
  · exact hnoted

theorem settle (h : ResultsKept s₀ s) : ResultsKept s₀ s.settle := by
  unfold State.settle
  extract_lets grouped
  have hgrouped : ResultsKept s₀ grouped := h.settleGroups
  split
  · exact either hgrouped.enterUp hgrouped
  · exact either hgrouped (either (either hgrouped (hgrouped.also (bs := [.react]) Within.refl.modReact))
      hgrouped.enterDownHold.masterRestart)
  · exact hgrouped

theorem dischPublished {chans : List Nat} (h : ResultsKept s₀ s) : ResultsKept s₀ (s.dischPublished chans) :=
  (h.foldl fun _ _ h => either h.goRail h).settle

/-! ### Current supervision -/

theorem setUnsensed (h : ResultsKept s₀ s) : ResultsKept s₀ (s.setUnsensed n) := either h h.setReg.setReg

theorem phasePub {r : ScanRun} {chans : List Nat} (h : ResultsKept s₀ s) : ResultsKept s₀ (State.phasePub r chans s n) := by
  unfold State.phasePub
  refine either h ?_
  extract_lets val ph x now cur inside same supervised
  have hsupervised : ResultsKept s₀ supervised := h.also (bs := [.sched]) Within.refl.modSched
  exact either hsupervised.setUnsensed hsupervised

end ResultsKept

theorem Within.judgeUnsensed (h : Within bs s₀ s) (hl : [.regs] ⊆ bs := by decide) : Within bs s₀ s.judgeUnsensed :=
  h.also hl (refl.foldl fun _ _ h => either (either h h.setRegBit.schedEvt) h)

end Sys2Proof.Machine
end

section
/-! SUPPORT. Obligation settled: scan edges, publications, stop and start of the scans
(spec/06_ladder_front_end_and_measurement.md R205 to R209, R213, R214). -/

-- A lemma's default argument is ready only once its proof is: taken up all at once, the lemmas below would wait in a thread each.
set_option Elab.async false

namespace Sys2Proof.Machine

variable {bs : List Block} {s₀ s t : State} {n a : Nat} {v : Word} {p : Port} {r : ScanRun} {codes : List Int} {avdd : Int}

/-! ### Scan edges (R205) -/

namespace Within

theorem restartFilters (h : Within bs s₀ s) (hl : [.meas, .cmp] ⊆ bs := by decide) : Within bs s₀ s.restartFilters :=
  h.also hl (refl.foldl fun _ _ h => h.restartFilter)

theorem shadowLive (h : Within bs s₀ s) (hl : [.regs, .meas, .cmp] ⊆ bs := by decide) : Within bs s₀ s.shadowLive :=
  h.also hl (either (refl.foldl fun _ _ h => h.putLive) refl)

theorem clearLat {high : Bool} (h : Within bs s₀ s) (hl : [.regs] ⊆ bs := by decide) : Within bs s₀ (s.clearLat n high) :=
  h.also hl (either refl refl.setLat)

theorem periodClear {code : Nat} (h : Within bs s₀ s) (hl : [.regs] ⊆ bs := by decide) : Within bs s₀ (s.periodClear code) :=
  h.also hl (refl.foldl fun _ _ h => either h.clearLat.clearLat h)

theorem takeScan (h : Within bs s₀ s) (hl : [.meas, .cmp] ⊆ bs := by decide) : Within bs s₀ (s.takeScan codes avdd) :=
  h.also hl (either refl.restartFilters refl).modMeas

end Within

/-- The samples carry the timestamp of their edge, and the filters have restarted where they were to. -/
theorem State.takeScan_meas (s : State) (codes : List Int) (avdd : Int) :
    (∃ r, (s.takeScan codes avdd).meas.scan = some r ∧ r.ts = s.tb.now ∧ r.codes = codes ∧ r.avdd = avdd ∧ r.at_ = s.ticks) ∧
      (s.takeScan codes avdd).meas.lastTs = s.tb.now ∧ (s.takeScan codes avdd).meas.restart = false := by
  unfold State.takeScan
  extract_lets restarted short take run
  have hrestarted : Within [.meas, .cmp] s restarted := .either Within.refl.restartFilters .refl
  have hnow : restarted.tb.now = s.tb.now := congrArg Tb.now (hrestarted.same .tb)
  exact ⟨⟨run, rfl, hnow, rfl, rfl, hrestarted.same .ticks⟩, hnow, rfl⟩

/-- The state as a scan edge finds it for its samples: the LIVE values have taken effect, and latches that a scan clears have cleared. -/
def State.edgeReady (s : State) : State :=
  (if !s.live.isEmpty || s.liveImg.isSome then s.liveApply else s).shadowLive.periodClear 1

theorem State.edgeReady_within (s : State) : Within [.regs, .live, .liveImg, .img, .meas, .cmp, .hif] s s.edgeReady :=
  (Within.either Within.refl.liveApply .refl).shadowLive.periodClear

theorem exec_scanEdge (hdue : s.scanDue = true) (hawake : s.pwr.doze = false) :
    exec (.scanEdge codes avdd) s = .next (s.edgeReady.takeScan codes avdd) :=
  if_pos (by simp [hdue, hawake])

theorem scanEdge_answers (hdue : s.scanDue = true) (hawake : s.pwr.doze = false) :
    Answers (.scanEdge codes avdd) s fun t =>
      (∃ r, t.meas.scan = some r ∧ r.ts = s.tb.now ∧ r.codes = codes ∧ r.avdd = avdd ∧ r.at_ = s.ticks) ∧
      t.meas.lastTs = s.tb.now ∧ t.meas.restart = false ∧ t.seq = s.seq ∧ t.pins = s.pins := by
  have hready := s.edgeReady_within
  have htb : s.edgeReady.tb = s.tb := hready.same .tb
  have hticks : s.edgeReady.ticks = s.ticks := hready.same .ticks
  have htaken := hready.takeScan (codes := codes) (avdd := avdd)
  have hmeas := s.edgeReady.takeScan_meas codes avdd
  rw [htb, hticks] at hmeas
  exact .of_exec (exec_scanEdge hdue hawake) rfl ⟨hmeas.1, hmeas.2.1, hmeas.2.2, htaken.same .seq, htaken.same .pins⟩

/-! ### The words of a scan (R207, R210 to R217) -/

/-- The words of a scan have gone to their registers: the scan, its status and its time are still to follow. -/
structure WordsOnly (s t : State) : Prop where
  frame : Within [.regs, .meas] s t
  scan : t.meas.scan = s.meas.scan
  stat : t.reg Reg.resScanStat = s.reg Reg.resScanStat
  wf : Store.wf regDflt s.regs = true → Store.wf regDflt t.regs = true

namespace WordsOnly

theorem refl : WordsOnly s s := ⟨.refl, rfl, rfl, id⟩

theorem modMeasCh {f : MeasCh → MeasCh} (h : WordsOnly s₀ s) : WordsOnly s₀ (s.modMeasCh n f) :=
  ⟨h.frame.modMeasCh, h.scan, h.stat, h.wf⟩

theorem setReg (h : WordsOnly s₀ s) (ha : a ≠ Reg.resScanStat) : WordsOnly s₀ (s.setReg a v) :=
  ⟨h.frame.setReg, h.scan, (State.reg_setReg_ne s ha).trans h.stat, fun hwf => State.wf_setReg s (h.wf hwf)⟩

theorem publishCh (h : WordsOnly s₀ s) (hn : n < 24) : WordsOnly s₀ (State.publishCh r s n) := by
  have hres : Reg.resCh n ≠ Reg.resScanStat := by simp only [Reg.resCh, Reg.resScanStat]; omega
  have htemp : Reg.chTemp n ≠ Reg.resScanStat := by simp only [Reg.chTemp, Reg.resScanStat]; omega
  unfold State.publishCh
  extract_lets
  split
  · exact h
  · split
    split
    · exact h.modMeasCh
    · dsimp only
      split
      · exact (h.modMeasCh.setReg hres).setReg htemp
      · exact h.modMeasCh.setReg hres

end WordsOnly

/-- The words that a scan gives its channels. -/
def State.scanWords (s : State) (r : ScanRun) : State := (List.range 24).foldl (State.publishCh r) s

theorem State.scanWords_spec (s : State) (r : ScanRun) : WordsOnly s (s.scanWords r) :=
  List.foldlRecOn _ _ .refl fun _ h _ hn => h.publishCh (List.mem_range.mp hn)

/-! ### The publication (R207) -/

/-- `RES_SCAN_STAT` of a published scan: the count is one on. -/
def State.nextScanStat (s : State) (r : ScanRun) : Word :=
  pack [(s.regFld Reg.resScanStat 16 16 + 1, 16, 16), (b2n r.short, 1, 1)]

/-- A scan whose words stand is shown with its time and count, and is over. -/
def State.scanClosed (s : State) (r : ScanRun) : State :=
  ((s.setReg Reg.resScanTime r.ts).setReg Reg.resScanStat (s.nextScanStat r)).modMeas fun m => { m with scan := none }

theorem State.publishScan_eq (h : s.meas.scan = some r) :
    s.publishScan = if ((s.scanWords r).scanClosed r).regBit Reg.resSnapStat 1 then ((s.scanWords r).scanClosed r).copySnap
      else (s.scanWords r).scanClosed r := by
  have hstat (u : State) : (u.setReg Reg.resScanTime r.ts).nextScanStat r = u.nextScanStat r := by
    rw [State.nextScanStat, State.regFld, State.reg_setReg_ne u (by decide), State.nextScanStat, State.regFld]
  unfold State.publishScan State.scanClosed
  rw [h, ← hstat]
  rfl

theorem fld_nextScanStat (r : ScanRun) : fld (s.nextScanStat r) 16 16 = (s.regFld Reg.resScanStat 16 16 + 1) % 65536 := by
  cases r.short
  all_goals
    simp [State.nextScanStat, pack, fld, w32, b2n]
    omega

/-- A snapshot leaves the time and the status of the scan as they read. -/
theorem State.reg_copySnap_scan (ha : a = Reg.resScanTime ∨ a = Reg.resScanStat) : s.copySnap.reg a = s.reg a := by
  have hne : Reg.resSnapStat ≠ a ∧ Reg.resSnapTime ≠ a := by rcases ha with rfl | rfl <;> decide
  rw [State.copySnap_eq, State.snapDone, State.reg_setReg_ne _ hne.1, State.reg_setReg_ne _ hne.2]
  refine State.reg_snapWords_ne fun n hn => ?_
  simp only [Reg.resScanTime, Reg.resScanStat] at ha
  simp only [Reg.resCh, Reg.resSnap]
  omega

/-- What a publication leaves: the scan is over, and its time and count stand. -/
structure ScanPublished (s : State) (r : ScanRun) (t : State) : Prop where
  frame : Within [.regs, .meas] s t
  scan : t.meas.scan = none
  shown : Store.wf regDflt s.regs = true →
    t.reg Reg.resScanTime = r.ts ∧ fld (t.reg Reg.resScanStat) 16 16 = (s.regFld Reg.resScanStat 16 16 + 1) % 65536

theorem State.scanClosed_published (r : ScanRun) : ScanPublished s r ((s.scanWords r).scanClosed r) := by
  obtain ⟨hframe, -, hstat, hwf⟩ := s.scanWords_spec r
  refine ⟨hframe.setReg.setReg.modMeas, rfl, fun h => ⟨?time, ?count⟩⟩
  case time => exact (State.reg_setReg_ne _ (by decide)).trans (State.reg_setReg_same _ (hwf h))
  case count =>
    have hreg : ((s.scanWords r).scanClosed r).reg Reg.resScanStat = (s.scanWords r).nextScanStat r :=
      State.reg_setReg_same _ (State.wf_setReg _ (hwf h))
    rw [hreg, fld_nextScanStat, State.regFld, hstat, State.regFld]

theorem ScanPublished.copySnap (h : ScanPublished s r t) : ScanPublished s r t.copySnap where
  frame := h.frame.copySnap
  scan := (congrArg Meas.scan ((Within.refl (bs := [.regs])).copySnap.same .meas)).trans h.scan
  shown hwf := by
    rw [State.reg_copySnap_scan (.inl rfl), State.reg_copySnap_scan (.inr rfl)]
    exact h.shown hwf

theorem State.publishScan_spec (h : s.meas.scan = some r) : ScanPublished s r s.publishScan := by
  have hclosed := State.scanClosed_published (s := s) r
  rw [State.publishScan_eq h]
  split
  · exact hclosed.copySnap
  · exact hclosed

/-- The judgements over a scan just published: warnings, discharge levels and current supervision. -/
def State.scanJudged (s : State) (r : ScanRun) (chans : List Nat) : State :=
  let t := chans.foldl (State.warnEval r) s
  let t := if t.seqCounts then t.dischPublished chans else t
  if t.rail then railNums.foldl (State.phasePub r chans) t else t

theorem State.scanJudged_kept (s : State) (r : ScanRun) (chans : List Nat) : ResultsKept s (s.scanJudged r chans) := by
  unfold State.scanJudged
  extract_lets warned discharged
  have hwarned : ResultsKept s warned := ResultsKept.refl.foldl fun _ _ h => h.warnEval
  have hdischarged : ResultsKept s discharged := .either hwarned.dischPublished hwarned
  exact .either (hdischarged.foldl fun _ _ h => h.phasePub) hdischarged

/-- A publication before the pending LIVE writes of a stopped engine. -/
def State.published (s : State) (r : ScanRun) : State := s.publishScan.scanJudged r (publishedIn s s.publishScan)

theorem exec_publication (hscan : s.meas.scan = some r) (hclock : s.clk.gated = false) :
    exec .publication s = .next (s.published r).liveSettle := by
  change execPublication s = _
  simp only [execPublication, hscan, hclock]
  rfl

theorem State.published_scan (h : s.meas.scan = some r) : (s.published r).meas.scan = none := by
  have hkept := s.publishScan.scanJudged_kept r (publishedIn s s.publishScan)
  exact (congrArg Meas.scan hkept.meas).trans (State.publishScan_spec h).scan

/-! ### LIVE writes that follow (R11) -/

/-- The scan in flight, and whether the engine takes edges. -/
def SameScan (s t : State) : Prop := t.meas.scan = s.meas.scan ∧ t.meas.active = s.meas.active

namespace SameScan

theorem refl : SameScan s s := ⟨rfl, rfl⟩

theorem also (h : SameScan s₀ s) (hw : Within bs s t) (hb : .meas ∉ bs := by decide) : SameScan s₀ t := by
  have hmeas : t.meas = s.meas := hw .meas hb
  exact ⟨(congrArg Meas.scan hmeas).trans h.1, (congrArg Meas.active hmeas).trans h.2⟩

theorem putLive (h : SameScan s₀ s) : SameScan s₀ (s.putLive a v) := by
  unfold State.putLive
  split
  · exact h
  · dsimp only
    split
    · exact h
    · exact h

theorem liveApply (h : SameScan s₀ s) : SameScan s₀ s.liveApply := by
  unfold State.liveApply
  split
  · have hstart : SameScan s₀ ({ s with live := [], liveImg := none } : State) := h
    exact (List.foldlRecOn _ _ hstart fun _ h _ _ => h.putLive).also (bs := [.img, .hif]) Within.refl.modImg.imgOpEnd
  · have hjudged : SameScan s₀ ({ s.judgeLive.2 with live := [] } : State) :=
      h.also (bs := [.regs, .cmp, .live]) Within.refl.judgeLive.withLive
    exact List.foldlRecOn _ _ hjudged fun _ h _ _ => h.putLive

theorem liveSettle (h : SameScan s₀ s) : SameScan s₀ s.liveSettle := by
  unfold State.liveSettle
  split
  · exact h.liveApply
  · exact h

end SameScan

theorem State.liveSettle_of_nothing (hlive : s.live = []) (himg : s.liveImg = none) : s.liveSettle = s :=
  if_neg (by simp [hlive, himg])

theorem publication_answers (hscan : s.meas.scan = some r) (hclock : s.clk.gated = false) :
    Answers .publication s fun t => t.meas.scan = none ∧ t.fab = s.fab := by
  have hkept := s.publishScan.scanJudged_kept r (publishedIn s s.publishScan)
  have hpublished : s.publishScan.fab = s.fab := (State.publishScan_spec hscan).frame.same .fab
  have hsettled : Within [.regs, .live, .liveImg, .img, .meas, .cmp, .hif] (s.published r) (s.published r).liveSettle :=
    Within.refl.liveSettle
  have hfab : (s.published r).liveSettle.fab = (s.published r).fab := hsettled.same .fab
  exact .of_exec (exec_publication hscan hclock) rfl
    ⟨SameScan.refl.liveSettle.1.trans (State.published_scan hscan), hfab.trans (hkept.fab.trans hpublished)⟩

theorem publication_registers_answers (hscan : s.meas.scan = some r) (hclock : s.clk.gated = false)
    (hwf : Store.wf regDflt s.regs = true) (hlive : s.live = []) (himg : s.liveImg = none) :
    Answers .publication s fun t =>
      t.reg Reg.resScanTime = r.ts ∧ fld (t.reg Reg.resScanStat) 16 16 = (s.regFld Reg.resScanStat 16 16 + 1) % 65536 := by
  have hkept := s.publishScan.scanJudged_kept r (publishedIn s s.publishScan)
  have hspec := State.publishScan_spec hscan
  have hlive' : s.publishScan.live = s.live := hspec.frame.same .live
  have himg' : s.publishScan.liveImg = s.liveImg := hspec.frame.same .liveImg
  have hnone : (s.published r).liveSettle = s.published r :=
    State.liveSettle_of_nothing (hkept.live.trans (hlive'.trans hlive)) (hkept.liveImg.trans (himg'.trans himg))
  refine .of_exec (exec_publication hscan hclock) hnone ?_
  rw [State.published, hkept.reg _ (by decide), hkept.reg _ (by decide)]
  exact hspec.shown hwf

/-! ### Stop and start (R209) -/

theorem State.access_scanCtrl (h : Reaches s p Reg.resScanCtrl) : s.access p Reg.resScanCtrl v = s.scanCtrlWrite v :=
  State.access_rw h acc_resScanCtrl (if_pos rfl)

theorem scanStop_answers (h : Reaches s p Reg.resScanCtrl) (hstop : bit v 0 = false) (hruns : s.regBit Reg.resScanCtrl 0 = true) :
    Answers (.scanStop p v) s fun t => t.meas.active = false ∧ t.meas.scan = s.meas.scan ∧ t.seq = s.seq := by
  have hleaves : s.access p Reg.resScanCtrl v = (s.setReg Reg.resScanCtrl (v &&& 1)).stopScan.liveSettle := by
    rw [State.access_scanCtrl h]
    simp [State.scanCtrlWrite, hstop, hruns]
  have hsettled : SameScan (s.setReg Reg.resScanCtrl (v &&& 1)).stopScan (s.setReg Reg.resScanCtrl (v &&& 1)).stopScan.liveSettle :=
    SameScan.refl.liveSettle
  have hframe : Within [.regs, .live, .liveImg, .img, .meas, .cmp, .hif] s (s.setReg Reg.resScanCtrl (v &&& 1)).stopScan.liveSettle :=
    Within.refl.setReg.stopScan.liveSettle
  exact .of_exec rfl hleaves ⟨hsettled.2, hsettled.1, hframe.same .seq⟩

theorem scanRestart_answers (h : Reaches s p Reg.resScanCtrl) (hstart : bit v 0 = true) (hstopped : s.regBit Reg.resScanCtrl 0 = false) :
    Answers (.scanRestart p v) s fun t =>
      t.meas.active = true ∧ t.meas.restart = true ∧ t.meas.notUntil = s.ticks + 2 ∧ t.seq = s.seq := by
  have hleaves : s.access p Reg.resScanCtrl v = (s.setReg Reg.resScanCtrl (v &&& 1)).startScan := by
    rw [State.access_scanCtrl h]
    simp [State.scanCtrlWrite, hstart, hstopped]
  exact .of_exec rfl hleaves ⟨rfl, rfl, rfl, rfl⟩

/-- Settles O23: an edge takes its samples after the LIVE values (R205); a publication writes the scan's time and count, which none of the
judgements over it touches (R207); a write of `RUN` stops or starts the scans (R209). -/
theorem scansComplete : Obligations.ScansComplete :=
  ⟨⟨fun _ _ _ => scanEdge_answers, fun _ _ => publication_answers, fun _ _ => publication_registers_answers⟩,
    fun _ _ _ => scanStop_answers, fun _ _ _ => scanRestart_answers⟩

end Sys2Proof.Machine
end

section
/-! SUPPORT. Obligation settled: the wet-board check and the comparators' self-checks
(spec/06_ladder_front_end_and_measurement.md R221 to R226; spec/07_fast_comparators.md R245 to R249). -/

-- A lemma's default argument is ready only once its proof is: taken up all at once, the lemmas below would wait in a thread each.
set_option Elab.async false

namespace Sys2Proof.Machine

variable {bs : List Block} {s₀ s t : State} {n i k : Nat} {p : Port} {v : Word} {w : WetRun} {c : ChkRun} {l : List Nat}

/-! ### Command words -/

theorem bit_setBit_same (hi : i < 32) (b : Bool) : bit (setBit v i b) i = b := by
  have hrest : (v.toNat - v.toNat / 2 ^ i % 2 * 2 ^ i + b2n b * 2 ^ i) / 2 ^ i = v.toNat / 2 ^ i - v.toNat / 2 ^ i % 2 + b2n b := by
    rw [Nat.add_mul_div_right _ _ (Nat.two_pow_pos i), Nat.mul_comm (v.toNat / 2 ^ i % 2), Nat.sub_mul_div]
  have hbit : b2n b % 2 = b2n b := by cases b <;> rfl
  rw [bit, BitVec.getLsbD, setBit, setFld, fld, w32, BitVec.toNat_ofNat, Nat.testBit_mod_two_pow, Nat.testBit_eq_decide_div_mod_eq,
    Nat.pow_one, hbit, hrest]
  cases b <;> simp [hi, b2n] <;> omega

/-- A bit set in a register stands there. -/
theorem State.bit_setRegBit {a : Nat} (hi : i < 32) (b : Bool) (hwf : Store.wf regDflt s.regs = true) :
    bit ((s.setRegBit a i b).reg a) i = b := by
  rw [State.setRegBit, State.reg_setReg_same s hwf]
  exact bit_setBit_same hi b

/-- The word that starts a check of channel n alone: `GO`, bit 24, with the channel's bit. -/
def startWord (n : Nat) : Word := w32 (2 ^ 24 + 2 ^ n)

theorem startWord_spec : ∀ n < 24,
    bit (startWord n) 24 = true ∧ fld (startWord n) 0 24 ≠ 0 ∧ (List.range 24).filter (bit (startWord n)) = [n] := by
  decide +kernel

/-! ### The wet check starts, or is refused (R221, R222) -/

theorem State.access_wetCtrl (h : Reaches s p Reg.chWetCtrl) : s.access p Reg.chWetCtrl v = s.wetWrite v := by
  rw [State.access_wo h acc_chWetCtrl, State.cmdWrite]
  simp

theorem Within.wetBegin (h : Within bs s₀ s) (hl : [.meas] ⊆ bs := by decide) : Within bs s₀ (s.wetBegin l) := h.also hl <| by
  cases l with
  | nil => exact refl.modMeas
  | cons n l => exact refl.modMeas

/-- With no self-check in progress the first channel's first step begins at once (R248). -/
theorem State.wetBegin_first (hchk : s.cmp.chk = none) :
    ∃ w, (s.wetBegin (n :: l)).meas.wet = some w ∧ w.todo = n :: l ∧ w.step = 1 := by
  have hfree (high : Bool) : s.underCheck n high = false := by rw [State.underCheck, hchk]
  exact ⟨_, rfl, rfl, by simp [hfree]⟩

/-- The results of a new check cleared: those in `CH_WET_STAT`, and the valid bit of channel n. -/
def State.wetCleared (s : State) (n : Nat) : State := (s.setRegFld Reg.chWetStat 0 24 0).setRegBit (Reg.chWetV n) 7 false

theorem State.wetWrite_start (hn : n < 24) (hopen : s.wetRefused = false) (hkind : s.chKind n ≠ 0) :
    s.wetWrite (startWord n) = (s.wetCleared n).wetBegin [n] := by
  obtain ⟨hgo, hmask, hchans⟩ := startWord_spec n hn
  have hkind' : (s.setRegFld Reg.chWetStat 0 24 0).chKind n = s.chKind n := by
    rw [State.chKind, State.regFld, State.setRegFld, State.reg_setReg_ne s (by simp only [Reg.chWetStat, Reg.chCfg]; omega), State.chKind,
      State.regFld]
  have htodo : ((List.range 24).filter fun k =>
      bit (startWord n) k && decide ((s.setRegFld Reg.chWetStat 0 24 0).chKind k ≠ 0)) = [n] := by
    rw [← List.filter_filter, List.filter_comm, hchans]
    simp [hkind', hkind]
  unfold State.wetWrite
  simp only [hgo, hmask, hopen, htodo]
  rfl

theorem wetCheckStart_answers (hn : n < 24) (h : Reaches s p Reg.chWetCtrl) (hopen : s.wetRefused = false) (hkind : s.chKind n ≠ 0)
    (hchk : s.cmp.chk = none) :
    Answers (.wetCheckStart p (startWord n)) s fun t =>
      (∃ w, t.meas.wet = some w ∧ w.todo = [n] ∧ w.step = 1) ∧ t.seq = s.seq ∧ t.cmp = s.cmp := by
  have hframe : Within [.regs, .meas] s ((s.wetCleared n).wetBegin [n]) := Within.refl.setRegFld.setRegBit.wetBegin
  exact .of_exec rfl ((State.access_wetCtrl h).trans (State.wetWrite_start hn hopen hkind))
    ⟨State.wetBegin_first (s := s.wetCleared n) hchk, hframe.same .seq, hframe.same .cmp⟩

theorem wetCheckStart_refused_answers (hwf : Store.wf regDflt s.regs = true) (h : Reaches s p Reg.chWetCtrl) (hgo : bit v 24 = true)
    (hmask : fld v 0 24 ≠ 0) (hrail : s.rail = true) (hstate : s.seq.state ≠ .idle) :
    Answers (.wetCheckStart p v) s fun t => bit (t.reg Reg.chWetStat) 30 = true ∧ t = { s with regs := t.regs } := by
  have hrefused : s.wetRefused = true := by simp [State.wetRefused, hrail, hstate]
  have hleaves : s.access p Reg.chWetCtrl v = s.setRegBit Reg.chWetStat 30 true := by
    simp [State.access_wetCtrl h, State.wetWrite, hgo, hmask, hrefused]
  exact .of_exec rfl hleaves ⟨State.bit_setRegBit (by decide) true hwf, Within.refl.setRegBit.eq_regs⟩

/-! ### The wet check ends, or goes on (R222, R226) -/

theorem State.reg_modMeas {a : Nat} {f : Meas → Meas} : (s.modMeas f).reg a = s.reg a := rfl

/-- An abort shows in `CH_WET_STAT`: no release of the channel under check touches that register. -/
theorem State.wetAbort_shown (hwet : s.meas.wet = some w) (hwf : Store.wf regDflt s.regs = true) :
    bit (s.wetAbort.reg Reg.chWetStat) 29 = true := by
  have hended : bit (s.wetEnded.reg Reg.chWetStat) 29 = true := by
    have hregs : s.wetEnded.reg Reg.chWetStat = (s.setRegBit Reg.chWetStat 29 true).reg Reg.chWetStat := State.reg_modMeas
    rw [hregs]
    exact State.bit_setRegBit (by decide) true hwf
  rw [State.wetAbort_of_some hwet]
  split
  next n rest _ =>
    have hreleased : Within [.meas, .cmp] s.wetEnded ((s.wetEnded.restartFilter n).blank n) := Within.refl.restartFilter.blank
    have hregs : ((s.wetEnded.restartFilter n).blank n).regs = s.wetEnded.regs := hreleased.same .regs
    have hfollows : ResultsKept _ (((s.wetEnded.restartFilter n).blank n).followCh n) := ResultsKept.refl.followCh
    rw [hfollows.reg _ (by decide), State.reg, hregs]
    exact hended
  · exact hended

theorem wetCheckAbort_answers (hwet : s.meas.wet = some w) (hwf : Store.wf regDflt s.regs = true) (h : Reaches s p Reg.chWetCtrl) :
    Answers (.wetCheckAbort p (w32 (2 ^ 24))) s fun t =>
      t.meas.wet = none ∧ bit (t.reg Reg.chWetStat) 29 = true ∧ t.seq = s.seq := by
  have hleaves : s.access p Reg.chWetCtrl (w32 (2 ^ 24)) = s.wetAbort := by
    rw [State.access_wetCtrl h]
    rfl
  have hframe : Within [.regs, .meas, .cmp] s s.wetAbort := Within.refl.wetAbort
  exact .of_exec rfl hleaves ⟨s.wetAbort_checks.1, State.wetAbort_shown hwet hwf, hframe.same .seq⟩

/-- The first two steps judge a tie of the input and lead to the next step (Table 6-6). -/
theorem State.wetStep_tie {codes : List Int} (hwet : s.meas.wet = some w) (htodo : w.todo = n :: l) (hruns : s.meas.active = true)
    (hsettled : w.settle ≤ s.ticks) (hlen : codes.length = s.regFld Reg.chWetCfg 16 6) (hcodes : codes ≠ [])
    (hstep : w.step = 1 ∨ w.step = 2) :
    ∃ x, s.wetStep codes = s.modMeas (fun m => { m with wet := some x }) ∧ x.step = w.step + 1 ∧ x.todo = w.todo := by
  have hm : s.regFld Reg.chWetCfg 16 6 ≠ 0 := by rw [← hlen]; simpa using hcodes
  have hgoes : ¬(!s.meas.active ∨ s.ticks < w.settle ∨ codes.length ≠ s.regFld Reg.chWetCfg 16 6 ∨ s.regFld Reg.chWetCfg 16 6 = 0 ∨
      w.step = 0 ∨ 6 ≤ w.step) := by
    simp [hruns, hlen, hsettled, hm]
    omega
  unfold State.wetStep
  rw [hwet]
  dsimp only
  rw [htodo]
  dsimp only
  rw [if_neg hgoes]
  rcases hstep with hstep | hstep
  all_goals
    rw [hstep]
    exact ⟨_, rfl, rfl, rfl⟩

theorem wetStepDone_answers {codes : List Int} (hwet : s.meas.wet = some w) (htodo : w.todo = n :: l) (hruns : s.meas.active = true)
    (hsettled : w.settle ≤ s.ticks) (hlen : codes.length = s.regFld Reg.chWetCfg 16 6) (hcodes : codes ≠ []) (hlow : 1 ≤ w.step)
    (hhigh : w.step < 3) :
    Answers (.wetStepDone codes) s fun t =>
      (∃ x, t.meas.wet = some x ∧ x.step = w.step + 1 ∧ x.todo = w.todo) ∧ t.regs = s.regs ∧ t.cmp = s.cmp := by
  obtain ⟨x, hleaves, hnext, hsame⟩ := State.wetStep_tie hwet htodo hruns hsettled hlen hcodes (by omega)
  exact .of_exec rfl hleaves ⟨⟨x, rfl, hnext, hsame⟩, rfl, rfl⟩

/-! ### Self-checks begin, or are refused (R246, R247) -/

theorem State.access_chkCtrl (h : Reaches s p Reg.cmpChkCtrl) : s.access p Reg.cmpChkCtrl v = s.chkWrite v := by
  rw [State.access_wo h acc_cmpChkCtrl, State.cmdWrite]
  simp

theorem compsOf_startWord (hn : n < 24) : compsOf (bit (startWord n)) = [2 * n, 2 * n + 1] := by
  rw [compsOf, (startWord_spec n hn).2.2]
  rfl

/-- A comparator that works, on a channel without wet check, is taken under check. -/
theorem State.chkBegin_first {b : Bool} {since : Nat} (hmode : s.cmpMode n false ≠ 0) (hwet : s.wetOn n = false) :
    (s.chkBegin b since (2 * n :: l)).cmp.chk =
      some { todo := 2 * n :: l, step := 0, n := (s.comp n false).q, since := since, periodic := b } := by
  have hch : 2 * n / 2 = n := by omega
  simp [State.chkBegin, hch, hmode, hwet]

theorem selfCheckStart_answers (hn : n < 24) (h : Reaches s p Reg.cmpChkCtrl) (hopen : s.chkBlocked = false) (hclock : s.clk.gated = false)
    (hawake : s.pwr.doze = false) (hmode : s.cmpMode n false ≠ 0) (hwet : s.wetOn n = false) :
    Answers (.selfCheckStart p (startWord n)) s fun t =>
      t.cmp.chk = some { todo := [2 * n, 2 * n + 1], step := 0, n := (s.comp n false).q, since := s.ticks, periodic := false } ∧
      t = { s with cmp := t.cmp } := by
  obtain ⟨hgo, hmask, -⟩ := startWord_spec n hn
  have hleaves : s.access p Reg.cmpChkCtrl (startWord n) = s.chkBegin false s.ticks [2 * n, 2 * n + 1] := by
    simp [State.access_chkCtrl h, State.chkWrite, hgo, hmask, State.chkStart, hopen, hclock, hawake, compsOf_startWord hn]
  have hframe : Within [.cmp] s (s.chkBegin false s.ticks [2 * n, 2 * n + 1]) := Within.refl.chkBegin
  exact .of_exec rfl hleaves ⟨State.chkBegin_first hmode hwet, hframe.eq_patch⟩

theorem selfCheckStart_refused_answers (h : Reaches s p Reg.cmpChkCtrl) (hgo : bit v 24 = true) (hmask : fld v 0 24 ≠ 0)
    (hblocked : s.chkBlocked = true) :
    Answers (.selfCheckStart p v) s fun t => t = { s with cmp := { s.cmp with chkRefused := true } } := by
  refine .of_exec rfl (t' := s.modCmp fun c => { c with chkRefused := true }) ?_ rfl
  simp [State.access_chkCtrl h, State.chkWrite, hgo, hmask, State.chkStart, hblocked]

/-! ### Periodic passes (R247) -/

/-- The start of a check leaves the divider's count alone. -/
theorem State.chkBegin_perCnt {b : Bool} {since : Nat} : (s.chkBegin b since l).cmp.perCnt = s.cmp.perCnt := by
  induction l generalizing s with
  | nil => rfl
  | cons k ks ih =>
    unfold State.chkBegin
    dsimp only
    split
    · exact ih
    · split
      · exact ih
      · rfl

/-- The period that has passed is taken off the count. -/
def State.periodTaken (s : State) : State := s.modCmp fun c => { c with perCnt := c.perCnt - s.regFld Reg.cmpChkCfg 0 16 }

theorem exec_selfCheckPeriodic (hper : s.regFld Reg.cmpChkCfg 0 16 ≠ 0) (hdue : s.regFld Reg.cmpChkCfg 0 16 ≤ s.cmp.perCnt)
    (hclock : s.clk.gated = false) (hawake : s.pwr.doze = false) (hbench : s.boot.bench = false) :
    exec .selfCheckPeriodic s = .next (if s.chkBlocked then s.periodTaken.modCmp fun c => { c with pskip := true }
      else s.periodTaken.chkBegin true s.ticks (compsOf fun n => s.regBit (Reg.chCmpCfg n) 14)) := by
  have hcond : ¬(s.regFld Reg.cmpChkCfg 0 16 = 0 ∨ s.cmp.perCnt < s.regFld Reg.cmpChkCfg 0 16 ∨ s.clk.gated ∨ s.pwr.doze ∨
      s.boot.bench) := by
    simp [hper, hdue, hclock, hawake, hbench]
  have hruns : exec .selfCheckPeriodic s = if s.periodTaken.chkBlocked then ok (s.periodTaken.modCmp fun c => { c with pskip := true })
      else ok (s.periodTaken.chkBegin true s.ticks (compsOf fun n => s.regBit (Reg.chCmpCfg n) 14)) := if_neg hcond
  have hblocked : s.periodTaken.chkBlocked = s.chkBlocked := rfl
  rw [hruns, hblocked]
  split <;> rfl

theorem selfCheckPeriodic_answers (hper : s.regFld Reg.cmpChkCfg 0 16 ≠ 0) (hdue : s.regFld Reg.cmpChkCfg 0 16 ≤ s.cmp.perCnt)
    (hclock : s.clk.gated = false) (hawake : s.pwr.doze = false) (hbench : s.boot.bench = false) :
    Answers .selfCheckPeriodic s fun t =>
      t.cmp.perCnt = s.cmp.perCnt - s.regFld Reg.cmpChkCfg 0 16 ∧ (s.chkBlocked = true → t.cmp.pskip = true) ∧
      t = { s with cmp := t.cmp } := by
  refine .of_exec (exec_selfCheckPeriodic hper hdue hclock hawake hbench) rfl ?_
  split
  · exact ⟨rfl, fun _ => rfl, rfl⟩
  next hfree =>
    have hframe : Within [.cmp] s (s.periodTaken.chkBegin true s.ticks (compsOf fun n => s.regBit (Reg.chCmpCfg n) 14)) :=
      Within.refl.modCmp.chkBegin
    exact ⟨State.chkBegin_perCnt, fun h => absurd h hfree, hframe.eq_patch⟩

/-! ### Steps of a self-check (R245) -/

/-- A strobed step leads to the next one, whatever its judgement (Table 7-4). -/
theorem State.chkStep_strobed {b : Bool} (hchk : s.cmp.chk = some c) (htodo : c.todo = k :: l) (hstep : c.step < 3)
    (hruns : s.coreRuns = true) (hdue : c.since + (2 * c.step + 1) ≤ s.ticks) :
    (s.chkStep b).cmp.chk = some { c with step := c.step + 1 } ∧ Within [.regs, .cmp] s (s.chkStep b) := by
  have hpassed : s.passed c.since (if c.step < 3 then 2 * c.step + 1 else 7) = true := by
    rw [if_pos hstep]
    exact decide_eq_true hdue
  unfold State.chkStep
  rw [hchk]
  dsimp only
  rw [htodo]
  dsimp only
  rw [if_neg (by simp [hruns, hpassed]), if_pos hstep]
  split
  · exact ⟨rfl, Within.refl.modCmp.modComp⟩
  · exact ⟨rfl, Within.refl.modCmp⟩
  · exact ⟨rfl, Within.refl.modCmp.modComp.setRegBit⟩

theorem selfCheckStep_answers {b : Bool} (hchk : s.cmp.chk = some c) (htodo : c.todo = k :: l) (hstep : c.step < 3)
    (hruns : s.coreRuns = true) (hdue : c.since + (2 * c.step + 1) ≤ s.ticks) :
    Answers (.selfCheckStep b) s fun t => t.cmp.chk = some { c with step := c.step + 1 } ∧ t.meas = s.meas ∧ t.tb = s.tb := by
  obtain ⟨hnext, hframe⟩ := State.chkStep_strobed (b := b) hchk htodo hstep hruns hdue
  have hwatched : Within [.supply, .pins, .regs, .seq, .react, .mrg, .nvm, .sched] (s.chkStep b)
      ((if (s.chkStep b).rail then (s.chkStep b).judgeUnsensed else s.chkStep b).watch s) :=
    (Within.either Within.refl.judgeUnsensed .refl).watch
  refine .of_exec rfl rfl ⟨(congrArg Cmp.chk (hwatched.same .cmp)).trans hnext, ?meas, ?tb⟩
  case meas => exact (hframe.same .meas).trans (hwatched.same .meas)
  case tb => exact (hframe.same .tb).trans (hwatched.same .tb)

/-- Settles O25. That the strobed steps act in the whole microseconds Tc + 1, 3 and 5 round the instants of R245 is the model's choice
(log entry 16). -/
theorem checksComplete : Obligations.ChecksComplete :=
  ⟨⟨fun _ _ _ => wetCheckStart_answers, fun _ _ _ => wetCheckStart_refused_answers, fun _ _ _ => wetCheckAbort_answers,
      fun _ _ _ hwet _ _ => wetStepDone_answers hwet⟩,
    fun _ _ _ => selfCheckStart_answers, fun _ _ _ => selfCheckStart_refused_answers, fun _ => selfCheckPeriodic_answers,
    fun _ _ _ hchk _ _ => selfCheckStep_answers hchk⟩

end Sys2Proof.Machine
end

section
/-! SUPPORT. Obligation settled: the events of the comparators, the end of the qualifying time among them
(spec/07_fast_comparators.md R237). -/

namespace Sys2Proof.Machine

variable {s t : State} {n : Nat} {high : Bool}

/-- For a SAMPLED comparator `DGL` is ignored (R237), so that no qualifying time ends there. -/
theorem State.qualify_of_sampled (hmode : s.workMode n high = 2) : s.qualify n high = s := by
  have hunqualified : s.qualified n high = false := by simp [State.qualified, hmode]
  simp [State.qualify, hunqualified]

theorem comp_deglitchQualify_of_sampled (hn : n < 24) (hmode : s.workMode n high = 2)
    (hexec : exec (.deglitchQualify n high) s = .next t) : t.comp n high = s.comp n high := by
  have hwatched : exec (.deglitchQualify n high) s = .next ((s.qualify n high).watch s) := if_neg (Nat.not_le.mpr hn)
  rw [State.qualify_of_sampled hmode] at hwatched
  obtain rfl : s.watch s = t := Host.Outcome.next.inj (hwatched.symm.trans hexec)
  have hframe : Within [.supply, .pins, .regs, .seq, .react, .mrg, .nvm, .sched] s (s.watch s) := Within.refl.watch
  exact State.comp_of_cmp (hframe.same .cmp)

/-- The comparators are armed. FL of channel 0, a VOLT channel with `FL_MODE` = SAMPLED and `DGL` = 1, stands asserted while its Q is
released, as an ADOPT leaves it that worked it continuously (R153) and ended within the qualifying time: the output
holds its last live value (R236). -/
def sampledUnqualified : State :=
  let s := ((State.reset.setReg (Reg.chCfg 0) 1).setReg (Reg.chCmpCfg 0) 0x102).modCmp fun c => { c with armed := true }
  s.modComp 0 false fun c => { c with out := true, live := true }

theorem listsWf_sampledUnqualified : ListsWf sampledUnqualified := by
  unfold ListsWf
  and_intros <;> decide

/-- Refutes O26: the clause of the end of the qualifying time does not ask that the comparator works continuously. A SAMPLED one passes no
qualifier, whatever its `DGL` (R237): in `sampledUnqualified` the command leaves Q released over an asserted output. -/
theorem not_comparatorEventsComplete : ¬ Obligations.ComparatorEventsComplete := by
  rintro ⟨⟨-, -, -, hqualify, -⟩, -⟩
  obtain ⟨t, hexec, hq, -⟩ :=
    hqualify sampledUnqualified false 0 (by decide) listsWf_sampledUnqualified rfl (by decide) rfl rfl rfl
  have hcomp : t.comp 0 false = sampledUnqualified.comp 0 false :=
    comp_deglitchQualify_of_sampled (by decide) (by decide) hexec
  have hreleased : (sampledUnqualified.comp 0 false).q = false := rfl
  rw [hcomp, hreleased] at hq
  cases hq

end Sys2Proof.Machine
end

section
/-! SUPPORT. Obligation settled: START, STOP and group commands of `SEQ_CTRL` become pending, or are too late
(spec/08_rail_sequencer.md R275 to R277, R281). -/

namespace Sys2Proof.Machine

variable {s : State} {p : Port} {v : Word} {o : BitVec 32} {g : Nat} {fab stop : Bool}

/-! ### A write of `SEQ_CTRL` (Table 8-13) -/

theorem State.access_seqCtrl (h : Reaches s p Reg.seqCtrl) (hshadow : s.isShadow = false) :
    s.access p Reg.seqCtrl v = s.seqCtrlWrite v := by
  rw [State.access_wo h acc_seqCtrl, State.cmdWrite]
  simp [hshadow]

theorem State.seqCtrlWrite_start (hcmd : fld v 0 4 = 1) (hhold : s.seq.state ≠ .hold)
    (hlead : s.tooLate (launchTime s v) s.minLead = false) : s.seqCtrlWrite v = s.acceptStart (launchTime s v) false := by
  unfold launchTime at hlead
  simp [State.seqCtrlWrite, hcmd, hhold, hlead, launchTime]

theorem State.seqCtrlWrite_stop (hcmd : fld v 0 4 = 2) (hlead : s.tooLate (launchTime s v) s.minLead = false) :
    s.seqCtrlWrite v = s.acceptStop (launchTime s v) := by
  unfold launchTime at hlead
  simp [State.seqCtrlWrite, hcmd, hlead, launchTime]

theorem State.seqCtrlWrite_grp (hcmd : fld v 0 4 = if stop then 6 else 5) (hlead : s.tooLate (launchTime s v) s.minLead = false) :
    s.seqCtrlWrite v = s.acceptGrp stop (launchTime s v) (fld v 8 3) := by
  unfold launchTime at hlead
  cases stop <;> simp [State.seqCtrlWrite, hcmd, hlead, launchTime]

/-- A STOP or a group command that is too late (R275). -/
theorem State.seqCtrlWrite_late (hcmd : fld v 0 4 = 2 ∨ fld v 0 4 = 5 ∨ fld v 0 4 = 6)
    (hlate : s.tooLate (launchTime s v) s.minLead = true) : s.seqCtrlWrite v = s.setCmdErr 1 := by
  unfold launchTime at hlate
  rcases hcmd with hcmd | hcmd | hcmd <;> simp [State.seqCtrlWrite, hcmd, hlate]

/-! ### What an accepted command leaves -/

theorem State.acceptStart_state : (s.acceptStart o fab).seq.state = s.seq.state := by
  unfold State.acceptStart
  dsimp only
  split
  · exact State.cascade_state _ _ _
  · rfl

theorem State.acceptStop_state : (s.acceptStop o).seq.state = s.seq.state := by
  unfold State.acceptStop
  dsimp only
  split
  · exact State.cascade_state _ _ _
  · rfl

/-- A group command that is accepted is pending, and on a master with room in its queue goes to the cascade. -/
theorem State.acceptGrp_spec (hroom : s.ridge.m.queue.length < 64) :
    (s.acceptGrp stop o g).seq.pendGrp = s.seq.pendGrp ++ [{ stop := stop, g := g, t := o }] ∧ (s.acceptGrp stop o g).seq.cmdErr = 0 ∧
      (s.acceptGrp stop o g).pins = s.pins := by
  unfold State.acceptGrp
  extract_lets accepted
  have hlink : Within [.ridge] accepted
      (if accepted.isRole .mst then accepted.cascade (if stop then 4 else 3) (some o) (w32 g) else accepted) :=
    .either (Within.refl.cascade hroom) .refl
  have hseq := hlink.same .seq
  exact ⟨congrArg Seq.pendGrp hseq, congrArg Seq.cmdErr hseq, hlink.same .pins⟩

/-! ### The commands -/

theorem seqStartCmd_answers (h : Reaches s p Reg.seqCtrl) (hshadow : s.isShadow = false) (hroom : s.ridge.m.queue.length < 64)
    (hlead : s.tooLate (launchTime s v) s.minLead = false) (hcmd : fld v 0 4 = 1) (hhold : s.seq.state ≠ .hold) :
    Answers (.seqStartCmd p v) s fun t =>
      t.seq.pendStart = some (launchTime s v, false) ∧ t.seq.cmdErr = 0 ∧ t.seq.state = s.seq.state ∧ t.pins = s.pins := by
  obtain ⟨hpend, herr, hw⟩ := State.acceptStart_spec (t0 := launchTime s v) (fab := false) hroom
  exact .of_exec rfl ((State.access_seqCtrl h hshadow).trans (State.seqCtrlWrite_start hcmd hhold hlead))
    ⟨hpend, herr, State.acceptStart_state, hw.same .pins⟩

theorem seqStopCmd_answers (h : Reaches s p Reg.seqCtrl) (hshadow : s.isShadow = false) (hroom : s.ridge.m.queue.length < 64)
    (hlead : s.tooLate (launchTime s v) s.minLead = false) (hcmd : fld v 0 4 = 2) :
    Answers (.seqStopCmd p v) s fun t =>
      t.seq.pendStop = some (launchTime s v) ∧ t.seq.cmdErr = 0 ∧ t.seq.state = s.seq.state ∧ t.pins = s.pins := by
  obtain ⟨hpend, herr, hw⟩ := State.acceptStop_spec (t0 := launchTime s v) hroom
  exact .of_exec rfl ((State.access_seqCtrl h hshadow).trans (State.seqCtrlWrite_stop hcmd hlead))
    ⟨hpend, herr, State.acceptStop_state, hw.same .pins⟩

theorem grpStartCmd_answers (h : Reaches s p Reg.seqCtrl) (hshadow : s.isShadow = false) (hroom : s.ridge.m.queue.length < 64)
    (hlead : s.tooLate (launchTime s v) s.minLead = false) (hcmd : fld v 0 4 = 5) :
    Answers (.grpStartCmd p v) s fun t =>
      t.seq.pendGrp = s.seq.pendGrp ++ [{ stop := false, g := fld v 8 3, t := launchTime s v }] ∧ t.seq.cmdErr = 0 ∧ t.pins = s.pins :=
  .of_exec rfl ((State.access_seqCtrl h hshadow).trans (State.seqCtrlWrite_grp (stop := false) hcmd hlead)) (State.acceptGrp_spec hroom)

theorem grpStopCmd_answers (h : Reaches s p Reg.seqCtrl) (hshadow : s.isShadow = false) (hroom : s.ridge.m.queue.length < 64)
    (hlead : s.tooLate (launchTime s v) s.minLead = false) (hcmd : fld v 0 4 = 6) :
    Answers (.grpStopCmd p v) s fun t =>
      t.seq.pendGrp = s.seq.pendGrp ++ [{ stop := true, g := fld v 8 3, t := launchTime s v }] ∧ t.seq.cmdErr = 0 ∧ t.pins = s.pins :=
  .of_exec rfl ((State.access_seqCtrl h hshadow).trans (State.seqCtrlWrite_grp (stop := true) hcmd hlead)) (State.acceptGrp_spec hroom)

theorem seqStopCmd_late_answers (h : Reaches s p Reg.seqCtrl) (hshadow : s.isShadow = false)
    (hlate : s.tooLate (launchTime s v) s.minLead = true) (hcmd : fld v 0 4 = 2 ∨ fld v 0 4 = 5 ∨ fld v 0 4 = 6) :
    Answers (.seqStopCmd p v) s fun t => t = { s with seq := { s.seq with cmdErr := 1 } } :=
  .of_exec rfl ((State.access_seqCtrl h hshadow).trans (State.seqCtrlWrite_late hcmd hlate)) rfl

/-- Settles O27: the codes of `SEQ_CTRL` one by one. The late clause speaks of STOP and of the group commands; a late START is no part of it. -/
theorem sequenceCommandsBecomePending : Obligations.SequenceCommandsBecomePending :=
  fun _ _ _ h hshadow hroom =>
    ⟨fun hlead => ⟨seqStartCmd_answers h hshadow hroom hlead, seqStopCmd_answers h hshadow hroom hlead,
        grpStartCmd_answers h hshadow hroom hlead, grpStopCmd_answers h hshadow hroom hlead⟩,
      seqStopCmd_late_answers h hshadow⟩

end Sys2Proof.Machine
end

section
/-! SUPPORT. Obligation settled: HOLD and RELEASE (spec/08_rail_sequencer.md R277 to R280). -/

namespace Sys2Proof.Machine

variable {s s₀ : State} {p : Port} {v : Word} {n : Nat}

/-! ### Settling outside RISING and FALLING -/

/-- The end of group stops moves the groups alone. -/
theorem State.settleGroups_eq (s : State) : ∃ a b, s.settleGroups = s.modSeq fun q => { q with grpStop := a, grpDown := b } := by
  refine List.foldlRecOn (motive := fun t : State => ∃ a b, t = s.modSeq fun q => { q with grpStop := a, grpDown := b }) _ _
    ⟨s.seq.grpStop, s.seq.grpDown, rfl⟩ fun t ht g _ => ?_
  obtain ⟨a, b, rfl⟩ := ht
  split
  · exact ⟨_, _, rfl⟩
  · exact ⟨a, b, rfl⟩

theorem State.settle_of_steady (hrising : s.seq.state ≠ .rising) (hfalling : s.seq.state ≠ .falling) : s.settle = s.settleGroups := by
  have hstate := State.settleGroups_state s
  unfold State.settle
  dsimp only
  split
  next h => exact absurd (hstate.symm.trans h) hrising
  next h => exact absurd (hstate.symm.trans h) hfalling
  next => rfl

/-! ### Leaving a device state -/

/-- Leaving UP turns budgeted rails off that are ON, and no other rail (R267). -/
theorem RailKept.budgetOff (h : RailKept n s₀ s) (hrail : s.rkind n ≠ .budg ∨ s.rstate n ≠ .on) : RailKept n s₀ s.budgetOff := by
  refine h.trans (List.foldlRecOn (motive := fun t : State => RailKept n s t ∧ t.regs = s.regs) _ _ ⟨.refl, rfl⟩ fun t ht k _ => ?_).1
  obtain ⟨hkept, hregs⟩ := ht
  split
  next hoff =>
    have hoffRegs : (t.offRail k .off).regs = t.regs := (Within.refl (bs := [.pins, .seq, .mrg, .sched])).offRail.same .regs
    refine ⟨hkept.offRail fun hnk => ?_, hoffRegs.trans hregs⟩
    rw [← hnk, State.rkind_of_regs hregs, State.rstate, hkept.rail] at hoff
    exact hrail.elim (absurd hoff.1) (absurd hoff.2)
  next => exact ⟨hkept, hregs⟩

theorem RailKept.leaveState (hrail : s.rkind n ≠ .budg ∨ s.rstate n ≠ .on) : RailKept n s s.leaveState := by
  unfold State.leaveState
  split
  · have hback : Within [.mrg] s s.mrgBackAll := Within.refl.mrgBackAll
    have hkept : RailKept n s s.mrgBackAll := .of_eq (congrArg Seq.rails (hback.same .seq)) (hback.same .pins)
    refine hkept.budgetOff ?_
    rwa [State.rkind_of_regs (hback.same .regs), State.rstate, hkept.rail]
  · have habort : Within [.regs, .meas, .cmp] s s.wetAbort := Within.refl.wetAbort
    exact .of_eq (congrArg Seq.rails (habort.same .seq)) (habort.same .pins)
  · exact .refl

/-! ### HOLD -/

theorem State.seqCtrlWrite_hold (hcmd : fld v 0 4 = 3) : s.seqCtrlWrite v = s.holdCmd := by
  simp [State.seqCtrlWrite, hcmd]

theorem State.exec_seqHoldCmd (h : Reaches s p Reg.seqCtrl) (hshadow : s.isShadow = false) (hcmd : fld v 0 4 = 3) :
    exec (.seqHoldCmd p v) s = .next s.holdCmd :=
  congrArg ok ((State.access_seqCtrl h hshadow).trans (State.seqCtrlWrite_hold hcmd))

/-- A HOLD that nothing keeps out leaves IDLE or UP for HOLD (R278). -/
theorem State.holdCmd_of_free (hstate : s.seq.state = .idle ∨ s.seq.state = .up) (hbusy : s.seqBusy = false) :
    s.holdCmd = (s.leaveState.modSeq fun q => { q with state := .hold, holdFrom := s.seq.state }).setCmdErr 0 := by
  unfold State.holdCmd
  rw [if_neg (fun h => hstate.elim h.1 h.2), if_neg (by simp [hbusy])]

theorem State.holdCmd_of_busy (hstate : s.seq.state = .idle ∨ s.seq.state = .up) (hbusy : s.seqBusy = true) :
    s.holdCmd = s.setCmdErr 3 := by
  unfold State.holdCmd
  rw [if_neg (fun h => hstate.elim h.1 h.2), if_pos hbusy]

theorem seqHoldCmd_answers (h : Reaches s p Reg.seqCtrl) (hshadow : s.isShadow = false) (hcmd : fld v 0 4 = 3)
    (hstate : s.seq.state = .idle ∨ s.seq.state = .up) (hbusy : s.seqBusy = false) :
    Answers (.seqHoldCmd p v) s fun t => t.seq.state = .hold ∧ t.seq.holdFrom = s.seq.state ∧ t.seq.cmdErr = 0 ∧
      (∀ n, n < 24 → s.rkind n ≠ .budg → t.rstate n = s.rstate n) :=
  .of_exec (State.exec_seqHoldCmd h hshadow hcmd) (State.holdCmd_of_free hstate hbusy)
    ⟨rfl, rfl, rfl, fun _ _ hkind => congrArg Rail.state (RailKept.leaveState (.inl hkind)).rail⟩

theorem seqHoldCmd_refused_answers (h : Reaches s p Reg.seqCtrl) (hshadow : s.isShadow = false) (hcmd : fld v 0 4 = 3)
    (hidle : s.seq.state ≠ .idle) (hup : s.seq.state ≠ .up) :
    Answers (.seqHoldCmd p v) s fun t => t = { s with seq := { s.seq with cmdErr := 2 } } :=
  .of_exec (State.exec_seqHoldCmd h hshadow hcmd) (if_pos ⟨hidle, hup⟩) rfl

theorem seqHoldCmd_busy_answers (h : Reaches s p Reg.seqCtrl) (hshadow : s.isShadow = false) (hcmd : fld v 0 4 = 3)
    (hstate : s.seq.state = .idle ∨ s.seq.state = .up) (hbusy : s.seqBusy = true) :
    Answers (.seqHoldCmd p v) s fun t => t = { s with seq := { s.seq with cmdErr := 3 } } :=
  .of_exec (State.exec_seqHoldCmd h hshadow hcmd) (State.holdCmd_of_busy hstate hbusy) rfl

/-! ### RELEASE -/

theorem State.seqCtrlWrite_release (hcmd : fld v 0 4 = 4) : s.seqCtrlWrite v = s.releaseCmd := by
  simp [State.seqCtrlWrite, hcmd]

theorem State.exec_seqReleaseCmd (h : Reaches s p Reg.seqCtrl) (hshadow : s.isShadow = false) (hcmd : fld v 0 4 = 4) :
    exec (.seqReleaseCmd p v) s = .next s.releaseCmd :=
  congrArg ok ((State.access_seqCtrl h hshadow).trans (State.seqCtrlWrite_release hcmd))

/-- The device back in the state that HOLD came from, with no error. -/
def State.released (s : State) : State := (if s.seq.holdFrom = .up then s.enterUp else s.enterIdle).setCmdErr 0

theorem State.released_spec (hfrom : s.seq.holdFrom = .up ∨ s.seq.holdFrom = .idle) :
    ∃ x, s.released.seq = { s.seq with state := s.seq.holdFrom, cmdErr := 0, upAt := x } := by
  unfold State.released
  rcases hfrom with hup | hidle
  · rw [if_pos hup, hup]
    exact ⟨_, rfl⟩
  · rw [if_neg (by simp [hidle]), hidle]
    exact ⟨_, rfl⟩

/-- No command held through HOLD acts after it. -/
theorem State.runHeld_of_none (hgrp : s.seq.heldGrp = []) (hstop : s.seq.heldStop = false) (hstart : s.seq.heldStart = none) :
    s.runHeld = s.modSeq fun q => { q with heldGrp := [], heldStop := false, heldStart := none } := by
  simp [State.runHeld, hgrp, hstop, hstart]

/-- With no fault deferred, no source selected and no command held, RELEASE settles the groups and nothing more. -/
theorem State.releaseCmd_spec (hhold : s.seq.state = .hold) (hfrom : s.seq.holdFrom = .up ∨ s.seq.holdFrom = .idle)
    (hmarks : ∀ n < 24, (s.railAt n).deferred = none) (hsrc : s.seq.src = .none) (hgrp : s.seq.heldGrp = [])
    (hstop : s.seq.heldStop = false) (hstart : s.seq.heldStart = none) :
    s.releaseCmd.seq.state = s.seq.holdFrom ∧ s.releaseCmd.seq.cmdErr = 0 ∧ s.releaseCmd.seq.rails = s.seq.rails := by
  obtain ⟨x, hseq⟩ := State.released_spec hfrom
  have hsteady : s.released.settle = s.released.settleGroups :=
    State.settle_of_steady (by rcases hfrom with h | h <;> simp [hseq, h]) (by rcases hfrom with h | h <;> simp [hseq, h])
  have hdeferred : s.released.runDeferred s false = s.released.settleGroups :=
    (State.runDeferred_of_none fun n hn => by rw [State.railAt, hseq]; exact hmarks n hn).trans hsteady
  have hrelease : s.releaseCmd = (s.released.runDeferred s false).srcJudge.runHeld := if_neg (not_not_intro hhold)
  obtain ⟨a, b, hgroups⟩ := s.released.settleGroups_eq
  rw [hrelease, hdeferred, hgroups, State.srcJudge_of_none (by simpa [hseq] using hsrc),
    State.runHeld_of_none (by simpa [hseq] using hgrp) (by simpa [hseq] using hstop) (by simpa [hseq] using hstart)]
  simp [hseq]

theorem seqReleaseCmd_answers (h : Reaches s p Reg.seqCtrl) (hshadow : s.isShadow = false) (hcmd : fld v 0 4 = 4)
    (hhold : s.seq.state = .hold) (hfrom : s.seq.holdFrom = .up ∨ s.seq.holdFrom = .idle)
    (hmarks : ∀ n < 24, (s.railAt n).deferred = none) (hsrc : s.seq.src = .none) (hgrp : s.seq.heldGrp = [])
    (hstop : s.seq.heldStop = false) (hstart : s.seq.heldStart = none) :
    Answers (.seqReleaseCmd p v) s fun t => t.seq.state = s.seq.holdFrom ∧ t.seq.cmdErr = 0 ∧ ∀ n, n < 24 → t.rstate n = s.rstate n := by
  obtain ⟨hstate, herr, hrails⟩ := State.releaseCmd_spec hhold hfrom hmarks hsrc hgrp hstop hstart
  exact .of_exec (State.exec_seqReleaseCmd h hshadow hcmd) rfl
    ⟨hstate, herr, fun n _ => by rw [State.rstate, State.railAt, hrails, State.rstate, State.railAt]⟩

theorem seqReleaseCmd_refused_answers (h : Reaches s p Reg.seqCtrl) (hshadow : s.isShadow = false) (hcmd : fld v 0 4 = 4)
    (hhold : s.seq.state ≠ .hold) :
    Answers (.seqReleaseCmd p v) s fun t => t = { s with seq := { s.seq with cmdErr := 2 } } :=
  .of_exec (State.exec_seqReleaseCmd h hshadow hcmd) (if_pos hhold) rfl

/-- Settles O28: HOLD leaves its state as every other command does, and a RELEASE after which nothing is due settles the groups alone. -/
theorem holdAndRelease : Obligations.HoldAndRelease :=
  ⟨fun _ _ _ h hshadow hcmd =>
      ⟨seqHoldCmd_answers h hshadow hcmd, seqHoldCmd_refused_answers h hshadow hcmd, seqHoldCmd_busy_answers h hshadow hcmd⟩,
    fun _ _ _ => seqReleaseCmd_answers, fun _ _ _ => seqReleaseCmd_refused_answers⟩

end Sys2Proof.Machine
end

section
/-! SUPPORT. What the device states that a launch enters leave of the pending commands and of the registers
(spec/08_rail_sequencer.md R257, R263, R268 to R270, R281 to R283). -/

namespace Sys2Proof.Machine

variable {bs : List Block} {s₀ s t u : State} {n g a : Nat} {v : Word} {o : BitVec 32} {all : Bool}

/-! ### The pending commands -/

/-- The commands that wait for their launch stay. -/
structure PendKept (s t : State) : Prop where
  start : t.seq.pendStart = s.seq.pendStart
  stop : t.seq.pendStop = s.seq.pendStop
  grp : t.seq.pendGrp = s.seq.pendGrp

namespace PendKept

theorem refl : PendKept s s := ⟨rfl, rfl, rfl⟩

theorem trans (h : PendKept s t) (h' : PendKept t u) : PendKept s u :=
  ⟨h'.start.trans h.start, h'.stop.trans h.stop, h'.grp.trans h.grp⟩

/-- A change outside the sequencer. -/
theorem also (h : PendKept s₀ s) (hw : Within bs s t) (hb : .seq ∉ bs := by decide) : PendKept s₀ t := by
  have hseq : t.seq = s.seq := hw .seq hb
  exact h.trans ⟨by rw [hseq], by rw [hseq], by rw [hseq]⟩

theorem rails (h : PendKept s₀ s) (hr : RailsOnly s t) : PendKept s₀ t := by
  have hseq : t.seq.sansRails = s.seq.sansRails := hr
  exact h.trans ⟨by simpa [Seq.sansRails] using congrArg Seq.pendStart hseq, by simpa [Seq.sansRails] using congrArg Seq.pendStop hseq,
    by simpa [Seq.sansRails] using congrArg Seq.pendGrp hseq⟩

theorem modSeq {f : Seq → Seq} (h : PendKept s₀ s) (hstart : ∀ q, (f q).pendStart = q.pendStart := by exact fun _ => rfl)
    (hstop : ∀ q, (f q).pendStop = q.pendStop := by exact fun _ => rfl) (hgrp : ∀ q, (f q).pendGrp = q.pendGrp := by exact fun _ => rfl) :
    PendKept s₀ (s.modSeq f) :=
  h.trans ⟨hstart _, hstop _, hgrp _⟩

theorem settleGroups (h : PendKept s₀ s) : PendKept s₀ s.settleGroups := by
  obtain ⟨a, b, hgroups⟩ := s.settleGroups_eq
  rw [hgroups]
  exact h.modSeq

theorem enterUp (h : PendKept s₀ s) : PendKept s₀ s.enterUp := h.modSeq.also (bs := [.regs]) Within.refl.seqEvt

theorem enterDownHold (h : PendKept s₀ s) : PendKept s₀ s.enterDownHold := by
  unfold State.enterDownHold
  have hoff : RailsOnly s (railNums.foldl (fun t n => if t.rstate n = .faulted then t.offRail n .off else t) s) :=
    RailsOnly.refl.foldl fun _ _ h => .either h.offRail h
  exact PendKept.modSeq (PendKept.also (bs := [.regs, .react]) (h.rails hoff) Within.refl.modReact.setReg)

end PendKept

/-! ### The registers -/

theorem State.reg_of_regs (h : t.regs = s.regs) : t.reg a = s.reg a := by rw [State.reg, h, State.reg]

/-- The register file keeps its canonical form. -/
def WfKept (s t : State) : Prop := Store.wf regDflt s.regs = true → Store.wf regDflt t.regs = true

namespace WfKept

theorem refl : WfKept s s := id

/-- A change outside the register file. -/
theorem also (h : WfKept s₀ s) (hw : Within bs s t) (hb : .regs ∉ bs := by decide) : WfKept s₀ t := fun hwf =>
  (congrArg (Store.wf regDflt) (hw .regs hb)).trans (h hwf)

theorem setReg (h : WfKept s₀ s) : WfKept s₀ (s.setReg a v) := fun hwf => State.wf_setReg (h := h hwf)

theorem either {c : Prop} [Decidable c] (ht : WfKept s t) (hu : WfKept s u) : WfKept s (if c then t else u) := by
  split
  · exact ht
  · exact hu

theorem modComp {high : Bool} {f : Comp → Comp} (h : WfKept s₀ s) : WfKept s₀ (s.modComp n high f) :=
  h.also (bs := [.cmp]) Within.refl.modComp

theorem setQ {high b : Bool} (h : WfKept s₀ s) : WfKept s₀ (s.setQ n high b) := either h.modComp.setReg h.modComp

theorem setOut {high b : Bool} (h : WfKept s₀ s) : WfKept s₀ (s.setOut n high b) := either h.modComp h.modComp.setQ

theorem follow {high : Bool} (h : WfKept s₀ s) : WfKept s₀ (s.follow n high) := by
  have hown (lvl : Bool) : WfKept s₀ (if (s.comp n high).out = lvl then s else s.setOut n high lvl) := either h h.setOut
  exact either h (either (hown _).setOut (hown _))

/-- An abort of the wet check writes its status and the latches of one channel. -/
theorem wetAbort (h : WfKept s₀ s) : WfKept s₀ s.wetAbort := by
  cases hwet : s.meas.wet with
  | none => simpa [State.wetAbort, hwet] using h
  | some w =>
    have hended : WfKept s₀ s.wetEnded := h.setReg.also (bs := [.meas]) Within.refl.modMeas
    rw [State.wetAbort_of_some hwet]
    split
    · exact (hended.also (bs := [.meas, .cmp]) Within.refl.restartFilter.blank).follow.follow
    · exact hended

end WfKept

/-! ### Frames of the stops and of the rises -/

namespace Within

theorem stopRail (h : Within bs s₀ s) (hl : [.pins, .seq, .mrg, .sched] ⊆ bs := by decide) : Within bs s₀ (s.stopRail o all n) :=
  h.also hl <| by
  unfold State.stopRail
  dsimp only
  split
  · split
    · exact refl.offRail
    · exact refl.goRail
    · exact refl
  · split
    · exact refl.goRail
    · exact refl.goRail
    · exact refl.goRail.modRail
    · exact refl.goRail.modRail
    · exact either refl.modRail refl
    · exact refl

theorem stopSource (h : Within bs s₀ s) (hl : [.seq, .mrg, .sched] ⊆ bs := by decide) : Within bs s₀ (s.stopSource n) :=
  h.also hl <| by
  unfold State.stopSource
  split
  · exact refl.goRail
  · exact refl.goRail
  · exact refl.goRail
  · exact refl

theorem budgetOff (h : Within bs s₀ s) (hl : [.pins, .seq, .mrg, .sched] ⊆ bs := by decide) : Within bs s₀ s.budgetOff :=
  h.also hl (refl.foldl fun _ _ h => either h.offRail h)

end Within

theorem RailsOnly.stopSource (h : RailsOnly s₀ s) : RailsOnly s₀ (s.stopSource n) := by
  unfold State.stopSource
  split
  · exact h.goRail
  · exact h.goRail
  · exact h.goRail
  · exact h

theorem RailsOnly.budgetOff (h : RailsOnly s₀ s) : RailsOnly s₀ s.budgetOff := h.foldl fun _ _ h => either h.offRail h

/-- Leaving UP writes no register (R267, R322). -/
theorem State.leaveState_of_up (h : s.seq.state = .up) :
    RailsOnly s s.leaveState ∧ Within [.pins, .seq, .mrg, .sched] s s.leaveState := by
  unfold State.leaveState
  rw [h]
  exact ⟨(RailsOnly.refl.also (bs := [.mrg]) Within.refl.mrgBackAll).budgetOff, Within.refl.mrgBackAll.budgetOff⟩

/-- Leaving IDLE ends a wet check (R226). -/
theorem State.leaveState_of_idle (h : s.seq.state = .idle) : s.leaveState = s.wetAbort := by
  unfold State.leaveState
  rw [h]

/-! ### RISING (R263, R269) -/

theorem State.settle_rising_eq (h : s.seq.state = .rising) :
    s.settle = if s.settleGroups.allUp then s.settleGroups.enterUp else s.settleGroups := by
  have hstate : s.settleGroups.seq.state = .rising := s.settleGroups_state.trans h
  unfold State.settle
  simp only [hstate]

theorem State.settleGroups_regs (s : State) : s.settleGroups.regs = s.regs := by
  obtain ⟨a, b, hgroups⟩ := s.settleGroups_eq
  rw [hgroups]
  rfl

theorem State.settle_rising_spec (h : s.seq.state = .rising) (ha : a ≠ Reg.seqEvt) : PendKept s s.settle ∧ s.settle.reg a = s.reg a := by
  have hup : s.settleGroups.enterUp.reg a = s.reg a :=
    (State.reg_setReg_ne _ ha.symm).trans (State.reg_of_regs s.settleGroups_regs)
  rw [State.settle_rising_eq h]
  split
  · exact ⟨PendKept.refl.settleGroups.enterUp, hup⟩
  · exact ⟨PendKept.refl.settleGroups, State.reg_of_regs s.settleGroups_regs⟩

/-- A rise out of IDLE has its time in `SEQ_T0` (R281). -/
theorem State.enterRising_t0 (hidle : s.seq.state = .idle) (hwf : Store.wf regDflt s.regs = true) :
    PendKept s (s.enterRising o) ∧ (s.enterRising o).reg Reg.seqT0 = o := by
  unfold State.enterRising
  extract_lets left zeroed pairOn rails
  have hleft : left = s.wetAbort := State.leaveState_of_idle hidle
  have hzeroed : Within [.regs, .meas, .cmp] s zeroed := by
    unfold zeroed
    rw [hleft]
    exact Within.refl.wetAbort.setReg.setReg.setReg
  have ht0 : zeroed.reg Reg.seqT0 = o := by
    unfold zeroed
    rw [State.reg_setReg_ne _ (by decide), State.reg_setReg_ne _ (by decide), hleft]
    exact State.reg_setReg_same _ (WfKept.refl.wetAbort hwf)
  have hrails : RailsOnly zeroed rails := RailsOnly.refl.foldl fun _ _ h => .either h.offRail.modRail h
  have hregs : Within [.pins, .seq, .mrg, .sched] zeroed rails := Within.refl.foldl fun _ _ h => .either h.offRail.modRail h
  obtain ⟨hpend, hreg⟩ := State.settle_rising_spec (a := Reg.seqT0) (s := rails.modSeq fun q =>
    { q with state := .rising, src := .none, srcFirst := false, srcOff := none, restartT := none }) rfl (by decide)
  exact ⟨((PendKept.refl.also hzeroed).rails hrails).modSeq.trans hpend,
    hreg.trans ((State.reg_of_regs (hregs.same .regs)).trans ht0)⟩

/-! ### FALLING and DOWN_HOLD (R270, R273) -/

/-- In DOWN_HOLD without a start request a master notes when every node is down, and goes no further (R273). -/
theorem State.masterRestart_of_noRequest (h : s.seq.startReq = false) : ∃ x, s.masterRestart = s.modSeq fun q => { q with downTd := x } := by
  have hsame : s = s.modSeq fun q => { q with downTd := s.seq.downTd } := rfl
  unfold State.masterRestart
  split
  · exact ⟨_, hsame⟩
  · extract_lets noted
    have hnoted : ∃ x, noted = s.modSeq fun q => { q with downTd := x } := by
      unfold noted
      split
      · exact ⟨_, rfl⟩
      · exact ⟨_, hsame⟩
    obtain ⟨x, hx⟩ := hnoted
    split
    · rw [if_pos (by simp [hx, h])]
      exact ⟨x, hx⟩
    · exact ⟨x, hx⟩

theorem State.enterDownHold_spec (ha : a ≠ Reg.schedPo) :
    s.enterDownHold.seq.state = .downHold ∧ s.enterDownHold.reg a = s.reg a := by
  unfold State.enterDownHold
  extract_lets off forgiven cleared
  have hforgiven : Within [.pins, .seq, .react, .mrg, .sched] s forgiven :=
    (Within.refl.foldl fun _ _ h => .either h.offRail h).modReact
  have hcleared : cleared.reg a = s.reg a := (State.reg_setReg_ne _ ha.symm).trans (State.reg_of_regs (hforgiven.same .regs))
  clear_value cleared
  exact ⟨rfl, hcleared⟩

/-- A FALLING that no SYSTEM reaction began ends in DOWN_HOLD (R269). -/
theorem State.settle_falling_eq (h : s.seq.state = .falling) (hsys : s.seq.sysFall = false) :
    s.settle = if s.settleGroups.allOff then s.settleGroups.enterDownHold.masterRestart else s.settleGroups := by
  have hstate : s.settleGroups.seq.state = .falling := s.settleGroups_state.trans h
  have hsys' : s.settleGroups.seq.sysFall = false := by
    obtain ⟨a, b, hgroups⟩ := s.settleGroups_eq
    rw [hgroups]
    exact hsys
  unfold State.settle
  simp only [hstate, hsys']
  cases s.settleGroups.allOff <;> simp

theorem State.settle_falling_spec (h : s.seq.state = .falling) (hsys : s.seq.sysFall = false) (hreq : s.seq.startReq = false)
    (ha : a ≠ Reg.schedPo) :
    PendKept s s.settle ∧ (s.settle.seq.state = .falling ∨ s.settle.seq.state = .downHold) ∧ s.settle.reg a = s.reg a := by
  have hdown : PendKept s s.settleGroups.enterDownHold := PendKept.refl.settleGroups.enterDownHold
  have hstart : StartKept s s.settleGroups.enterDownHold := StartKept.refl.settleGroups.enterDownHold
  obtain ⟨hstate, hreg⟩ := State.enterDownHold_spec (s := s.settleGroups) ha
  rw [State.settle_falling_eq h hsys]
  generalize s.settleGroups.enterDownHold = y at hdown hstart hstate hreg ⊢
  split
  · obtain ⟨x, hnoted⟩ := State.masterRestart_of_noRequest (hstart.startReq.trans hreq)
    rw [hnoted]
    exact ⟨hdown.modSeq, .inr hstate, hreg.trans (State.reg_of_regs s.settleGroups_regs)⟩
  · exact ⟨PendKept.refl.settleGroups, .inl (s.settleGroups_state.trans h), State.reg_of_regs s.settleGroups_regs⟩

/-- A fall out of UP has its time in `SEQ_TSTOP` (R282). -/
theorem State.enterFalling_of_up (hup : s.seq.state = .up) (hreq : s.seq.startReq = false) (hwf : Store.wf regDflt s.regs = true) :
    PendKept s (s.enterFalling o false) ∧
      ((s.enterFalling o false).seq.state = .falling ∨ (s.enterFalling o false).seq.state = .downHold) ∧
      (s.enterFalling o false).reg Reg.seqTstop = o := by
  unfold State.enterFalling
  rw [if_neg (by simp [hup])]
  extract_lets marked rails off
  obtain ⟨hleft, hleftRegs⟩ := State.leaveState_of_up hup
  have hmarked : RailsOnly s marked := hleft.also (bs := [.regs]) Within.refl.setReg.seqEvt
  have htstop : marked.reg Reg.seqTstop = o := by
    have hwf' : Store.wf regDflt s.leaveState.regs = true := WfKept.refl.also hleftRegs (by decide) hwf
    exact (State.reg_setReg_ne _ (by decide)).trans (State.reg_setReg_same _ hwf')
  have hrails : RailsOnly marked rails := RailsOnly.refl.foldl fun _ _ h => .either h.stopSource h.stopRail
  have hregs : Within [.pins, .seq, .mrg, .sched] marked rails := Within.refl.foldl fun _ _ h => .either h.stopSource h.stopRail
  obtain ⟨hpend, hstate, hreg⟩ := State.settle_falling_spec (a := Reg.seqTstop) (s := rails.modSeq fun q =>
    { q with state := .falling, sysFall := false, srcOff := if q.src = .none then none else off }) rfl rfl
    ((hrails.startReq.trans hmarked.startReq).trans hreq) (by decide)
  exact ⟨((PendKept.refl.rails hmarked).rails hrails).modSeq.trans hpend, hstate,
    hreg.trans ((State.reg_of_regs (hregs.same .regs)).trans htstop)⟩

/-! ### Groups in UP (R282, R283) -/

theorem getLsbD_groupBit_ne {k : Nat} (hk : k ≠ g) : (BitVec.ofNat 8 (2 ^ k)).getLsbD g = false := by
  rw [BitVec.getLsbD_ofNat, Nat.testBit_two_pow_of_ne hk, Bool.and_false]

/-- A group that is up stays so while others settle. -/
theorem State.settleGroups_groupUp (h : s.groupLeft g = false) : s.settleGroups.groupLeft g = false := by
  refine List.foldlRecOn (motive := fun t : State => t.groupLeft g = false) _ _ h fun t ht k _ => ?_
  split
  next hends =>
    obtain ⟨hstop, hdown⟩ := Bool.or_eq_false_iff.mp ht
    have hk : k ≠ g := by
      rintro rfl
      rw [hstop] at hends
      simp at hends
    simp only [State.groupLeft, State.modSeq_seq, BitVec.getLsbD_and, BitVec.getLsbD_or, hstop, hdown, getLsbD_groupBit_ne hk,
      Bool.false_and, Bool.or_self]
  next => exact ht

theorem PendKept.groupStop (hup : s.seq.state = .up) : PendKept s (s.groupStop o g) := by
  cases hleft : s.groupLeft g with
  | true => rw [State.groupStop_of_left hleft]; exact .refl
  | false =>
    rw [State.groupStop_of_up hleft]
    have hrails : RailsOnly (s.groupMarked g) ((s.groupMarked g).stopRails o g) := State.stopRails_railsOnly
    rw [State.settle_of_up (hrails.state.trans hup)]
    exact (PendKept.refl.modSeq.rails hrails).settleGroups

/-- One rail of a group that rises. -/
def State.riseRail (s : State) (o : BitVec 32) (g n : Nat) : State :=
  if s.grouped n ∧ s.group n = g then
    let t := (s.modReactAt n fun r => { r with used := 0 }).clearPo n
    if t.rstate n = .off ∨ t.rstate n = .faulted then
      if t.slotted n then (t.offRail n .waitOn).modRail n fun r => { r with inst := o + t.onDelay n }
      else t.offRail n .off
    else t
  else s

theorem RailsOnly.riseRail (h : RailsOnly s₀ s) : RailsOnly s₀ (s.riseRail o g n) := by
  have hcleared : RailsOnly s₀ ((s.modReactAt n fun r => { r with used := 0 }).clearPo n) :=
    h.also (bs := [.regs, .react]) Within.refl.modReactAt.setRegBit
  exact either (either (either hcleared.offRail.modRail hcleared.offRail) hcleared) h

/-- The rails of a group rise. -/
def State.riseRails (s : State) (o : BitVec 32) (g : Nat) : State := railNums.foldl (fun t n => t.riseRail o g n) s

/-- The state with the group no longer DOWN. -/
def State.groupRaised (s : State) (g : Nat) : State := s.modSeq fun q => { q with grpDown := q.grpDown &&& ~~~(BitVec.ofNat 8 (2 ^ g)) }

theorem State.groupRise_eq (s : State) (o : BitVec 32) (g : Nat) : s.groupRise o g = ((s.riseRails o g).groupRaised g).settle := rfl

/-- A rise of a DOWN group in UP (R283). -/
theorem State.groupRise_spec (hg : g < 8) (hup : s.seq.state = .up) (hstop : s.seq.grpStop.getLsbD g = false) :
    (s.groupRise o g).groupLeft g = false ∧ PendKept s (s.groupRise o g) ∧ (s.groupRise o g).seq.state = .up := by
  have hrails : RailsOnly s (s.riseRails o g) := RailsOnly.refl.foldl fun _ _ h => h.riseRail
  have hstate : ((s.riseRails o g).groupRaised g).seq.state = .up := hrails.state.trans hup
  have hleft : ((s.riseRails o g).groupRaised g).groupLeft g = false := by
    have hstop' : (s.riseRails o g).seq.grpStop = s.seq.grpStop := by simpa [Seq.sansRails] using congrArg Seq.grpStop hrails
    simp only [State.groupLeft, State.groupRaised, State.modSeq_seq, BitVec.getLsbD_and, BitVec.getLsbD_not, getLsbD_groupBit hg, hstop',
      hstop, Bool.not_true, Bool.and_false, Bool.or_self]
  rw [State.groupRise_eq, State.settle_of_up hstate]
  exact ⟨State.settleGroups_groupUp hleft, (PendKept.refl.rails hrails).modSeq.settleGroups,
    (State.settleGroups_state _).trans hstate⟩

end Sys2Proof.Machine
end

section
/-! SUPPORT. Obligation settled: the launches of START, STOP and group commands (spec/08_rail_sequencer.md R263 to R283;
spec/11_ridge_link.md R372). -/

namespace Sys2Proof.Machine

variable {s u : State} {x : BitVec 32} {fab : Bool} {op : Nat} {w : Word} {c : GrpCmd}

/-! ### A launch of the device's own (R372) -/

/-- With no command in a master's queue a launch acts. -/
theorem State.launchOwn_of_free (h : s.isRole .mst = false ∨ s.ridge.m.queue = []) : s.launchOwn op x w u = ok u := by
  unfold State.launchOwn
  split
  next q hq =>
    rcases h with hrole | hqueue
    · rw [if_neg (ne_true_of_eq_false hrole)]
    · simp [hqueue] at hq
  next => rfl

/-- The cascade command of a START at x as it waits in the queue. -/
def queuedStart (x : BitVec 32) : QueueCmd :=
  { cmd := { op := 1, dst := dstAll, cseq := 0, arg0 := x, arg1 := 0 }, chooseT := false, tries := 0, hcmd := false, proxy := false }

/-- A START whose cascade command still waits is dropped with it. -/
theorem State.launchOwn_of_queued (hrole : s.isRole .mst = true) (hqueue : s.ridge.m.queue = [queuedStart x]) :
    s.launchOwn 1 x 0 u = ok ((s.modRidge fun r => { r with m := { r.m with queue := [] } }).dropCmd (queuedStart x)) := by
  unfold State.launchOwn
  simp only [hqueue, queuedStart, State.modRidge]
  simp [hrole]

/-- What the drop of a START leaves (R372, R374). -/
theorem State.dropCmd_queuedStart (hwf : Store.wf regDflt s.regs = true) (hpend : s.seq.pendStart = some (x, fab)) :
    let t := s.dropCmd (queuedStart x)
    t.seq.pendStart = none ∧ t.seq.state = s.seq.state ∧ t.seq.startReq = s.seq.startReq ∧ t.seq.cmdErr = 1 ∧ t.ridge = s.ridge ∧
      bit (t.reg Reg.ridgeEvt) 8 = true ∧ t.pins = s.pins := by
  have hdrop : s.dropCmd (queuedStart x) = ((s.raise Reg.ridgeEvt 8).cancelOwn (queuedStart x).cmd).setCmdErr 1 := by
    simp [State.dropCmd, queuedStart]
  have hpend' : (s.raise Reg.ridgeEvt 8).seq.pendStart = some (x, fab) := hpend
  have hcancel : ∃ r, (s.raise Reg.ridgeEvt 8).cancelOwn (queuedStart x).cmd =
      (s.raise Reg.ridgeEvt 8).modSeq fun q => { q with pendStart := none, restartT := r } :=
    ⟨_, by simp [State.cancelOwn, queuedStart, State.modSeq, hpend']; rfl⟩
  obtain ⟨r, hcancel⟩ := hcancel
  rw [hdrop, hcancel]
  exact ⟨rfl, rfl, rfl, rfl, rfl, State.bit_raise (by decide) hwf, rfl⟩

/-! ### START -/

/-- The START taken out of the pending commands. -/
def State.startTaken (s : State) : State := s.modSeq fun q => { q with pendStart := none }

theorem exec_startLaunch (hpend : s.seq.pendStart = some (x, fab)) (hdue : s.launchDue x = true) :
    exec .startLaunch s = s.launchOwn 1 x 0 (if s.stopAtSame x then s.startTaken else s.startTaken.startAt x fab false) := by
  have hexec : exec .startLaunch s = execStartLaunch s := rfl
  rw [hexec, execStartLaunch, hpend]
  exact if_neg (by simp [hdue])

/-- A START that the fabric did not issue forgives the SYSTEM reactions (R309). -/
def State.forgivenBy (s : State) (fab : Bool) : State := if fab then s else s.modReact fun r => { r with sysCnt := 0, lockout := false }

theorem State.forgivenBy_within (s : State) (fab : Bool) : Within [.react] s (s.forgivenBy fab) := .either .refl Within.refl.modReact

theorem State.startAt_idle_eq (hjoined : s.unjoined = false) (hidle : s.seq.state = .idle) :
    s.startAt x fab false = ((s.forgivenBy fab).modSeq fun q => { q with startReq := true }).enterRising x := by
  unfold State.startAt State.forgivenBy
  rw [if_neg (ne_true_of_eq_false hjoined)]
  cases fab <;> simp [hidle]

theorem startLaunch_idle_answers (hpend : s.seq.pendStart = some (x, fab)) (hwf : Store.wf regDflt s.regs = true)
    (hdue : s.launchDue x = true) (hstop : s.stopAtSame x = false) (hidle : s.seq.state = .idle) (hjoined : s.unjoined = false)
    (hfree : s.isRole .mst = false ∨ s.ridge.m.queue = []) :
    Answers .startLaunch s fun t =>
      t.seq.pendStart = none ∧ t.seq.startReq = true ∧ t.reg Reg.seqT0 = x ∧ (t.seq.state = .rising ∨ t.seq.state = .up) := by
  have hexec := (exec_startLaunch hpend hdue).trans (State.launchOwn_of_free hfree)
  rw [if_neg (ne_true_of_eq_false hstop), State.startAt_idle_eq (s := s.startTaken) hjoined hidle] at hexec
  have hforgiven := s.startTaken.forgivenBy_within fab
  generalize s.startTaken.forgivenBy fab = u at hforgiven hexec
  have hkeeps : WfKept s.startTaken u := WfKept.refl.also hforgiven
  have hidle' : u.seq.state = .idle := (congrArg Seq.state (hforgiven.same .seq)).trans hidle
  obtain ⟨-, hreq, hstate⟩ := State.enterRising_of_idle (s := u.modSeq fun q => { q with startReq := true }) hidle' x
  obtain ⟨hkept, ht0⟩ := State.enterRising_t0 (s := u.modSeq fun q => { q with startReq := true }) (o := x) hidle' (hkeeps hwf)
  exact .of_exec hexec rfl ⟨hkept.start.trans (congrArg Seq.pendStart (hforgiven.same .seq)), hreq, ht0, hstate⟩

/-- In HOLD a START is refused at its launch, before the first admission of a slave as after it (R277). -/
theorem State.startAt_of_hold (hhold : s.seq.state = .hold) : s.startAt x fab false = s.refuseLaunch 2 := by
  unfold State.startAt
  split
  · rfl
  · simp [hhold]

theorem startLaunch_hold_answers (hpend : s.seq.pendStart = some (x, fab)) (hdue : s.launchDue x = true)
    (hstop : s.stopAtSame x = false) (hhold : s.seq.state = .hold) (hfree : s.isRole .mst = false ∨ s.ridge.m.queue = []) :
    Answers .startLaunch s fun t =>
      t.seq.pendStart = none ∧ t.seq.state = .hold ∧ t.seq.startReq = s.seq.startReq ∧ t.seq.cmdErr = 2 ∧ t.pins = s.pins := by
  have hexec := (exec_startLaunch hpend hdue).trans (State.launchOwn_of_free hfree)
  rw [if_neg (ne_true_of_eq_false hstop)] at hexec
  exact .of_exec hexec (State.startAt_of_hold (s := s.startTaken) hhold) ⟨rfl, hhold, rfl, rfl, rfl⟩

/-- A STOP of the same instant leaves nothing of a START (R276). -/
theorem startLaunch_stopped_answers (hpend : s.seq.pendStart = some (x, fab)) (hdue : s.launchDue x = true)
    (hstop : s.stopAtSame x = true) (hfree : s.isRole .mst = false ∨ s.ridge.m.queue = []) :
    Answers .startLaunch s fun t => t = { s with seq := { s.seq with pendStart := none } } :=
  .of_exec ((exec_startLaunch hpend hdue).trans (State.launchOwn_of_free hfree)) (if_pos hstop) rfl

theorem startLaunch_queued_answers (hpend : s.seq.pendStart = some (x, fab)) (hwf : Store.wf regDflt s.regs = true)
    (hdue : s.launchDue x = true) (hrole : s.isRole .mst = true) (hqueue : s.ridge.m.queue = [queuedStart x]) :
    Answers .startLaunch s fun t =>
      t.seq.pendStart = none ∧ t.seq.state = s.seq.state ∧ t.seq.startReq = s.seq.startReq ∧ t.seq.cmdErr = 1 ∧ t.ridge.m.queue = [] ∧
      bit (t.reg Reg.ridgeEvt) 8 = true ∧ t.pins = s.pins := by
  obtain ⟨hstart, hstate, hreq, herr, hridge, hevt, hpins⟩ :=
    State.dropCmd_queuedStart (s := s.modRidge fun r => { r with m := { r.m with queue := [] } }) hwf hpend
  exact .of_exec ((exec_startLaunch hpend hdue).trans (State.launchOwn_of_queued hrole hqueue)) rfl
    ⟨hstart, hstate, hreq, herr, by rw [hridge]; rfl, hevt, hpins⟩

/-! ### STOP -/

/-- The STOP taken out of the pending commands, with the STARTs of its instant (R276). -/
def State.stopTaken (s : State) (x : BitVec 32) : State := (s.modSeq fun q => { q with pendStop := none }).dropStarts x

theorem exec_stopLaunch (hpend : s.seq.pendStop = some x) (hdue : s.launchDue x = true) :
    exec .stopLaunch s = s.launchOwn 2 x 0 ((s.stopTaken x).stopAt x) := by
  have hexec : exec .stopLaunch s = execStopLaunch s := rfl
  rw [hexec, execStopLaunch, hpend]
  exact if_neg (by simp [hdue])

theorem State.stopAt_of_up (hup : s.seq.state = .up) : s.stopAt x = (s.modSeq fun q => { q with startReq := false }).enterFalling x false := by
  unfold State.stopAt
  rw [hup]

theorem stopLaunch_up_answers (hpend : s.seq.pendStop = some x) (hwf : Store.wf regDflt s.regs = true) (hdue : s.launchDue x = true)
    (hup : s.seq.state = .up) (hfree : s.isRole .mst = false ∨ s.ridge.m.queue = []) :
    Answers .stopLaunch s fun t =>
      t.seq.pendStop = none ∧ t.seq.startReq = false ∧ t.reg Reg.seqTstop = x ∧ (t.seq.state = .falling ∨ t.seq.state = .downHold) := by
  have hreq : StartKept ((s.stopTaken x).modSeq fun q => { q with startReq := false })
      (((s.stopTaken x).modSeq fun q => { q with startReq := false }).enterFalling x false) := StartKept.refl.enterFalling
  obtain ⟨hkept, hstate, htstop⟩ :=
    State.enterFalling_of_up (s := (s.stopTaken x).modSeq fun q => { q with startReq := false }) (o := x) hup rfl hwf
  exact .of_exec ((exec_stopLaunch hpend hdue).trans (State.launchOwn_of_free hfree)) (State.stopAt_of_up (s := s.stopTaken x) hup)
    ⟨hkept.stop, hreq.startReq, htstop, hstate⟩

/-! ### Group commands -/

/-- A group command taken out of the pending ones. -/
def State.grpTaken (s : State) (c : GrpCmd) : State := s.modSeq fun q => { q with pendGrp := q.pendGrp.erase c }

theorem exec_grpStartLaunch (hdue : s.grpDue false = some c) :
    exec .grpStartLaunch s = s.launchOwn 3 c.t (w32 c.g) ((s.grpTaken c).grpStartAt c.t c.g) := by
  have hexec : exec .grpStartLaunch s = execGrpStartLaunch s := rfl
  rw [hexec, execGrpStartLaunch, hdue]
  rfl

theorem exec_grpStopLaunch (hdue : s.grpDue true = some c) :
    exec .grpStopLaunch s = s.launchOwn 4 c.t (w32 c.g) ((s.grpTaken c).grpStopAt c.t c.g) := by
  have hexec : exec .grpStopLaunch s = execGrpStopLaunch s := rfl
  rw [hexec, execGrpStopLaunch, hdue]
  rfl

theorem State.grpStartAt_of_down {g : Nat} (hup : s.seq.state = .up) (hdown : s.seq.grpDown.getLsbD g = true) :
    s.grpStartAt x g = s.groupRise x g := by
  unfold State.grpStartAt
  rw [hup]
  exact if_pos hdown

theorem State.grpStopAt_of_up {g : Nat} (hup : s.seq.state = .up) : s.grpStopAt x g = s.groupStop x g := by
  unfold State.grpStopAt
  rw [hup]

theorem grpStartLaunch_answers (hdue : s.grpDue false = some c) (hg : c.g < 8) (hup : s.seq.state = .up)
    (hdown : s.seq.grpDown.getLsbD c.g = true) (hstop : s.seq.grpStop.getLsbD c.g = false)
    (hfree : s.isRole .mst = false ∨ s.ridge.m.queue = []) :
    Answers .grpStartLaunch s fun t =>
      t.seq.grpDown.getLsbD c.g = false ∧ t.seq.pendGrp = s.seq.pendGrp.erase c ∧ t.seq.state = .up := by
  obtain ⟨hleft, hkept, hstate⟩ := State.groupRise_spec (s := s.grpTaken c) (o := c.t) hg hup hstop
  exact .of_exec ((exec_grpStartLaunch hdue).trans (State.launchOwn_of_free hfree))
    (State.grpStartAt_of_down (s := s.grpTaken c) hup hdown) ⟨(Bool.or_eq_false_iff.mp hleft).2, hkept.grp, hstate⟩

theorem grpStopLaunch_answers (hdue : s.grpDue true = some c) (hg : c.g < 8) (hup : s.seq.state = .up)
    (hfree : s.isRole .mst = false ∨ s.ridge.m.queue = []) :
    Answers .grpStopLaunch s fun t =>
      (t.seq.grpStop.getLsbD c.g || t.seq.grpDown.getLsbD c.g) = true ∧ t.seq.pendGrp = s.seq.pendGrp.erase c ∧ t.seq.state = .up := by
  obtain ⟨hleft, hstate⟩ := State.groupStop_spec (s := s.grpTaken c) (o := c.t) hg hup
  exact .of_exec ((exec_grpStopLaunch hdue).trans (State.launchOwn_of_free hfree)) (State.grpStopAt_of_up (s := s.grpTaken c) hup)
    ⟨hleft, (PendKept.groupStop (s := s.grpTaken c) hup).grp, hstate⟩

/-- Settles O29: each launch takes its command out of the pending ones and then acts on the rest, and no operation of a rise, a fall or a
group brings a pending command back. -/
theorem launchesAct : Obligations.LaunchesAct :=
  ⟨fun _ _ _ => startLaunch_idle_answers, fun _ _ _ => startLaunch_hold_answers, fun _ _ _ => startLaunch_stopped_answers,
    fun _ _ _ => startLaunch_queued_answers, fun _ _ => stopLaunch_up_answers, fun _ _ => grpStartLaunch_answers,
    fun _ _ => grpStopLaunch_answers⟩

end Sys2Proof.Machine
end

section
/-! SUPPORT. Rails that ramp, turn on and turn off, one at a time (spec/08_rail_sequencer.md R263 to R266), and what the watch of the
comparators leaves of a rail outside the source pair. -/

namespace Sys2Proof.Machine

variable {bs : List Block} {s₀ s t old : State} {n m : Nat} {b : Bool}

/-! ### The rail's own record and pin -/

theorem State.hasEn_of_seq (h : s.rkind n = .seq) : s.hasEn n = true := by rw [State.hasEn, h]

theorem State.isSource_of_seq (h : s.rkind n = .seq) : s.isSource n = false := by rw [State.isSource, h]

theorem State.setEn_length (b : Bool) (h : s.hasEn n = true) : (s.setEn n b).seq.rails.length = s.seq.rails.length := by
  rw [State.setEn_seq b h, State.modRail_length]

theorem State.pin_setEn (hen : s.hasEn n = true) (hpins : n < s.pins.en.length) : (s.setEn n b).pins.en.getD n .highZ = s.enDrive n b := by
  rw [State.setEn, if_pos hen]
  simp [List.getD, State.modRail, hpins]

/-- RAMP with EN driven, and the timeout counting from now (R263). -/
theorem State.enterRamp_spec (hen : s.hasEn n = true) (hrails : n < s.seq.rails.length) (hpins : n < s.pins.en.length) :
    (s.enterRamp n).rstate n = .ramp ∧ ((s.enterRamp n).railAt n).en = true ∧ ((s.enterRamp n).railAt n).since = s.ticks ∧
      (s.enterRamp n).pins.en.getD n .highZ = s.enDrive n true := by
  have hset : n < (s.setEn n true).seq.rails.length := (State.setEn_length true hen).symm ▸ hrails
  have hgone : n < ((s.setEn n true).goRail n .ramp).seq.rails.length := (State.goRail_length .ramp).symm ▸ hset
  have hpin : (s.enterRamp n).pins = (s.setEn n true).pins := (Within.refl (bs := [.seq, .mrg, .sched])).goRail.modRail.same .pins
  refine ⟨?_, ?_, ?_, ?_⟩
  · rw [State.rstate, State.enterRamp, State.railAt_modRail, if_pos ⟨rfl, hgone⟩, State.railAt_goRail, if_pos ⟨rfl, hset⟩]
  · rw [State.enterRamp, State.railAt_modRail, if_pos ⟨rfl, hgone⟩, State.railAt_goRail, if_pos ⟨rfl, hset⟩, State.railAt_setEn true hen,
      if_pos ⟨rfl, hrails⟩]
  · rw [State.enterRamp, State.railAt_modRail, if_pos ⟨rfl, hgone⟩]
  · rw [hpin, State.pin_setEn hen hpins]

/-- DISCHARGE with EN off, and the timeout counting from now (R263). -/
theorem State.enterDischarge_spec (hen : s.hasEn n = true) (hrails : n < s.seq.rails.length) (hpins : n < s.pins.en.length)
    (htmo : s.dischTmo n ≠ 0) :
    (s.enterDischarge n).rstate n = .discharge ∧ ((s.enterDischarge n).railAt n).since = s.ticks ∧
      ((s.enterDischarge n).railAt n).en = false ∧ (s.enterDischarge n).pins.en.getD n .highZ = s.enDrive n false := by
  obtain ⟨hstate, hoff, hpin⟩ := State.offRail_spec hen hrails hpins .discharge
  have hlen : n < (s.offRail n .discharge).seq.rails.length :=
    ((State.goRail_length .discharge).trans (State.setEn_length false hen)).symm ▸ hrails
  rw [State.enterDischarge, if_neg htmo, State.rstate, State.railAt_modRail, if_pos ⟨rfl, hlen⟩]
  exact ⟨hstate, rfl, hoff, hpin⟩

/-- The end of a ramp in the window: ON from now (R263). -/
theorem State.rampDone_spec (hrails : n < s.seq.rails.length) (hramp : s.rstate n = .ramp) :
    (s.rampDone n).rstate n = .on ∧ ((s.rampDone n).railAt n).onAt = s.ticks ∧ ((s.rampDone n).railAt n).en = (s.railAt n).en := by
  have hclear : Within [.regs, .nvm] ((s.modRail n fun r => { r with inWin := none }).goRail n .on) (s.rampDone n) :=
    Within.refl.countEvent.clearLat.clearLat
  have hinWin : (s.modRail n fun r => { r with inWin := none }).railAt n = { s.railAt n with inWin := none } := by
    rw [State.railAt_modRail, if_pos ⟨rfl, hrails⟩]
  have hlen : n < (s.modRail n fun r => { r with inWin := none }).seq.rails.length := (State.modRail_length _).symm ▸ hrails
  have hstate : (s.modRail n fun r => { r with inWin := none }).rstate n ≠ .on := by
    rw [State.rstate, hinWin]
    exact fun hon => nomatch hramp.symm.trans hon
  have hrail : (s.rampDone n).railAt n = { s.railAt n with inWin := none, state := .on, onAt := s.ticks } := by
    rw [State.railAt_of_seq (hclear.same .seq), State.railAt_goRail, if_pos ⟨rfl, hlen⟩, if_pos ⟨rfl, hstate⟩, hinWin]
    rfl
  rw [State.rstate, hrail]
  exact ⟨rfl, rfl, rfl⟩

/-! ### The other rails -/

namespace RailKept

theorem enterRamp (h : RailKept n s₀ s) (hm : n ≠ m) : RailKept n s₀ (s.enterRamp m) := ((h.setEn hm).goRail hm).modRail hm

/-- A change outside the sequencer and the pins. -/
theorem also (h : RailKept n s₀ s) (hw : Within bs s t) (hb : ∀ b ∈ [Block.seq, .pins], b ∉ bs := by decide) : RailKept n s₀ t :=
  h.trans (.of_eq (congrArg Seq.rails (hw .seq (hb _ (by simp)))) (hw .pins (hb _ (by simp))))

theorem modSeq {f : Seq → Seq} (h : RailKept n s₀ s) (hf : ∀ q, (f q).rails = q.rails := by exact fun _ => rfl) :
    RailKept n s₀ (s.modSeq f) := h.trans (.of_eq (hf _) rfl)

/-! ### The watch -/

/-- Where the pair selects a source, another rail stays (R286). -/
theorem srcLeave {toBatt : Bool} (h : RailKept n s₀ s) (hsrc : s.srcRail ≠ some n) : RailKept n s₀ (s.srcLeave toBatt) := by
  unfold State.srcLeave
  split
  next m hm =>
    have hnm : n ≠ m := fun heq => hsrc (heq ▸ hm)
    exact ((h.offRail hnm).modRail hnm).modSeq
  next => exact h.modSeq

theorem dwellJudge (h : RailKept n s₀ s) : RailKept n s₀ s.dwellJudge := by
  unfold State.dwellJudge
  split
  · exact h.modSeq
  · split
    · split
      · exact h.modSeq
      · exact h
    · split
      · exact h
      · exact h.modSeq

theorem srcJudge (h : RailKept n s₀ s) (hsrc : s.srcRail ≠ some n) : RailKept n s₀ s.srcJudge := by
  unfold State.srcJudge
  split
  · exact h
  · split
    · split
      · exact h.srcLeave hsrc
      · exact h
    · exact h.dwellJudge
    · exact h

theorem trackRamp (h : RailKept n s₀ s) (hramp : s.rstate n ≠ .ramp) : RailKept n s₀ (s.trackRamp m) := by
  unfold State.trackRamp
  split
  · exact h
  next hm =>
    have hnm : n ≠ m := by
      rintro rfl
      exact hm hramp
    split
    · split
      · exact h
      · exact h.modRail hnm
    · exact h.modRail hnm

end RailKept

/-- The pair selects no rail of another kind. -/
theorem State.srcRail_ne_of_seq (h : s.rkind n = .seq) : s.srcRail ≠ some n := by
  intro hsrc
  unfold State.srcRail at hsrc
  split at hsrc
  · exact nomatch (State.railOf_eq_some hsrc).2.symm.trans h
  · exact nomatch (State.railOf_eq_some hsrc).2.symm.trans h
  all_goals cases hsrc

/-- Outside HOLD and with the guard off, the watch of the comparators leaves a SEQUENCED rail that does not ramp, and its pin. -/
theorem RailKept.watch (hstate : s.seq.state ≠ .hold) (hguard : s.fab.guard = false) (hkind : s.rkind n = .seq)
    (hramp : s.rstate n ≠ .ramp) : RailKept n s (s.watch old) := by
  have hsrc : Within [.supply] s (s.watchSrc old) := Within.refl.watchSrc
  have htracked : RailKept n s (s.tracked old) := by
    refine List.foldlRecOn (motive := RailKept n s) _ _ (RailKept.refl.also hsrc) fun t ht k _ => ht.trackRamp ?_
    rwa [State.rstate, ht.rail]
  have hframe : Within [.supply, .seq] s (s.tracked old) := Within.refl.tracked
  have hguarded : (s.tracked old).guardTrip = s.tracked old :=
    State.guardTrip_of_off ((congrArg Fab.guard (hframe.same .fab)).trans hguard)
  have hheld : (s.tracked old).holdSource old = s.tracked old :=
    State.holdSource_of_not_hold (by rw [(s.tracked_rails old).state]; exact hstate)
  have hjudged : RailKept n s (s.tracked old).srcJudge :=
    htracked.srcJudge (State.srcRail_ne_of_seq ((State.rkind_of_regs (hframe.same .regs)).trans hkind))
  unfold State.watch
  dsimp only
  split
  · exact RailKept.refl.also hsrc
  · rw [State.tracked] at hguarded hheld hjudged
    rw [hguarded, hheld]
    exact hjudged

/-- The configuration of the rails lies below the end of the result bank. -/
theorem ResultsKept.rkind (h : ResultsKept s t) : t.rkind n = s.rkind n := by
  unfold State.rkind
  split
  next hn => rw [State.regFld, h.reg _ (by simp only [resultsEnd, Reg.chRailCfg]; omega), State.regFld]
  next => rfl

theorem ResultsKept.rampDone (h : ResultsKept s₀ s) : ResultsKept s₀ (s.rampDone n) := by
  have hclear {u : State} {m : Nat} {high : Bool} (h : ResultsKept s₀ u) : ResultsKept s₀ (u.clearLat m high) := either h h.setLat
  exact hclear (hclear (h.modSeq.goRail.countEvent))

theorem RailsOnly.rampDone (h : RailsOnly s₀ s) : RailsOnly s₀ (s.rampDone n) :=
  h.modRail.enterOn.also (bs := [.regs]) Within.refl.clearLat.clearLat

end Sys2Proof.Machine
end

section
/-! SUPPORT. The instants of one rail outside the source pair, in UP (spec/08_rail_sequencer.md R257 to R266;
spec/09_fault_reactions_and_margining.md R303). -/

namespace Sys2Proof.Machine

variable {s : State} {n k : Nat}

theorem State.railOn_eq (hcounts : s.seqCounts = true) (hstop : s.stopDue n = false) (hkind : s.rkind n = .seq)
    (hwait : s.rstate n = .waitOn) (hdue : s.due (s.railAt n).inst = true) (hon : s.canTurnOn n = true) : s.railOn n = s.enterRamp n := by
  unfold State.railOn
  rw [if_neg (by simp [hcounts, hstop, hwait, hdue]), if_neg (by simp [State.isSource_of_seq hkind]), if_pos hon]

theorem railOnInstant_answers (hn : n < 24) (hlists : ListsWf s) (hcounts : s.seqCounts = true) (hkind : s.rkind n = .seq)
    (hstop : s.stopDue n = false) (hwait : s.rstate n = .waitOn) (hdue : s.due (s.railAt n).inst = true) (hon : s.canTurnOn n = true) :
    Answers (.railOnInstant n) s fun t =>
      t.rstate n = .ramp ∧ (t.railAt n).en = true ∧ (t.railAt n).since = s.ticks ∧ t.pins.en.getD n .highZ = s.enDrive n true ∧
      ∀ m, m < 24 → m ≠ n → t.rstate m = s.rstate m ∧ t.pins.en.getD m .highZ = s.pins.en.getD m .highZ := by
  obtain ⟨hpins, -, -, hrails, -⟩ := hlists
  obtain ⟨hstate, hen, hsince, hpin⟩ := State.enterRamp_spec (State.hasEn_of_seq hkind) (hrails ▸ hn) (hpins ▸ hn)
  refine .of_exec rfl (State.railOn_eq hcounts hstop hkind hwait hdue hon) ⟨hstate, hen, hsince, hpin, fun m _ hm => ?_⟩
  have hother : RailKept m s (s.enterRamp n) := RailKept.refl.enterRamp hm
  exact ⟨congrArg Rail.state hother.rail, hother.pin⟩

theorem exec_rampInWindow (hin : (s.railAt n).inWin = some k) (hcounts : s.seqCounts = true) (hramp : s.rstate n = .ramp)
    (hover : k + 10 ≤ s.ticks) (hedge : s.edgeWaits n = false) (hstop : s.stopDue n = false) :
    exec (.rampInWindow n) s = .next ((s.rampDone n).settle.watch s) := by
  have hexec : exec (.rampInWindow n) s = execRampInWindow n s := rfl
  rw [hexec, execRampInWindow, hin]
  exact if_pos (by simp [hcounts, hramp, State.passed, hover, hedge, hstop])

theorem rampInWindow_answers (hn : n < 24) (hlists : ListsWf s) (hcounts : s.seqCounts = true) (hup : s.seq.state = .up)
    (hkind : s.rkind n = .seq) (hguard : s.fab.guard = false) (hstop : s.stopDue n = false) (hedge : s.edgeWaits n = false)
    (hin : (s.railAt n).inWin = some k) (hramp : s.rstate n = .ramp) (hover : k + 10 ≤ s.ticks) :
    Answers (.rampInWindow n) s fun t => t.rstate n = .on ∧ (t.railAt n).onAt = s.ticks ∧ (t.railAt n).en = (s.railAt n).en := by
  obtain ⟨-, -, -, hrails, -⟩ := hlists
  obtain ⟨hon, hat, hen⟩ := State.rampDone_spec (hrails ▸ hn) hramp
  have hdoneUp : (s.rampDone n).seq.state = .up := RailsOnly.refl.rampDone.state.trans hup
  have hkept : RailKept n (s.rampDone n) (s.rampDone n).settle := by
    rw [State.settle_of_up hdoneUp]
    exact RailKept.refl.settleGroups
  have hsettledUp : (s.rampDone n).settle.seq.state = .up := by
    rw [State.settle_of_up hdoneUp]
    exact (State.settleGroups_state _).trans hdoneUp
  have hframe : ResultsKept s (s.rampDone n).settle := ResultsKept.refl.rampDone.settle
  have hall : RailKept n (s.rampDone n) ((s.rampDone n).settle.watch s) :=
    hkept.trans (.watch (by simp [hsettledUp]) ((congrArg Fab.guard hframe.fab).trans hguard) (hframe.rkind.trans hkind)
      (by rw [State.rstate, hkept.rail]; exact fun h => nomatch hon.symm.trans h))
  refine .of_exec (exec_rampInWindow hin hcounts hramp hover hedge hstop) rfl ?_
  rw [State.rstate, hall.rail]
  exact ⟨hon, hat, hen⟩

theorem exec_railOffInstant (hcounts : s.seqCounts = true) (hkind : s.rkind n = .seq) (hedge : s.edgeWaits n = false)
    (hwait : s.rstate n = .waitOff) (hdue : s.due (s.railAt n).inst = true) :
    exec (.railOffInstant n) s = .next (s.enterDischarge n).settle := by
  have hexec : exec (.railOffInstant n) s = execRailOffInstant n s := rfl
  rw [hexec, execRailOffInstant, if_neg (by simp [hcounts]), if_neg (by simp [hedge]), if_neg (by simp [State.isSource_of_seq hkind])]
  exact if_pos ⟨hwait, hdue⟩

theorem railOffInstant_answers (hn : n < 24) (hlists : ListsWf s) (hcounts : s.seqCounts = true) (hup : s.seq.state = .up)
    (hkind : s.rkind n = .seq) (hedge : s.edgeWaits n = false) (hwait : s.rstate n = .waitOff)
    (hdue : s.due (s.railAt n).inst = true) (htmo : s.dischTmo n ≠ 0) :
    Answers (.railOffInstant n) s fun t =>
      t.rstate n = .discharge ∧ (t.railAt n).since = s.ticks ∧ (t.railAt n).en = false ∧ t.pins.en.getD n .highZ = s.enDrive n false := by
  obtain ⟨hpins, -, -, hrails, -⟩ := hlists
  obtain ⟨hstate, hsince, hen, hpin⟩ := State.enterDischarge_spec (State.hasEn_of_seq hkind) (hrails ▸ hn) (hpins ▸ hn) htmo
  have hkept : RailKept n (s.enterDischarge n) (s.enterDischarge n).settleGroups := RailKept.refl.settleGroups
  refine .of_exec (exec_railOffInstant hcounts hkind hedge hwait hdue)
    (State.settle_of_up (RailsOnly.refl.enterDischarge.state.trans hup)) ?_
  rw [State.rstate, hkept.rail, hkept.pin]
  exact ⟨hstate, hsince, hen, hpin⟩

/-- A rail OFF with its discharge timed out (R263). -/
def State.dischOver (s : State) (n : Nat) : State := ((s.goRail n .off).modRail n fun r => { r with dischFail := true }).seqEvt 3

theorem exec_dischTimeout (hcounts : s.seqCounts = true) (hstate : s.rstate n = .discharge)
    (hover : (s.railAt n).since + (s.railAt n).tmo ≤ s.ticks) : exec (.dischTimeout n) s = .next (s.dischOver n).settle :=
  if_pos (by rw [State.rstate] at hstate; simp [hcounts, hstate, State.passed, hover])

theorem dischTimeout_answers (hn : n < 24) (hlists : ListsWf s) (hcounts : s.seqCounts = true) (hup : s.seq.state = .up)
    (hstate : s.rstate n = .discharge) (hover : (s.railAt n).since + (s.railAt n).tmo ≤ s.ticks) :
    Answers (.dischTimeout n) s fun t => t.rstate n = .off ∧ (t.railAt n).dischFail = true ∧ t.pins = s.pins := by
  obtain ⟨-, -, -, hrails, -⟩ := hlists
  have hlen : n < s.seq.rails.length := hrails ▸ hn
  have hrail : (s.dischOver n).railAt n = { (s.goRail n .off).railAt n with dischFail := true } := by
    have hevent : (s.dischOver n).railAt n = ((s.goRail n .off).modRail n fun r => { r with dischFail := true }).railAt n := rfl
    rw [hevent, State.railAt_modRail, if_pos ⟨rfl, (State.goRail_length .off).symm ▸ hlen⟩]
  have hrails : RailsOnly s (s.dischOver n) := RailsOnly.refl.goRail.modRail.raise
  have hframe : Within [.regs, .seq, .mrg, .sched] s (s.dischOver n).settleGroups := by
    obtain ⟨a, b, hgroups⟩ := (s.dischOver n).settleGroups_eq
    rw [hgroups]
    exact Within.refl.goRail.modRail.seqEvt.modSeq
  have hkept : RailKept n (s.dischOver n) (s.dischOver n).settleGroups := RailKept.refl.settleGroups
  refine .of_exec (exec_dischTimeout hcounts hstate hover) (State.settle_of_up (hrails.state.trans hup)) ?_
  rw [State.rstate, hkept.rail, hrail, State.railAt_goRail, if_pos ⟨rfl, hlen⟩]
  exact ⟨rfl, rfl, hframe.same .pins⟩

theorem exec_retryGapExpiry (hcounts : s.seqCounts = true) (hkind : s.rkind n = .seq) (hstop : s.stopDue n = false)
    (hstate : s.rstate n = .retryWait) (hover : (s.railAt n).since + (s.railAt n).tmo ≤ s.ticks) (hon : s.canTurnOn n = true) :
    exec (.retryGapExpiry n) s = .next (s.enterRamp n) := by
  rw [State.rstate] at hstate
  exact (if_neg (by simp [hcounts, hstate, State.passed, hover, hstop])).trans <| (if_neg (by simp [hkind])).trans <|
    (if_neg (by simp [State.isSource_of_seq hkind])).trans <| if_pos hon

theorem retryGapExpiry_answers (hn : n < 24) (hlists : ListsWf s) (hcounts : s.seqCounts = true) (hkind : s.rkind n = .seq)
    (hstop : s.stopDue n = false) (hstate : s.rstate n = .retryWait) (hover : (s.railAt n).since + (s.railAt n).tmo ≤ s.ticks)
    (hon : s.canTurnOn n = true) :
    Answers (.retryGapExpiry n) s fun t =>
      t.rstate n = .ramp ∧ (t.railAt n).en = true ∧ t.pins.en.getD n .highZ = s.enDrive n true := by
  obtain ⟨hpins, -, -, hrails, -⟩ := hlists
  obtain ⟨hramp, hen, -, hpin⟩ := State.enterRamp_spec (State.hasEn_of_seq hkind) (hrails ▸ hn) (hpins ▸ hn)
  exact .of_exec (exec_retryGapExpiry hcounts hkind hstop hstate hover hon) rfl ⟨hramp, hen, hpin⟩

end Sys2Proof.Machine
end

section
/-! SUPPORT. A rail that is FAULTED stays so, with its pin, through the reactions to the faults of one cycle
(spec/09_fault_reactions_and_margining.md R303 to R311). -/

namespace Sys2Proof.Machine

variable {s₀ s t pre : State} {n m : Nat} {o : BitVec 32} {all : Bool} {evs : List FaultEv}

/-! ### Stops and settling -/

theorem RailKept.stopSource (h : RailKept n s₀ s) (hm : n ≠ m) : RailKept n s₀ (s.stopSource m) := by
  unfold State.stopSource
  split
  · exact h.goRail hm
  · exact h.goRail hm
  · exact h.goRail hm
  · exact h

theorem State.stopSource_of_faulted (h : s.rstate n = .faulted) : s.stopSource n = s := by
  unfold State.stopSource
  rw [h]

/-- UP, or a FALLING that a SYSTEM reaction began: settling moves no rail there (R269, R308). -/
def State.SettlesNoRail (s : State) : Prop := s.seq.state = .up ∨ (s.seq.state = .falling ∧ s.seq.sysFall = true)

theorem State.settle_of_sysFall (hstate : s.seq.state = .falling) (hsys : s.seq.sysFall = true) :
    s.settle.seq = s.settleGroups.seq ∧ s.settle.pins = s.settleGroups.pins := by
  have hstate' : s.settleGroups.seq.state = .falling := s.settleGroups_state.trans hstate
  have hsys' : s.settleGroups.seq.sysFall = true := by
    obtain ⟨a, b, hgroups⟩ := s.settleGroups_eq
    rw [hgroups]
    exact hsys
  unfold State.settle
  simp only [hstate', hsys', if_true]
  split
  · exact ⟨rfl, rfl⟩
  · split <;> exact ⟨rfl, rfl⟩

theorem RailKept.settle (h : s.SettlesNoRail) : RailKept n s s.settle ∧ s.settle.SettlesNoRail := by
  have hgroups : RailKept n s s.settleGroups := RailKept.refl.settleGroups
  rcases h with hup | ⟨hstate, hsys⟩
  · rw [State.settle_of_up hup]
    exact ⟨hgroups, .inl ((State.settleGroups_state s).trans hup)⟩
  · obtain ⟨hseq, hpins⟩ := State.settle_of_sysFall hstate hsys
    obtain ⟨a, b, heq⟩ := s.settleGroups_eq
    refine ⟨hgroups.trans (.of_eq (congrArg Seq.rails hseq) hpins), .inr ?_⟩
    rw [hseq, heq]
    exact ⟨hstate, hsys⟩

/-! ### The SYSTEM reaction -/

/-- A SYSTEM reaction in UP begins a FALLING that leaves a FAULTED rail (R282, R308). -/
theorem RailKept.enterFalling_system (hup : s.seq.state = .up) (hfaulted : s.rstate n = .faulted) :
    RailKept n s (s.enterFalling o true) ∧ (s.enterFalling o true).SettlesNoRail := by
  unfold State.enterFalling
  rw [if_neg (by simp [hup])]
  extract_lets marked rails off
  have hleft : RailKept n s s.leaveState := .leaveState (.inr (by simp [hfaulted]))
  have hmarked : RailKept n s marked := hleft.trans (.of_eq rfl rfl)
  have hrails : RailKept n s rails := by
    refine List.foldlRecOn (motive := RailKept n s) _ _ hmarked fun t ht k _ => ?_
    by_cases hk : n = k
    · subst hk
      have hrail : t.rstate n = .faulted := by rw [State.rstate, ht.rail]; exact hfaulted
      rw [State.stopSource_of_faulted hrail, State.stopRail_of_faulted hrail, ite_self]
      exact ht
    · split
      · exact ht.stopSource hk
      · exact ht.stopRail hk
  obtain ⟨hsettled, hrests⟩ := RailKept.settle (n := n) (s := rails.modSeq fun q =>
    { q with state := .falling, sysFall := true, srcOff := if q.src = .none then none else off }) (.inr ⟨rfl, rfl⟩)
  exact ⟨hrails.modSeq.trans hsettled, hrests⟩

theorem RailKept.systemReaction (hn : n < 24) (hup : s.seq.state = .up) (hfaulted : s.rstate n = .faulted) :
    RailKept n s s.systemReaction ∧ s.systemReaction.SettlesNoRail := by
  unfold State.systemReaction
  extract_lets cnt again counted noted casc
  have hnoted : RailStands n s noted := RailStands.refl.also (bs := [.react, .ridge]) Within.refl.modReact.modRidge
  have hcasc : RailStands n s casc := .either ((hnoted.cascade hn (by decide)).setReg hn) hnoted
  clear_value casc
  obtain ⟨hfall, hrests⟩ := RailKept.enterFalling_system (o := casc.tb.now) (hcasc.state.trans hup)
    (by rw [State.rstate, hcasc.kept.rail]; exact hfaulted)
  exact ⟨hcasc.kept.trans hfall, hrests⟩

/-! ### The reactions of one set -/

namespace RailStands

theorem foldl {α : Type} {f : State → α → State} {xs : List α} (h : RailStands n s t)
    (hf : ∀ t x, RailStands n s t → RailStands n s (f t x)) : RailStands n s (xs.foldl f t) :=
  List.foldlRecOn xs f h fun t h x _ => hf t x h

theorem setLast {r : Nat} (h : RailStands n s₀ s) : RailStands n s₀ (s.setLast m r) := h.also (bs := [.react]) Within.refl.setLast

theorem escalated (h : RailStands n s₀ s) (hn : n < 24) : RailStands n s₀ (s.escalated m) :=
  (h.also (bs := [.react]) Within.refl.modReactAt).setReg hn

/-- The counts and the captures of a set of faults (R312, R330, R338). -/
theorem countFaults (h : RailStands n s₀ s) (hn : n < 24) : RailStands n s₀ (s.countFaults pre evs) := by
  have hcount : RailStands n s₀ (evs.foldl (fun t e => t.countEvent e.rail .fault) s) :=
    h.foldl fun _ _ h => h.also (bs := [.nvm]) Within.refl.countEvent
  have hcapture {l : List FaultEv} {u : State} (h : RailStands n s₀ u) :
      RailStands n s₀ (l.foldl (fun t x => t.captureHistory pre x) u) :=
    h.foldl fun _ _ h => h.also (bs := [.nvm]) Within.refl.captureHistory
  unfold State.countFaults
  dsimp only
  split
  · exact hcount
  · exact either (hcapture (either (hcount.setFirst hn) hcount))
      (hcapture ((hcount.setFirst hn).also (bs := [.nvm]) Within.refl.captureRecord))

end RailStands

theorem RailsOnly.retryRail (h : RailsOnly s₀ s) : RailsOnly s₀ (s.retryRail m) :=
  ((h.also (bs := [.react]) Within.refl.modReactAt.setLast).goRail.modRail.raise).also (bs := [.nvm]) Within.refl.countEvent

theorem RailKept.retryRail (h : RailKept n s₀ s) (hm : n ≠ m) : RailKept n s₀ (s.retryRail m) :=
  ((((h.also (bs := [.react]) Within.refl.modReactAt.setLast).goRail hm).modRail hm).also (bs := [.regs]) Within.refl.raise).also
    (bs := [.nvm]) Within.refl.countEvent

theorem State.srcAct_of_noEdge (s : State) (k : Nat) : s.srcAct false ≠ some k := nofun

/-- Whatever the other rails of a set ask for, a FAULTED rail whose reaction is GROUP stays FAULTED, with its pin (R303, R306, R311). -/
theorem State.runReactions_keeps_faulted (react : List Nat) (hn : n < 24) (hreact : s.reaction n = .group) (hup : s.seq.state = .up)
    (hfaulted : s.rstate n = .faulted) :
    RailKept n s (s.runReactions react [] false false) ∧ (s.runReactions react [] false false).SettlesNoRail := by
  unfold State.runReactions
  extract_lets dec sys live withdrawn shown edge systems grp groups mask named stopped
  have hedge : edge = s := rfl
  clear_value edge
  subst hedge
  split
  · have hsystems : RailStands n edge systems :=
      RailStands.refl.foldl fun _ _ h => .either (h.setLast.escalated hn) h.setLast
    obtain ⟨hkept, hrests⟩ := RailKept.systemReaction hn (hsystems.state.trans hup)
      (by rw [State.rstate, hsystems.kept.rail]; exact hfaulted)
    exact ⟨hsystems.kept.trans hkept, hrests⟩
  · rw [if_neg fun h => edge.srcAct_of_noEdge 0 h.1, if_neg fun h => edge.srcAct_of_noEdge 0 h.1]
    have hgroups : RailStands n edge groups :=
      RailStands.refl.foldl fun _ _ h => .either ((h.setLast.reportGroup hn).escalated hn) (h.setLast.reportGroup hn)
    have hstopped : RailKept n edge stopped ∧ stopped.seq.state = .up := by
      refine List.foldlRecOn (motive := fun t : State => RailKept n edge t ∧ t.seq.state = .up) _ _
        ⟨hgroups.kept, hgroups.state.trans hup⟩ fun t ht g hg => ?_
      obtain ⟨hkept, hstate⟩ := ht
      have hg8 : g < 8 := List.mem_range.mp (List.mem_filter.mp hg).1
      have hrail : t.rstate n = .faulted := by rw [State.rstate, hkept.rail]; exact hfaulted
      simp only [List.contains_nil, Bool.false_and, Bool.false_eq_true, if_false, hstate]
      exact ⟨hkept.trans (.groupStop hstate hrail), (State.groupStop_spec hg8 hstate).2⟩
    have hnoRetry : ∀ d ∈ dec, d.1 = n → d.2.1 ≠ .retry := by
      rintro d hd rfl
      obtain ⟨k, -, rfl⟩ := List.mem_map.mp hd
      have hgroup : edge.decided k = (.group, false) := by rw [State.decided, hreact]
      simp [hgroup]
    refine And.imp_right .inl (List.foldlRecOn (motive := fun t : State => RailKept n edge t ∧ t.seq.state = .up) _ _ hstopped
      fun t ht d hd => ?_)
    obtain ⟨hkept, hstate⟩ := ht
    split
    · exact ⟨hkept, hstate⟩
    next hretry =>
      have hother : n ≠ d.1 := fun heq => hretry (.inl (hnoRetry d hd heq.symm))
      exact ⟨hkept.retryRail hother, RailsOnly.refl.retryRail.state.trans hstate⟩

end Sys2Proof.Machine
end

section
/-! SUPPORT. Obligation settled: the instants and timeouts of a rail, a missed ramp among the other faults of its cycle included
(spec/08_rail_sequencer.md R257 to R266; spec/09_fault_reactions_and_margining.md R303, R311). -/

namespace Sys2Proof.Machine

variable {bs : List Block} {s₀ s t u : State} {n m k : Nat} {e : FaultEv} {evs : List FaultEv}

/-! ### What the faults of other rails leave of a rail's setup -/

/-- The device state, the numbers of rails and of pins, and the kind, the reaction and the off drive of rail n stay. -/
structure SetupKept (n : Nat) (s t : State) : Prop where
  state : t.seq.state = s.seq.state
  rails : t.seq.rails.length = s.seq.rails.length
  pins : t.pins.en.length = s.pins.en.length
  kind : t.rkind n = s.rkind n
  reaction : t.reaction n = s.reaction n
  drive : t.enDrive n false = s.enDrive n false

theorem State.enDrive_of_reg {b : Bool} (hmode0 : t.reg Reg.sysEnmode0 = s.reg Reg.sysEnmode0)
    (hmode1 : t.reg Reg.sysEnmode1 = s.reg Reg.sysEnmode1) (hpol : t.reg Reg.sysEnpol = s.reg Reg.sysEnpol)
    (hsupply : t.supply = s.supply) : t.enDrive n b = s.enDrive n b := by
  have hmode : t.enMode n = s.enMode n := by simp only [State.enMode, State.regFld, hmode0, hmode1]
  have hpol' : t.enPol n = s.enPol n := by rw [State.enPol, State.regBit, hpol, State.enPol, State.regBit]
  rw [State.enDrive, hmode, hpol', hsupply, State.enDrive]

/-- The registers of events configure no rail and no pin. -/
theorem faultReg_ne {a : Nat} (ha : a ∈ [Reg.seqEvt, Reg.reactEvt]) (n : Nat) (hn : n < 24) :
    a ≠ Reg.chRailCfg n ∧ a ≠ Reg.reactRailCfg n ∧ a ≠ Reg.sysEnmode0 ∧ a ≠ Reg.sysEnmode1 ∧ a ≠ Reg.sysEnpol := by
  simp only [List.mem_cons, List.not_mem_nil, or_false, Reg.seqEvt, Reg.reactEvt] at ha
  simp only [Reg.chRailCfg, Reg.reactRailCfg, Reg.sysEnmode0, Reg.sysEnmode1, Reg.sysEnpol]
  omega

namespace SetupKept

theorem refl : SetupKept n s s := ⟨rfl, rfl, rfl, rfl, rfl, rfl⟩

theorem trans (h : SetupKept n s t) (h' : SetupKept n t u) : SetupKept n s u :=
  ⟨h'.state.trans h.state, h'.rails.trans h.rails, h'.pins.trans h.pins, h'.kind.trans h.kind, h'.reaction.trans h.reaction,
    h'.drive.trans h.drive⟩

/-- A change that writes no register and keeps the supplies. -/
theorem of_regs (hstate : t.seq.state = s.seq.state) (hrails : t.seq.rails.length = s.seq.rails.length)
    (hpins : t.pins.en.length = s.pins.en.length) (hw : Within bs s t) (hb : ∀ b ∈ [Block.regs, .supply], b ∉ bs := by decide) :
    SetupKept n s t := by
  have hregs : t.regs = s.regs := hw .regs (hb _ (by simp))
  have hsupply : t.supply = s.supply := hw .supply (hb _ (by simp))
  exact ⟨hstate, hrails, hpins, State.rkind_of_regs hregs, by simp only [State.reaction, State.regFld, State.reg, hregs],
    State.enDrive_of_reg (State.reg_of_regs hregs) (State.reg_of_regs hregs) (State.reg_of_regs hregs) hsupply⟩

theorem also (h : SetupKept n s₀ s) (hw : Within bs s t) (hb : ∀ b ∈ [Block.seq, .pins, .regs, .supply], b ∉ bs := by decide) :
    SetupKept n s₀ t := by
  have hseq : t.seq = s.seq := hw .seq (hb _ (by simp))
  have hpins : t.pins = s.pins := hw .pins (hb _ (by simp))
  exact h.trans (.of_regs (by rw [hseq]) (by rw [hseq]) (by rw [hpins]) hw
    fun b hmem => hb b (List.mem_cons_of_mem _ (List.mem_cons_of_mem _ hmem)))

theorem raise {a i : Nat} (h : SetupKept n s₀ s) (hn : n < 24) (ha : a ∈ [Reg.seqEvt, Reg.reactEvt] := by decide) :
    SetupKept n s₀ (s.raise a i) := by
  obtain ⟨hcfg, hreact, hmode0, hmode1, hpol⟩ := faultReg_ne ha n hn
  unfold State.raise
  exact h.trans ⟨rfl, rfl, rfl, by simp only [State.rkind, State.regFld, State.reg_setReg_ne s hcfg],
    by simp only [State.reaction, State.regFld, State.reg_setReg_ne s hreact],
    State.enDrive_of_reg (State.reg_setReg_ne s hmode0) (State.reg_setReg_ne s hmode1) (State.reg_setReg_ne s hpol) rfl⟩

theorem modRail {f : Rail → Rail} (h : SetupKept n s₀ s) : SetupKept n s₀ (s.modRail m f) :=
  h.trans (.of_regs (bs := [.seq]) rfl (State.modRail_length f) rfl Within.refl.modRail)

theorem goRail {st : RailState} (h : SetupKept n s₀ s) : SetupKept n s₀ (s.goRail m st) := by
  have hw : Within [.seq, .mrg, .sched] s (s.goRail m st) := Within.refl.goRail
  exact h.trans (.of_regs RailsOnly.refl.goRail.state (State.goRail_length st) (congrArg (·.en.length) (hw.same .pins)) hw)

theorem setEn {b : Bool} (h : SetupKept n s₀ s) : SetupKept n s₀ (s.setEn m b) := by
  unfold State.setEn
  split
  · exact h.modRail.trans (.of_regs (bs := [.pins]) rfl rfl (List.length_set ..) Within.refl.modPins)
  · exact h

theorem offRail {st : RailState} (h : SetupKept n s₀ s) : SetupKept n s₀ (s.offRail m st) := h.setEn.goRail

theorem enterOn (h : SetupKept n s₀ s) : SetupKept n s₀ (s.enterOn m) := h.goRail.also (bs := [.nvm]) Within.refl.countEvent

theorem setLast {r : Nat} (h : SetupKept n s₀ s) : SetupKept n s₀ (s.setLast m r) := h.also (bs := [.react]) Within.refl.setLast

theorem either {c : Prop} [Decidable c] (ht : SetupKept n s t) (hu : SetupKept n s u) : SetupKept n s (if c then t else u) := by
  split
  · exact ht
  · exact hu

theorem eitherFst {α : Type} {c : Prop} [Decidable c] {x y : State × α} (hx : SetupKept n s x.1) (hy : SetupKept n s y.1) :
    SetupKept n s (if c then x else y).1 := by
  split
  · exact hx
  · exact hy

theorem takeFault (h : SetupKept n s₀ s) (hn : n < 24) : SetupKept n s₀ (s.takeFault e).1 := by
  unfold State.takeFault
  refine eitherFst h ?_
  dsimp only
  split
  · exact eitherFst ((h.modRail.raise hn).setEn.enterOn.raise hn).setLast (h.modRail.raise hn).offRail
  · exact eitherFst (h.raise hn).setLast (eitherFst h.offRail.modRail h.offRail)
  · exact either h.modRail.offRail h.modRail.offRail.modRail
  · exact h

end SetupKept

/-! ### The fault of one rail -/

theorem RailKept.takeFault (h : RailKept n s₀ s) (he : n ≠ e.rail) : RailKept n s₀ (s.takeFault e).1 := by
  have hfst {c : Prop} [Decidable c] {x y : State × Bool × Bool} (hx : RailKept n s₀ x.1) (hy : RailKept n s₀ y.1) :
      RailKept n s₀ (if c then x else y).1 := by
    split
    · exact hx
    · exact hy
  have hevent {u : State} {i : Nat} (h : RailKept n s₀ u) : RailKept n s₀ (u.raise i 2) := h.also (bs := [.regs]) Within.refl.raise
  have hnoted {u : State} (h : RailKept n s₀ u) : RailKept n s₀ ((u.reactEvt 0).setLast e.rail 0) :=
    h.also (bs := [.regs, .react]) Within.refl.raise.setLast
  unfold State.takeFault
  refine hfst h ?_
  dsimp only
  split
  · exact hfst (hnoted ((((hevent (h.modRail he)).setEn he).goRail he).also (bs := [.nvm]) Within.refl.countEvent))
      ((hevent (h.modRail he)).offRail he)
  · exact hfst (hnoted h) (hfst ((h.offRail he).modRail he) (h.offRail he))
  · unfold State.enterDischarge
    split
    · exact (h.modRail he).offRail he
    · exact ((h.modRail he).offRail he).modRail he
  · exact h

/-- A rail that has failed to ramp is FAULTED and off. -/
structure RampFailed (n : Nat) (d : EnDrive) (s : State) : Prop where
  state : s.rstate n = .faulted
  rampFail : (s.railAt n).rampFail = true
  en : (s.railAt n).en = false
  pin : s.pins.en.getD n .highZ = d

theorem RampFailed.kept {d : EnDrive} (h : RampFailed n d s) (hk : RailKept n s t) : RampFailed n d t := by
  refine ⟨?_, ?_, ?_, hk.pin.trans h.pin⟩
  · rw [State.rstate, hk.rail]
    exact h.state
  · rw [hk.rail]
    exact h.rampFail
  · rw [hk.rail]
    exact h.en

/-- The fault of a rail in RAMP whose reaction is not IGNORE (R263, R300). -/
theorem State.takeFault_ramp (hkind : s.rkind e.rail ≠ .none) (hreact : s.reaction e.rail ≠ .ignore) (hramp : s.rstate e.rail = .ramp) :
    (s.takeFault e).1 =
      ((s.modRail e.rail fun r => { r with rampFail := true, inWin := none }).seqEvt 2).offRail e.rail .faulted := by
  simp [State.takeFault, hkind, hreact, hramp]

theorem State.takeFault_of_faulted (hfaulted : s.rstate e.rail = .faulted) : (s.takeFault e).1 = s := by
  simp only [State.takeFault, hfaulted]
  split <;> rfl

/-- The fault of a ramping rail in the midst of the faults of its cycle. -/
theorem State.rampFailed_takeFault (hn : e.rail < 24) (hkind : s.rkind e.rail = .seq) (hreact : s.reaction e.rail = .group)
    (hramp : s.rstate e.rail = .ramp) (hrails : e.rail < s.seq.rails.length) (hpins : e.rail < s.pins.en.length) :
    RampFailed e.rail (s.enDrive e.rail false) (s.takeFault e).1 := by
  have hmarked : SetupKept e.rail s ((s.modRail e.rail fun r => { r with rampFail := true, inWin := none }).seqEvt 2) :=
    SetupKept.refl.modRail.raise hn
  have hfail : (((s.modRail e.rail fun r => { r with rampFail := true, inWin := none }).seqEvt 2).railAt e.rail).rampFail = true := by
    have hevent : ((s.modRail e.rail fun r => { r with rampFail := true, inWin := none }).seqEvt 2).railAt e.rail =
        (s.modRail e.rail fun r => { r with rampFail := true, inWin := none }).railAt e.rail := rfl
    rw [hevent, State.railAt_modRail, if_pos ⟨rfl, hrails⟩]
  rw [State.takeFault_ramp (by simp [hkind]) (by simp [hreact]) hramp]
  generalize (s.modRail e.rail fun r => { r with rampFail := true, inWin := none }).seqEvt 2 = u at hmarked hfail ⊢
  have hen : u.hasEn e.rail = true := State.hasEn_of_seq (hmarked.kind.trans hkind)
  have hlen : e.rail < u.seq.rails.length := hmarked.rails.symm ▸ hrails
  obtain ⟨hstate, hoff, hpin⟩ := State.offRail_spec hen hlen (hmarked.pins.symm ▸ hpins) .faulted
  refine ⟨hstate, ?_, hoff, hpin.trans hmarked.drive⟩
  rw [State.offRail, State.railAt_goRail, if_pos ⟨rfl, (State.setEn_length false hen).symm ▸ hlen⟩, State.railAt_setEn false hen,
    if_pos ⟨rfl, hlen⟩]
  exact hfail

/-! ### The faults of one cycle -/

/-- Step 1 of R311 for one more fault: the state, the faults that count, and the rails whose reaction is to run. -/
def takeNext (a : State × List FaultEv × List Nat) (e : FaultEv) : State × List FaultEv × List Nat :=
  let e := { e with st := a.1.rstate e.rail }
  let (t, cnt, act) := a.1.takeFault e
  (t, if cnt then a.2.1 ++ [e] else a.2.1, if act then a.2.2 ++ [e.rail] else a.2.2)

/-- Step 1 of R311 for a set of faults. -/
def State.faultsTaken (s : State) (evs : List FaultEv) : State × List FaultEv × List Nat := evs.foldl takeNext (s, [], [])

theorem State.faultSet_eq (s : State) (evs : List FaultEv) (grpdn : List Nat) (src : Bool) :
    s.faultSet evs grpdn src =
      (((s.faultsTaken evs).1.countFaults s (s.faultsTaken evs).2.1).runReactions (s.faultsTaken evs).2.2 grpdn src false).settle := rfl

theorem takeNext_fst (a : State × List FaultEv × List Nat) (e : FaultEv) :
    (takeNext a e).1 = (a.1.takeFault { e with st := a.1.rstate e.rail }).1 := rfl

theorem SetupKept.takeNexts {a : State × List FaultEv × List Nat} (h : SetupKept n s₀ a.1) (hn : n < 24) :
    SetupKept n s₀ (evs.foldl takeNext a).1 :=
  List.foldlRecOn (motive := fun a : State × List FaultEv × List Nat => SetupKept n s₀ a.1) evs takeNext h fun _ h _ _ => h.takeFault hn

/-- Once failed, the rail takes no other fault of the set. -/
theorem RampFailed.takeNexts {d : EnDrive} {a : State × List FaultEv × List Nat} (h : RampFailed n d a.1) :
    RampFailed n d (evs.foldl takeNext a).1 := by
  refine List.foldlRecOn (motive := fun a : State × List FaultEv × List Nat => RampFailed n d a.1) evs takeNext h fun a h e _ => ?_
  rw [takeNext_fst]
  by_cases he : n = e.rail
  · rw [State.takeFault_of_faulted (e := { e with st := a.1.rstate e.rail }) (he ▸ h.state)]
    exact h
  · exact h.kept (RailKept.refl.takeFault he)

/-- A set with a fault of a ramping rail, whose reaction is GROUP, takes it. -/
theorem State.rampFailed_takeNexts (hn : n < 24) (hkind : s.rkind n = .seq) (hreact : s.reaction n = .group) (hramp : s.rstate n = .ramp)
    (hrails : n < s.seq.rails.length) (hpins : n < s.pins.en.length) {a : State × List FaultEv × List Nat} (hkept : RailKept n s a.1)
    (hsetup : SetupKept n s a.1) (hmem : ∃ e ∈ evs, e.rail = n) : RampFailed n (s.enDrive n false) (evs.foldl takeNext a).1 := by
  induction evs generalizing a with
  | nil => simp at hmem
  | cons e evs ih =>
    have hnext := takeNext_fst a e
    by_cases he : n = e.rail
    · subst he
      have hstate : a.1.rstate e.rail = .ramp := by rw [State.rstate, hkept.rail]; exact hramp
      have hfailed := State.rampFailed_takeFault (e := { e with st := a.1.rstate e.rail }) hn (hsetup.kind.trans hkind)
        (hsetup.reaction.trans hreact) hstate (hsetup.rails.symm ▸ hrails) (hsetup.pins.symm ▸ hpins)
      rw [hsetup.drive, ← hnext] at hfailed
      exact hfailed.takeNexts
    · have hrest : ∃ e ∈ evs, e.rail = n := by
        obtain ⟨x, hx, hxn⟩ := hmem
        exact ⟨x, (List.mem_cons.mp hx).resolve_left fun heq => he (heq ▸ hxn.symm), hxn⟩
      exact ih (a := takeNext a e) (hnext ▸ hkept.takeFault he) (hnext ▸ hsetup.takeFault hn) hrest

/-- A set of faults in UP with that of a ramping rail whose reaction is GROUP leaves the rail FAULTED and off, whatever the other faults
bring (R306, R308, R311). -/
theorem State.faultSet_ramp (hn : n < 24) (hlists : ListsWf s) (hup : s.seq.state = .up) (hkind : s.rkind n = .seq)
    (hreact : s.reaction n = .group) (hramp : s.rstate n = .ramp) (hmem : ∃ e ∈ evs, e.rail = n) :
    RampFailed n (s.enDrive n false) (s.faultSet evs [] false) := by
  obtain ⟨hpins, -, -, hrails, -⟩ := hlists
  have hfailed : RampFailed n (s.enDrive n false) (s.faultsTaken evs).1 :=
    State.rampFailed_takeNexts hn hkind hreact hramp (hrails ▸ hn) (hpins ▸ hn) .refl .refl hmem
  have hsetup : SetupKept n s (s.faultsTaken evs).1 := SetupKept.takeNexts (a := (s, [], [])) .refl hn
  have hcounted : RailStands n (s.faultsTaken evs).1 ((s.faultsTaken evs).1.countFaults s (s.faultsTaken evs).2.1) :=
    RailStands.refl.countFaults hn
  have hcountedFailed := hfailed.kept hcounted.kept
  obtain ⟨hreacted, hrests⟩ := State.runReactions_keeps_faulted (s.faultsTaken evs).2.2 hn
    (hcounted.reaction.trans (hsetup.reaction.trans hreact)) (hcounted.state.trans (hsetup.state.trans hup)) hcountedFailed.state
  rw [State.faultSet_eq]
  exact (hcountedFailed.kept hreacted).kept (RailKept.settle hrests).1

/-! ### The missed ramp -/

/-- Every timeout that has expired is in the set. -/
theorem State.mem_faultsOf_timeout (hn : n < 24) (hover : s.rampOver n = true) : ∃ e ∈ s.faultsOf [] true, e.rail = n :=
  ⟨{ rail := n, code := .rampTimeout, st := .ramp },
    List.mem_filterMap.mpr ⟨n, List.mem_range.mpr hn, by simp [hover]⟩, rfl⟩

theorem exec_rampTimeout (hover : s.rampOver n = true) (hup : s.seq.state = .up) :
    exec (.rampTimeout n false) s = .next (s.faultSet (s.faultsOf [] true) [] false) := by
  have hedges : s.reactEdges [] true false = s.faultSet (s.faultsOf [] true) [] false := if_neg (by simp [hup])
  exact (if_neg (by simp [hover])).trans (congrArg ok hedges)

theorem rampTimeout_answers (hn : n < 24) (hlists : ListsWf s) (hcounts : s.seqCounts = true) (hup : s.seq.state = .up)
    (hkind : s.rkind n = .seq) (hstop : s.stopDue n = false) (hramp : s.rstate n = .ramp)
    (hover : (s.railAt n).since + (s.railAt n).tmo ≤ s.ticks) (hreact : s.reaction n = .group) :
    Answers (.rampTimeout n false) s fun t =>
      t.rstate n = .faulted ∧ (t.railAt n).rampFail = true ∧ (t.railAt n).en = false ∧ t.pins.en.getD n .highZ = s.enDrive n false := by
  have hexpired : s.rampOver n = true := by simp [State.rampOver, hcounts, hramp, State.passed, hover, hstop]
  obtain ⟨hstate, hfail, hen, hpin⟩ := State.faultSet_ramp hn hlists hup hkind hreact hramp (State.mem_faultsOf_timeout hn hexpired)
  exact .of_exec (exec_rampTimeout hexpired hup) rfl ⟨hstate, hfail, hen, hpin⟩

/-- Settles O30. The timeouts of other rails that have expired by the same tick are in the set of a missed ramp (R311): none of their
reactions, a SYSTEM reaction among them, moves a FAULTED rail. -/
theorem railEventsComplete : Obligations.RailEventsComplete :=
  fun _ _ hn hlists hcounts hup hkind hguard hstop hedge =>
    ⟨railOnInstant_answers hn hlists hcounts hkind hstop,
      fun _ => rampInWindow_answers hn hlists hcounts hup hkind hguard hstop hedge,
      rampTimeout_answers hn hlists hcounts hup hkind hstop, railOffInstant_answers hn hlists hcounts hup hkind hedge,
      dischTimeout_answers hn hlists hcounts hup, retryGapExpiry_answers hn hlists hcounts hkind hstop⟩

end Sys2Proof.Machine
end
